-- ==== Sys2Proof/Word.lean ====
section
/-! DEFINITION. The word types of the SK-4810 (R5: registers are 32 bits wide). -/
namespace Sys2Proof

/-- One 32-bit register or table word (R5). -/
abbrev Word := BitVec 32

/-- One byte of DRAM, of boot flash or of a frame. -/
abbrev Byte := BitVec 8

end Sys2Proof
end

