-- ==== Sys2Proof/Syntax.lean ====
section
/-! DEFINITION. The commands of the bar chip: one constructor per row of the opcode table. `dt` is the time in ns that passes
before the command (log entry 1); the other operands are what its summary names and what the outside world fixes. -/
namespace Sys2Proof

/-- The four access paths (R42, R50). -/
inductive Path where
  | qspi | chain | udp | svc
  deriving DecidableEq, Repr

/-- A monitored supply rail of D1 to D8 (R401). -/
inductive Rail where
  | vcore | vio18
  deriving DecidableEq, Repr

/-- How one try of a PMBus transaction ended: acknowledged, not acknowledged, or with a wrong packet error code (R70). -/
inductive PmbTry where
  | ok | nak | badPec
  deriving DecidableEq, Repr

/-- A PMBus reading (R70): how its tries ended, and the value the regulator answers. -/
structure PmbRead where
  tries : List PmbTry
  value : Nat
  deriving DecidableEq, Repr

/-- Who asked for a burst, for the answer a burst that times out gets (R54, R276, R280): the board's quad-SPI host or the service
firmware, a node with its request's TAG, or a UDP host with its request's TAG. -/
inductive Asker where
  | onPath
  | node (src : Byte) (tag : BitVec 16)
  | host (mac : BitVec 48) (ip : BitVec 32) (port tag : BitVec 16)
  deriving DecidableEq, Repr

/-- How a CCI transfer ended (R214): every byte acknowledged, with the byte a READ returned; no acknowledge; a clock stretched
for more than 1 ms. -/
inductive CciResult where
  | ok (data : Byte) | nak | stretch
  deriving DecidableEq, Repr

/-- What the ECC check of a DRAM block found (R295): clean, `n` words corrected, or an uncorrectable word. -/
inductive Ecc where
  | clean | corrected (n : Nat) | bad
  deriving DecidableEq, Repr

/-- What a lane's receiver has met since the last command that reported it: the invalid symbols received in LOCKED (R256), and for
each SKIP received, by how many symbols the partner's clock has filled the elastic buffer (less than 0: drained it) since the SKIP
before (R259). -/
structure LaneRx where
  bad : Nat
  drift : List Int
  deriving DecidableEq, Repr

/-- A lane, and what its receiver has met. -/
structure LaneMet where
  lane : Fin 48
  rx : LaneRx
  deriving DecidableEq, Repr

/-- A frame as ETH receives it (R278, R287): destination MAC to the end of its payload, and the ns since its start-of-packet code
group passed the ball. -/
structure EthRx where
  bytes : List Byte
  age : Nat
  deriving DecidableEq, Repr

/-- A frame as one lane of a Chain port receives it (R271): the symbol times from the port's first K27.7 to this lane's, and the symbols
between its K27.7 and its K29.7. -/
structure LaneStream where
  skew : Nat
  body : List Byte
  deriving DecidableEq, Repr

/-- The commands. -/
inductive Instr where
  /-- REGISTER_WRITE (R50): A write to a register or table word that has no row of its own is judged for address, domain,
  lock and range, then stored or refused with its status. Operands: the path, the access width in bytes, the address and
  the word. -/
  | registerWrite (dt : Nat) (path : Path) (width : Nat) (addr : BitVec 32) (data : Word)
  /-- WIDE_COUNTER_READ (R42): A read of the low word of a counter wider than 32 bits latches its upper part for the access
  path that made the read. Operands: the path and the low word's address. -/
  | wideCounterRead (dt : Nat) (path : Path) (addr : BitVec 32)
  /-- ENABLE (R32): Writing PAGE_CTRL.ENABLE starts or stops a block and puts its outputs in their reset state, with a pad
  hold release on first drive. Operands: the path, the page and the new ENABLE. -/
  | enable (dt : Nat) (path : Path) (page : Fin 128) (on : Bool)
  /-- QUIESCE_REQ (R442): Writing QUIESCE_REQ = 1 stops new units of work, and sets QUIESCED at once if no unit is in
  progress. Operands: the path and the page. -/
  | quiesceReq (dt : Nat) (path : Path) (page : Fin 128)
  /-- QUIESCE_RELEASE (R442): Writing QUIESCE_REQ = 0 clears QUIESCED and lets queued work start in its usual order.
  Operands: the path and the page. -/
  | quiesceRelease (dt : Nat) (path : Path) (page : Fin 128)
  /-- QUIESCE_COMPLETE (R442): The unit of work in progress at a quiesce request completes and PAGE_STATUS.QUIESCED becomes
  1. Operands: the page whose unit of work completes. -/
  | quiesceComplete (dt : Nat) (page : Fin 128)
  /-- RESET_REQ (R414): A RESET_REQ on a page requests a block reset of that page's group; requests on SYS, RST, OPT, FAB
  or IRQ, and refused requests, record CONFIG. Operands: the path and the page. -/
  | resetReq (dt : Nat) (path : Path) (page : Fin 128)
  /-- SHADOW_COMMIT (R43): Writing SHADOW_COMMIT sets SHADOW_PENDING, or records CONFIG if a commit is already pending; on
  pages with no boundary it applies at once. Operands: the path and the page. -/
  | shadowCommit (dt : Nat) (path : Path) (page : Fin 128)
  /-- ABORT (R47): Writing PAGE_CTRL.ABORT ends every command on the page that is before its commit point as ABORTED.
  Operands: the path and the page. -/
  | abort (dt : Nat) (path : Path) (page : Fin 128)
  /-- DISCARD (R44): Writing SHADOW_CTRL.DISCARD copies the live values into the shadow copy unless a commit is pending.
  Operands: the path and the page. -/
  | discard (dt : Nat) (path : Path) (page : Fin 128)
  /-- PAGE_LOCK_WRITE (R45): A PAGE_LOCK write with key 0x4C4B locks or unlocks the page; a write with any other key is
  ignored. Operands: the path, the page and the word. -/
  | pageLockWrite (dt : Nat) (path : Path) (page : Fin 128) (data : Word)
  /-- EVT_STATUS_CLEAR (R36): A write-1-to-clear of EVT_STATUS bits clears them unless the same event occurs at the same
  instant. Operands: the path, the page, the bits cleared and the bits whose event falls on the same instant (R36). -/
  | evtStatusClear (dt : Nat) (path : Path) (page : Fin 128) (data : Word) (again : Word)
  /-- QSPI_WRITE (R55): A quad-SPI WRITE transaction is buffered whole, its CRC-16 is checked at MCU_CS_N rise, and the
  burst is issued or refused CHECK or LENGTH. Operands: every byte the host sends, opcode to CRC-16. -/
  | qspiWrite (dt : Nat) (bytes : List Byte)
  /-- QSPI_STATUS (R54): A quad-SPI STATUS transaction returns wait bytes, then the marker, the status of the last WRITE
  and the write sequence byte. -/
  | qspiStatus (dt : Nat)
  /-- QSPI_READ (R56): A quad-SPI READ issues its burst at the last bit of its count byte and returns the words, a CRC-16
  and a status byte. Operands: the address and the count byte. -/
  | qspiRead (dt : Nat) (addr : BitVec 32) (count : Byte)
  /-- QSPI_IDENT (R53): A quad-SPI IDENT transaction returns SYS_ID with no wait bytes. -/
  | qspiIdent (dt : Nat)
  /-- QSPI_RESERVED_OPCODE (R53): A transaction with a reserved opcode is ignored and SYS ERR_COUNT3 increments. Operands:
  the opcode. -/
  | qspiReservedOpcode (dt : Nat) (op : Byte)
  /-- QSPI_CUT_SHORT (R56): MCU_CS_N rising early ends a transaction, which writes nothing and increments SYS ERR_COUNT1; a
  READ past its count byte still runs its burst. Operands: the bytes that arrived before MCU_CS_N rose. -/
  | qspiCutShort (dt : Nat) (bytes : List Byte)
  /-- BURST_TIMEOUT (R54): A burst not complete 16 µs after its first word ends, leaving its remaining words unread or
  unwritten, and reports TIMEOUT. Operands: the path, who asked, the burst's address, its words (a write; none: a read), its
  length and how many words completed in 16 µs. -/
  | burstTimeout (dt : Nat) (path : Path) (asker : Asker) (addr : BitVec 32) (words : Option (List Word)) (count done : Nat)
  /-- BEAD_MEASURE (R58): Every 1 µs the bead time is measured against the time base from a replica stage and shown in
  FAB_BEAD_PS. Operands: the bead time measured, ps. -/
  | beadMeasure (dt : Nat) (ps : BitVec 12)
  /-- FAB_PROMOTE (R63): A class 1 to 3 fabric request that reaches its age limit is promoted, and FAB_PROMO of its class
  increments. Operands: the class whose waiting requests are judged, and the least age, in 64 ns steps, of those judged. -/
  | fabPromote (dt : Nat) (cls : Fin 4) (age : Nat)
  /-- FAB_C0_LAT_MAX_READ (R77): A read of FAB_C0_LAT_MAX returns the longest fire-class DRAM service time and then clears
  it. Operands: the path. -/
  | fabC0LatMaxRead (dt : Nat) (path : Path)
  /-- PACE_WINDOW_END (R65): After PACE_WINDOW fired lines the minimum slack of each pipeline is recorded in PACE_SLACK,
  and PACESLOW is raised if any slack is below RAISE. Operands: for each pipeline the least slack of the units no other command
  times, in 1/256 line period (32,767: none). -/
  | paceWindowEnd (dt : Nat) (slack : List Int)
  /-- PACE_SERVICE_UPDATE (R68): At every window end, and at least every 100 µs, the pace service raises, lowers or holds
  the VCORE set-point by its rule. -/
  | paceServiceUpdate (dt : Nat)
  /-- PACE_TEMP_UPDATE (R67): A new Tj reading updates PACE_TEMP and moves PACE_VMIN between temperature columns with a 3
  °C hysteresis, raising THERMHI above 105 °C. Operands: the hottest sensor's Tj, signed, 0.25 °C. -/
  | paceTempUpdate (dt : Nat) (tj : BitVec 10)
  /-- VBELOW (R73): The on-die VCORE comparator trips below PACE_VMIN, which clears VCORE_OK and raises VBELOW. Operands:
  VCORE at the comparator, mV. -/
  | vbelow (dt : Nat) (mv : Nat)
  /-- PACE_SETPOINT_WRITE (R70): A write to PACE_SETPOINT within range starts a PMBus ramp command; a write outside range
  is refused with CONFIG. Operands: the path and the word. -/
  | paceSetpointWrite (dt : Nat) (path : Path) (data : Word)
  /-- PACE_RAMP_STEP (R70): After SETTLE_US a ramp step reads READ_VOUT and sends the next step, or ends the ramp DONE,
  VOUTMISMATCH or PMBNAK after retries. Operands: how the tries of the VOUT_COMMAND sent last went, and the
  READ_VOUT in mV. -/
  | paceRampStep (dt : Nat) (sends : List PmbTry) (read : PmbRead)
  /-- PMB_ENABLE (R70): When PMB_EN goes to 1 the PMBus master reads VOUT_MODE to take the LINEAR16 exponent. Operands: the
  path, the PACE_CTRL word written and the reading of VOUT_MODE. -/
  | pmbEnable (dt : Nat) (path : Path) (data : Word) (mode : PmbRead)
  /-- PMB_ALERT (R71): When PMB_ALERT_N falls, the master reads STATUS_WORD into PACE_PMB_STATUS and raises VRALERT.
  Operands: the reading of STATUS_WORD. -/
  | pmbAlert (dt : Nat) (status : PmbRead)
  /-- GUARBACK (R74): After GUAR_OK has stayed 1 without a break for 2 × L, GUARBACK is raised. -/
  | guarback (dt : Nat)
  /-- CHAIN_JOB (R275): A JOB frame delivers 1 to 63 page descriptors to the INTAKE queue, each judged alone, or is counted
  in CHAIN_DROP_ACCEPT while ACCEPT is 0. Operands: the JOB frame's payload. -/
  | chainJob (dt : Nat) (payload : List Byte)
  /-- INTAKE_DESC_PUSH (R78): Writing INTAKE_DESC_PUSH pushes INTAKE_DESC(0) to (7) as one descriptor into the job queue.
  Operands: the path and the word. -/
  | intakeDescPush (dt : Nat) (path : Path) (data : Word)
  /-- PAGE_ARM (R81): When a sequencer slot is free, the first queued page is armed and its start position is fixed. -/
  | pageArm (dt : Nat)
  /-- CUE (R197): A rising edge accepted by the cue filter latches WEB_CUE_POS and WEB_CUE_T, raises CUE, and fixes the
  start of an armed AT_CUE page. Operands: whether the accepted edge rises. -/
  | cue (dt : Nat) (level : Bool)
  /-- PAGE_ELIGIBLE (R98): When the web comes within 64 line pitches of band 0's due position, the bands of an armed page
  become eligible for inflation. -/
  | pageEligible (dt : Nat)
  /-- BAND_DUE (R98): When the web reaches a band's due position, the rods begin mapping the band if it is verified or
  BLANK; otherwise the band is blanked with LATE or MISSING. -/
  | bandDue (dt : Nat)
  /-- CHAIN_BAND (R91): A BAND segment is handled by the first applicable case, continuing, restarting, dropping or failing
  the band's stream, with header and COMP_CRC checks. Operands: the segment a BAND frame carries. -/
  | chainBand (dt : Nat) (seg : List Byte)
  /-- BAND_DISPATCH (R94): The dispatcher starts the next band in print order on idle enabled engines once its stream has
  passed intake and a staging slot is free. -/
  | bandDispatch (dt : Nat)
  /-- STRIP_DONE (R96): An engine finishes its strip; when every strip of the band has finished, the collector checks
  STORECRC and UNCCRC and verifies or fails the band. Operands: the engines that finish at this instant. -/
  | stripDone (dt : Nat) (es : List (Fin 16))
  /-- STRIPFAIL (R95): A strip fails on ECC or INFLATE, stopping every other strip of the band, freeing the staging slot
  and posting a failure record. Operands: the engines whose strips fail at this instant. -/
  | stripfail (dt : Nat) (es : List (Fin 16))
  /-- INTAKE_FAIL_POP (R102): Writing 1 to INTAKE_FAIL_POP removes the oldest failure record from the queue. Operands: the
  path and the word. -/
  | intakeFailPop (dt : Nat) (path : Path) (data : Word)
  /-- CANCEL_JOB (R104): The INTAKE CANCEL_JOB command removes every queued descriptor and armed page of the job and frees
  its stored bands. Operands: the path and the job. -/
  | cancelJob (dt : Nat) (path : Path) (job : BitVec 16)
  /-- CLEAR_QUEUE (R104): The INTAKE CLEAR_QUEUE command removes every queued descriptor of every job and leaves the
  sequencer untouched. Operands: the path. -/
  | clearQueue (dt : Nat) (path : Path)
  /-- INFL_BAND_TIME_MAX_READ (R105): A read of INFL_BAND_TIME_MAX returns the longest band time since the last read and
  then clears it. Operands: the path. -/
  | inflBandTimeMaxRead (dt : Nat) (path : Path)
  /-- MAP_NOZZLES_WRITE (R108): A write of MAP_NOZZLES takes effect at once, is refused while DELAY is enabled, and clears
  INACT_VALID if the value changes. Operands: the path and the word. -/
  | mapNozzlesWrite (dt : Nat) (path : Path) (data : Word)
  /-- NOZZLE_MAP_WRITE (R117): A write to the inactive nozzle map bank is stored and clears INACT_VALID; writes to the live
  bank or during VALIDATE or COPY_LIVE are ignored with CONFIG. Operands: the path, the byte offset in the nozzle map
  window and the word. -/
  | nozzleMapWrite (dt : Nat) (path : Path) (ofs : BitVec 24) (data : Word)
  /-- TABLE_WINDOW_WRITE (R27): A write to a threshold, history, compare or camera table window goes to the inactive bank
  only and is otherwise ignored with CONFIG. Operands: the path, the address in a table window and the word. -/
  | tableWindowWrite (dt : Nat) (path : Path) (addr : BitVec 32) (data : Word)
  /-- MAP_COPY_LIVE (R119): The MAP COPY_LIVE command copies the live map bank and its window bases into the inactive bank
  and sets INACT_VALID. Operands: the path. -/
  | mapCopyLive (dt : Nat) (path : Path)
  /-- VALIDATE (R117): The MAP VALIDATE command checks every entry of the inactive bank in order and ends DONE with
  INACT_VALID set, or ERROR with the failing code and nozzle. Operands: the path. -/
  | validate (dt : Nat) (path : Path)
  /-- SCREEN_COPY_LIVE (R119): The SCREEN COPY_LIVE command copies the live threshold bank into the inactive one. Operands:
  the path. -/
  | screenCopyLive (dt : Nat) (path : Path)
  /-- TABLE_COMMAND_DONE (R119): A COPY_LIVE or VALIDATE command finishes within 1 ms and leaves BUSY with DONE or ERROR,
  raising CMDDONE. Operands: the page whose table command finishes. -/
  | tableCommandDone (dt : Nat) (page : Fin 128)
  /-- MAP_TRIM_DATA_WRITE (R122): A write of MAP_TRIM_DATA stores a staged trim word when FW_OWN is 1 and VIEW is 0,
  otherwise records CONFIG, and advances MAP_TRIM_ADDR. Operands: the path and the word. -/
  | mapTrimDataWrite (dt : Nat) (path : Path) (data : Word)
  /-- MAP_TRIM_DATA_READ (R122): A read of MAP_TRIM_DATA returns the staged or live trim word selected by VIEW and advances
  MAP_TRIM_ADDR. Operands: the path. -/
  | mapTrimDataRead (dt : Nat) (path : Path)
  /-- LINE_MAP (R110): A contone line is broadcast to the rods, its CRC is rechecked, and every working rod maps,
  compensates and screens its nozzles and posts its segment and check word to DELAY. Operands: pixels a staging upset has
  changed, table words, trims (from 2^32 live, from 2^33 staged) and slot tags (from 2^34) found uncorrectable, single-bit
  errors corrected on MAP and SCREEN, and rods whose segment changes on its way to DELAY. -/
  | lineMap (dt : Nat) (upset : List (Nat × Byte)) (newBad : List Nat) (fixedMap fixedTile : Nat) (rodUpset : List (Fin 64))
  /-- FIRE_PITCH_DEN_WRITE (R130): A write of FIRE_PITCH_DEN is held until the next write of FIRE_PITCH_NUM. Operands: the
  path and the word. -/
  | firePitchDenWrite (dt : Nat) (path : Path) (data : Word)
  /-- FIRE_PITCH_NUM_WRITE (R130): A write of FIRE_PITCH_NUM applies the held pitch pair, or refuses it with CONFIG if out
  of range or while FIRE runs. Operands: the path and the word. -/
  | firePitchNumWrite (dt : Nat) (path : Path) (data : Word)
  /-- FIRE_EVAL (R144): At every accepted edge and every 16 ns FIRE evaluates the web position, decides ticks that have
  passed their decision point, and computes and commits trigger instants. Operands: the serialisation time of a frame
  started now, ps (R64). -/
  | fireEval (dt : Nat) (ser : Nat)
  /-- ROW_READ_DONE (R138): A row read returns; a tag serial mismatch serves level 0 and records the line ZERO with
  RINGLATE, and an uncorrectable error suppresses the head's frame. Operands: the head, the row and the serialisation time
  of a frame started now, ps. -/
  | rowReadDone (dt : Nat) (h : Fin 32) (r : Fin 8) (ser : Nat)
  /-- TRIGGER_EDGE (R145): At its committed instant a head's trigger goes active, and FIRE sends the frame's drop counts to
  Tally. Operands: the head. -/
  | triggerEdge (dt : Nat) (h : Fin 32)
  /-- TRIGGER_PULSE_END (R145): After FIRE_PULSE ns the trigger returns inactive. Operands: the head. -/
  | triggerPulseEnd (dt : Nat) (h : Fin 32)
  /-- TAPCAL (R147): Every 1 ms the tap calibrator measures elements per ns on each head and moves the tap settings by the
  background rule, raising TAPCAL after 16 disagreements. Operands: the head and the elements measured in 1 ns. -/
  | tapcal (dt : Nat) (h : Fin 32) (m : Fin 97)
  /-- ESTOP (R152): ESTOP_N going low closes the inhibit gate on every trigger, latches ESTOP_LATCH, sends FLUSH to every
  head and enters INHIBIT from RUN. Operands: whether ESTOP_N goes low, and the length in ns of a low pulse that has ended
  again (0: it stays at the level given). -/
  | estop (dt : Nat) (low : Bool) (ns : Nat)
  /-- STROBEFAULT (R154): The strobe watchdog forces a trigger pair held active too long to inactive, latches its FIRE_WDOG
  bit and raises STROBEFAULT. Operands: the head. -/
  | strobefault (dt : Nat) (h : Fin 32)
  /-- FIRE_WDOG_CLEAR (R154): Writing 1 to a FIRE_WDOG bit clears the watchdog fault so the head takes part again from the
  next decision. Operands: the path and the word. -/
  | fireWdogClear (dt : Nat) (path : Path) (data : Word)
  /-- FIRE_START (R152): The FIRE START command enters RUN or INHIBIT with the benchmark at the present position, or ends
  NOTREADY with DELAY disabled. Operands: the path. -/
  | fireStart (dt : Nat) (path : Path)
  /-- FIRE_STOP (R149): The FIRE STOP command returns FIRE to READY with triggers inactive, FLUSH to every head and the
  grid unanchored. Operands: the path. -/
  | fireStop (dt : Nat) (path : Path)
  /-- FIRE_RESUME (R153): The FIRE RESUME command clears ESTOP_LATCH and enters RUN, or ends ESTOPACTIVE while ESTOP_N is
  low. Operands: the path. -/
  | fireResume (dt : Nat) (path : Path)
  /-- FIRE_HIST_COPY_LIVE (R143): The FIRE_HIST_CMD COPY_LIVE command copies the live history table bank into the inactive
  one. Operands: the path. -/
  | fireHistCopyLive (dt : Nat) (path : Path)
  /-- KEEPALIVE_SEND (R164): Every HLINK_KA_PERIOD the bar chip sends a keepalive with its claim, sequence and CRC-8 to
  each head in use, deferred past any line frame. Operands: the head. -/
  | keepaliveSend (dt : Nat) (h : Fin 32)
  /-- HLINK_HCMD (R187): A write of HLINK_HCMD issues a head command, sent when the head has valid telemetry or ended ERROR
  HEADLOST otherwise. Operands: the path and the word. -/
  | hlinkHcmd (dt : Nat) (path : Path) (data : Word)
  /-- HEAD_RESPONSE (R173): A response frame from a head ends its pending command DONE or NACK and stores its data.
  Operands: the head, the frame body and whether its CRC-32 passes. -/
  | headResponse (dt : Nat) (h : Fin 32) (body : List Byte) (crcOk : Bool)
  /-- HLINK_CMD_TIMEOUT (R172): With no valid response within HLINK_CMD_TIMEOUT the command is resent, and after the third
  resend it ends TIMEOUT with CMDFAIL. Operands: the head. -/
  | hlinkCmdTimeout (dt : Nat) (h : Fin 32)
  /-- HEAD_TELEMETRY (R184): A telemetry frame updates the head's state, counters and READY judgement, marks missed lines
  PARTIAL and may start a rejoin or resync. Operands: the head, the frame body and whether its CRC-32 passes. -/
  | headTelemetry (dt : Nat) (h : Fin 32) (body : List Byte) (crcOk : Bool)
  /-- HEADLOST (R26): With no valid telemetry for HLINK_LOSS_TIME the head leaves READY, HEADLOST is raised and its trigger
  is held inactive. Operands: the head. -/
  | headlost (dt : Nat) (h : Fin 32)
  /-- HLINK_REJOIN (R186): Writing HLINK_REJOIN starts a rejoin by FLUSH for each marked head whose HOLD is clear.
  Operands: the path and the word. -/
  | hlinkRejoin (dt : Nat) (path : Path) (data : Word)
  /-- REJOIN_RETRY (R186): A rejoin that has not brought the head to READY within 100 µs is repeated while its conditions
  hold. Operands: the head. -/
  | rejoinRetry (dt : Nat) (h : Fin 32)
  /-- HEADS_HOLD_WRITE (R190): A write of HEADS_HOLD takes a head out of, or lets it back into, READY from the next line
  decision. Operands: the path, the head and the word. -/
  | headsHoldWrite (dt : Nat) (path : Path) (h : Fin 32) (data : Word)
  /-- ENC_TRANSITION (R198): An accepted A or B transition counts one step, updates the speed estimator and tests the
  compare outputs for a hit. Operands: the encoder, which of its lines changed level, and the serialisation time of a frame
  started now, ps. -/
  | encTransition (dt : Nat) (e : Fin 2) (lineB : Bool) (ser : Nat)
  /-- ENCILL (R193): A simultaneous change of A and B is an illegal transition that leaves the count, resynchronises the
  estimator and may declare the encoder faulty. Operands: the encoder. -/
  | encill (dt : Nat) (e : Fin 2)
  /-- INDEX (R195): An accepted index latches the datum and acts on IDX_MODE, withheld with IDXSKIP for ENC0 while FIRE
  runs. Operands: the encoder. -/
  | index (dt : Nat) (e : Fin 2)
  /-- STANDSTILL (R198): With no accepted edge for WEB_STANDSTILL the speed becomes invalid and STANDSTILL is raised once.
  Operands: the encoder. -/
  | standstill (dt : Nat) (e : Fin 2)
  /-- CMP_DELAYED_PULSE (R205): For a hit with DELAY of 64 ns or more, the compare pulse starts on the time base at the
  edge time plus DELAY. Operands: the compare output. -/
  | cmpDelayedPulse (dt : Nat) (c : Fin 8)
  /-- CMP_PULSE_END (R205): A compare pulse ends after its WIDTH. Operands: the compare output. -/
  | cmpPulseEnd (dt : Nat) (c : Fin 8)
  /-- STAKE_SEND (R201): Every WEB_STAKE_PERIOD µs WEB sends a stake word from its ENC0 data to STAKE_TX_NODE. -/
  | stakeSend (dt : Nat)
  /-- STAKE_RECEIVE (R201): A received stake word is accepted or dropped with STAKEBAD, restarts the stake age and may
  supply position or change the source. Operands: the 18 bytes of the stake word. -/
  | stakeReceive (dt : Nat) (word : List Byte)
  /-- STAKESTALE (R201): A stake age beyond WEB_STAKE_FRESH raises STAKESTALE and may make the position invalid. -/
  | stakestale (dt : Nat)
  /-- ARM_INDEX0 (R195): The WEB ARM_INDEX0 command arms ENC0 for an ARM_ONCE index reload. Operands: the path. -/
  | armIndex0 (dt : Nat) (path : Path)
  /-- ARM_INDEX1 (R195): The WEB ARM_INDEX1 command arms ENC1 for an ARM_ONCE index reload. Operands: the path. -/
  | armIndex1 (dt : Nat) (path : Path)
  /-- LOAD (R208): The WEB LOAD command sets WEB_CNT(e) to WEB_LOAD_VAL, or ends RUNNING for ENC0 while FIRE runs.
  Operands: the path and the encoder. -/
  | load (dt : Nat) (path : Path) (e : Fin 2)
  /-- LEARN_OFS (R208): The WEB LEARN_OFS command sets WEB_STAKE_OFS from the next accepted word, or ends NOSTAKE.
  Operands: the path. -/
  | learnOfs (dt : Nat) (path : Path)
  /-- ENC_RESUME (R202): The WEB ENC_RESUME command returns the position source to ENC0, clearing its fault and resetting
  the estimator. Operands: the path. -/
  | encResume (dt : Nat) (path : Path)
  /-- CMP_RESTART (R204): The WEB CMP_RESTART command sets each masked compare output to its FIRST entry and latches that
  entry. Operands: the path and the mask. -/
  | cmpRestart (dt : Nat) (path : Path) (mask : BitVec 8)
  /-- WEB_SRC_WRITE (R202): A write of WEB_CTRL.SRC changes the position source between ENC0 and the stake, or is refused
  while FIRE runs. Operands: the path and the WEB_CTRL word. -/
  | webSrcWrite (dt : Nat) (path : Path) (data : Word)
  /-- ENC_POS_READ (R199): A read of ENC_POS latches WEB_X_TIME, WEB_T_COUNT and WEB_SPEED for that access path. Operands:
  the path. -/
  | encPosRead (dt : Nat) (path : Path)
  /-- CAM_FRAME_START (R211): A CSI-2 frame start is accepted into the open window or skipped, starts any queued CCI list
  and applies the port's shadow and bank swaps. Operands: the port and the frame number of the frame-start packet. -/
  | camFrameStart (dt : Nat) (p : Fin 4) (num : BitVec 16)
  /-- CAM_LINE (R212): A long packet line is checked, corrected and placed, flagging malformed lines and feeding the port
  streams. Operands: the port, whether the packet header can be used, its channel and data type, the pixels as sent,
  whether its CRC-16 passes, the pixels before a buffer overrun, and whether table words read for it were uncorrectable or
  how many were corrected. -/
  | camLine (dt : Nat) (p : Fin 4) (hdrOk : Bool) (vc : BitVec 4) (dt : BitVec 6) (px : List (BitVec 12)) (crcOk : Bool) (ovr : Option Nat) (bad : Bool) (fixed : Nat)
  /-- CAM_FRAME_END (R212): A frame end completes the frame, padding missing lines, posting frame statistics and writing S2
  records. Operands: the port. -/
  | camFrameEnd (dt : Nat) (p : Fin 4)
  /-- FRAMEMISS (R211): A camera window that closes with no frame start ends as missing and may raise CAMLOST. Operands:
  the port. -/
  | framemiss (dt : Nat) (p : Fin 4)
  /-- QUEUE_FS (R214): The CCI QUEUE_FS command queues the list with its SET_ID to start at the port's next frame start.
  Operands: the path, the port and SET_ID. -/
  | queueFs (dt : Nat) (path : Path) (p : Fin 4) (setId : Byte)
  /-- RUN_NOW (R214): The CCI RUN_NOW command starts the list at once with the SET_ID unchanged. Operands: the path and the
  port. -/
  | runNow (dt : Nat) (path : Path) (p : Fin 4)
  /-- CCI_READ (R214): The CCI READ command reads one sensor register into CAM_CCI_RDATA. Operands: the path, the port and
  the sensor register. -/
  | cciRead (dt : Nat) (path : Path) (p : Fin 4) (reg : BitVec 16)
  /-- CCI_LIST_DONE (R215): A CCI list or read completes, ends with CCINAK or TIMEOUT, and fixes the frame stamps of R215.
  Operands: the port, the entries written and how the transfer ended. -/
  | cciListDone (dt : Nat) (p : Fin 4) (entries : Fin 33) (res : CciResult)
  /-- CAM_FSTAT_NO_READ (R230): A read of CAM_FSTAT_NO latches the statistics of that frame for the access path. Operands:
  the path and the port. -/
  | camFstatNoRead (dt : Nat) (path : Path) (p : Fin 4)
  /-- ISP_COPY_LIVE (R231): The ISP COPY_LIVE command copies the live camera banks of the masked ports into their inactive
  banks. Operands: the path and the port mask. -/
  | ispCopyLive (dt : Nat) (path : Path) (mask : BitVec 4)
  /-- INSPECT_READ (R222): When every enabled port has delivered or skipped a line, its single inspection read is issued
  from the delay ring. -/
  | inspectRead (dt : Nat)
  /-- INSPECT_READ_DONE (R227): An inspection read returns, and the comparator renders and judges the line and Traverse
  accumulates it, or it is skipped for tag or map. -/
  | inspectReadDone (dt : Nat)
  /-- INSPECT_DEF_POP (R232): Writing 1 to INSPECT_DEF_POP removes the oldest defect report. Operands: the path and the
  word. -/
  | inspectDefPop (dt : Nat) (path : Path) (data : Word)
  /-- TRAV_WINDOW_CLOSE (R236): When every serial of a window is inspected or excluded, Traverse forms estimates and
  medians and applies agreed steps in nozzle order. Operands: nozzles whose state word is found uncorrectable. -/
  | travWindowClose (dt : Nat) (bad : List Nat)
  /-- TRAV_LEASE (R246): A write of TRAV_LEASE renews the Traverse lease. Operands: the path and the word. -/
  | travLease (dt : Nat) (path : Path) (data : Word)
  /-- LEASELOST (R246): A lease not renewed within TRAV_LEASE_TIME expires, clearing LEASE_OK and raising LEASELOST. -/
  | leaselost (dt : Nat)
  /-- FREEZE (R249): The TRAV FREEZE command excludes every line until THAW. Operands: the path. -/
  | freeze (dt : Nat) (path : Path)
  /-- THAW (R249): The TRAV THAW command ends a freeze. Operands: the path. -/
  | thaw (dt : Nat) (path : Path)
  /-- RESET_STATE (R249): The TRAV RESET_STATE command returns a range of nozzles to IDLE. Operands: the path. -/
  | resetState (dt : Nat) (path : Path)
  /-- UNMISS (R242): The TRAV UNMISS command stages TMISS = 0 for the MISSING nozzles of a range, or ends FWOWN. Operands:
  the path. -/
  | unmiss (dt : Nat) (path : Path)
  /-- SPLICE (R238): The TRAV SPLICE command, or an accepted splice input edge, marks a splice and opens or extends its
  span. Operands: the path of the command, or none for an accepted edge of the splice input. -/
  | splice (dt : Nat) (edge : Option Path)
  /-- RESYNC_SUB (R245): The TRAV RESYNC_SUB command sends a head's whole sub-delay copy in SUBDELAY_WRITE frames, or ends
  NOHEAD. Operands: the path and the head. -/
  | resyncSub (dt : Nat) (path : Path) (h : Fin 32)
  /-- TRAV_SUB_DATA_WRITE (R245): A write of TRAV_SUB_DATA restores a sub-delay copy, clears the head's sync bit and
  advances TRAV_NOZ_ADDR, or is refused while PLACE_APPLY is 1. Operands: the path and the word. -/
  | travSubDataWrite (dt : Nat) (path : Path) (data : Word)
  /-- TRAV_SUB_DATA_READ (R248): A read of TRAV_SUB_DATA returns a sub-delay copy and advances TRAV_NOZ_ADDR. Operands: the
  path. -/
  | travSubDataRead (dt : Nat) (path : Path)
  /-- TRAV_NOZ_EST_READ (R248): A read of TRAV_NOZ_EST returns a nozzle's last estimates and advances TRAV_NOZ_ADDR.
  Operands: the path. -/
  | travNozEstRead (dt : Nat) (path : Path)
  /-- PLL_LOCK (R251): An enabled PLL with its reference present locks and sets its lock bit in LANEQ_STATUS. Operands: the
  quad and the PLL. -/
  | pllLock (dt : Nat) (q : Fin 12) (pll : Fin 2)
  /-- PLLUNLOCK (R251): A PLL loses lock, raising PLLUNLOCK, idling its transmitters and sending its receivers to SQUELCH.
  Operands: the quad and the PLL. -/
  | pllunlock (dt : Nat) (q : Fin 12) (pll : Fin 2)
  /-- REFLOST (R251): A quad reference absent for 1 µs clears REF_OK, raises REFLOST and idles the quad's lanes. Operands:
  the quad. -/
  | reflost (dt : Nat) (q : Fin 12)
  /-- LANE_CFG_WRITE (R252): A write of LANE_CFG assigns the lane's role, PLL and divider at once, or is refused with
  CONFIG. Operands: the path, the lane and the word. -/
  | laneCfgWrite (dt : Nat) (path : Path) (l : Fin 48) (data : Word)
  /-- EI_ENTRY (R258): Writing EI_REQ = 1 sends the electrical-idle entry after any frame in transmission. Operands: the
  path and the lane. -/
  | eiEntry (dt : Nat) (path : Path) (l : Fin 48)
  /-- EI_EXIT (R257): Writing EI_REQ = 0 starts the fast exit of training burst, SKIP hold and then role traffic. Operands:
  the path and the lane. -/
  | eiExit (dt : Nat) (path : Path) (l : Fin 48)
  /-- LOOP_SET (R264): A write of LANE_CTRL.LOOP selects a loopback on a TEST lane and restarts its receiver in SQUELCH.
  Operands: the path, the lane and LOOP. -/
  | loopSet (dt : Nat) (path : Path) (l : Fin 48) (loop : BitVec 3)
  /-- ERR_INJ (R265): Writing 1 to ERR_INJ inverts one transmitted bit at the next word boundary. Operands: the path and
  the lane. -/
  | errInj (dt : Nat) (path : Path) (l : Fin 48)
  /-- LANE_SIGNAL_DETECT (R256): A signal above the squelch threshold for 100 ns moves the receiver from SQUELCH to HUNT.
  Operands: the lane. -/
  | laneSignalDetect (dt : Nat) (l : Fin 48)
  /-- LOCKUP (R256): Three K28.5 at one alignment move the receiver to LOCKED and raise LOCKUP. Operands: the lane. -/
  | lockup (dt : Nat) (l : Fin 48)
  /-- LOCKLOST (R256): Four invalid symbols within 16, or a squelch without idle entry, drop the receiver from LOCKED and
  raise LOCKLOST. Operands: the lane, whether the signal is squelched, and what its receiver has met. -/
  | locklost (dt : Nat) (l : Fin 48) (squelch : Bool) (rx : LaneRx)
  /-- EI_RECEIVED (R256): A received electrical-idle entry moves the receiver to SQUELCH in order, freezing its equaliser,
  CDR and eye. Operands: the lane and what its receiver has met. -/
  | eiReceived (dt : Nat) (l : LaneMet)
  /-- ELASTERR (R260): An elastic buffer overflow or underflow recentres the buffer, passes an error symbol and raises
  ELASTERR. Operands: the lane and what its receiver has met before: invalid symbols, and the drift at each SKIP. -/
  | elasterr (dt : Nat) (l : Fin 48) (bad : Nat) (drift : List Int)
  /-- EYE_SWEEP (R262): Every LANE_EYE_CFG.PERIOD µs a locked lane sweeps its eye and moves its sampling phase by the
  background rule. Operands: the lane, the positions that pass (bit i: position i), what its receiver has met, and the
  equaliser values adaptation has reached. -/
  | eyeSweep (dt : Nat) (l : Fin 48) (pass : BitVec 64) (rx : LaneRx) (ctle : BitVec 4) (dfe : BitVec 30)
  /-- PRBS_LOCK (R265): The PRBS checker gains PRBS_LOCK after 64 consecutive correct bits. Operands: the lane. -/
  | prbsLock (dt : Nat) (l : Fin 48)
  /-- PRBSERR (R265): More than 32 errors in 1,024 bits drop PRBS_LOCK, raise PRBSERR and reseed the checker. Operands: the
  lane, the bit errors since PRBS_LOCK or the last report, and the most of them within 1,024 bits. -/
  | prbserr (dt : Nat) (l : Fin 48) (errs worst : Nat)
  /-- CHAIN_FRAME_RECEIVE (R273): A received Chain frame is checked, then delivered, forwarded by its DST, or dropped and
  counted. Operands: the port code, what each lane that got a K27.7 carried, in the order of TRUNK_POS, whether every symbol was
  valid, and the ns since the first K27.7 passed the ball. -/
  | chainFrameReceive (dt : Nat) (port : Fin 64) (lanes : List LaneStream) (symOk : Bool) (age : Nat)
  /-- CHAIN_TX_NEXT (R274): When a port ends a frame, it chooses the next waiting frame from the highest priority level,
  oldest first. Operands: the port code. -/
  | chainTxNext (dt : Nat) (port : Fin 64)
  /-- REGRD (R276): A Chain REGRD request reads a burst of registers and is answered with one REGRSP. Operands: the
  requesting node and the payload. -/
  | regrd (dt : Nat) (src : Fin 64) (payload : List Byte)
  /-- REGWR (R276): A Chain REGWR request writes a burst of registers and is answered with one REGRSP. Operands: the
  requesting node and the payload. -/
  | regwr (dt : Nat) (src : Fin 64) (payload : List Byte)
  /-- REGRSP (R275): A received REGRSP frame is counted in ERR_COUNT1, because the bar chip never makes requests. Operands:
  the payload. -/
  | regrsp (dt : Nat) (payload : List Byte)
  /-- CHAIN_EVENT (R275): A received EVENT frame is delivered to the service firmware log. Operands: the sending node and
  the payload. -/
  | chainEvent (dt : Nat) (src : Fin 64) (payload : List Byte)
  /-- KEEP_SEND (R277): Every CHAIN_KEEP_PERIOD the bar chip broadcasts a KEEP frame with its store, page and time state. -/
  | keepSend (dt : Nat)
  /-- KEEP (R277): A received KEEP frame sets the sender's CHAIN_SEEN bit and raises CHAINBACK if the node was lost.
  Operands: the sending node and the payload. -/
  | keep (dt : Nat) (src : Fin 64) (payload : List Byte)
  /-- CHAINLOST (R277): A watched node that has sent no KEEP within CHAIN_KEEP_TIMEOUT is marked absent and CHAINLOST is
  raised. Operands: the node. -/
  | chainlost (dt : Nat) (node : Fin 64)
  /-- ETH_FRAME_RECEIVE (R278): A received Ethernet frame is delivered to ARP, UDP or PTP handling, or dropped and counted.
  Operands: the frame and whether its FCS is right. -/
  | ethFrameReceive (dt : Nat) (frame : EthRx) (fcsOk : Bool)
  /-- ETH_LINK_CHANGE (R278): The Ethernet link comes up or goes down with clause 36 synchronisation and auto-negotiation,
  raising LINKUP or LINKDOWN. Operands: clause 36 synchronisation, negotiation completed, the partner advertises full
  duplex, and a remote fault is signalled. -/
  | ethLinkChange (dt : Nat) (sync anDone fullDuplex remoteFault : Bool)
  /-- TIME_SYNC_SEND (R284): Every TIME_SYNC_PERIOD a bar sends TIME_SYNC on each master port, and an exchange still
  without its TIME_DLYRSP is counted lost. -/
  | timeSyncSend (dt : Nat)
  /-- TIME_SYNC (R284): A TIME_SYNC on the slave port is time-stamped and answered at once with a TIME_DLYREQ. Operands:
  the port code, the payload and the ns since its K27.7 passed the ball. -/
  | timeSync (dt : Nat) (port : Fin 64) (payload : List Byte) (age : Nat)
  /-- TIME_DLYREQ (R284): A TIME_DLYREQ on any port is answered at once with a TIME_DLYRSP. Operands: the port code, the
  payload and the ns since its K27.7 passed the ball. -/
  | timeDlyreq (dt : Nat) (port : Fin 64) (payload : List Byte) (age : Nat)
  /-- TIME_DLYRSP (R284): A TIME_DLYRSP completes an exchange, and the offset goes to the servo. Operands: the port code
  and the payload. -/
  | timeDlyrsp (dt : Nat) (port : Fin 64) (payload : List Byte)
  /-- TIME_OFS_IN (R285): A write of TIME_OFS_IN passes an offset to the servo when TIME_CTRL.SRC is 2. Operands: the path
  and the word. -/
  | timeOfsIn (dt : Nat) (path : Path) (data : Word)
  /-- STEP (R286): The TIME STEP command adds TIME_STEP_VAL to TIME_NS, or ends RUNNING while FIRE runs. Operands: the
  path. -/
  | step (dt : Nat) (path : Path)
  /-- TIMEWRAP (R282): TIME_NS wraps and TIMEWRAP is raised. -/
  | timewrap (dt : Nat)
  /-- TIME_EPOCH_WRAP_WRITE (R283): A write of TIME_EPOCH_WRAP applies the held epoch registers together. Operands: the
  path and the word. -/
  | timeEpochWrapWrite (dt : Nat) (path : Path) (data : Word)
  /-- TIME_NS_READ (R283): A read of TIME_NS latches TIME_WRAP and the applied epoch registers for that access path.
  Operands: the path. -/
  | timeNsRead (dt : Nat) (path : Path)
  /-- LQ_PUSH (R289): Writing LQ_PUSH adds an entry to a launch queue, or is refused with CONFIG when the queue is full or
  LEN is out of range. Operands: the path, and ETH or CHAIN. -/
  | lqPush (dt : Nat) (path : Path) (eth : Bool)
  /-- LAUNCH (R288): The head launch entry leaves at its launch instant, at once when late, or as NOTSENT, and posts a
  stamp. Operands: ETH or CHAIN. -/
  | launch (dt : Nat) (eth : Bool)
  /-- LQ_STAMP_POP (R289): Writing LQ_STAMP_POP removes the oldest launch stamp and clears STAMP_LOST. Operands: the path,
  and ETH or CHAIN. -/
  | lqStampPop (dt : Nat) (path : Path) (eth : Bool)
  /-- DRAM_BLOCK_ISSUE (R298): A channel picks its next 64-byte block by class, promotion, eligibility and excess, oldest
  first. Operands: the channel. -/
  | dramBlockIssue (dt : Nat) (ch : Fin 4)
  /-- DRAM_BLOCK_DONE (R295): A DRAM block completes; a read is ECC-checked, corrected with a write-back or returned marked
  uncorrectable with ECCUNCORR. Operands: the channel and what the ECC check of its oldest issued block found. -/
  | dramBlockDone (dt : Nat) (ch : Fin 4) (ecc : Ecc)
  /-- TOKEN_ACCRUE (R300): Every 64 ns each port's token bucket accrues tokens up to its burst. -/
  | tokenAccrue (dt : Nat)
  /-- DRAM_PROMOTE (R298): An eligible class 1 to 3 DRAM request reaching its age limit is promoted and DRAMQOS_PROMO
  increments. -/
  | dramPromote (dt : Nat)
  /-- DRAMQOS_REG_WRITE (R301): A write of DRAMQOS_REG applies a port's regulator at once, or is refused when RESV would
  exceed CAP or BURST is too small. Operands: the path, the port and the word. -/
  | dramqosRegWrite (dt : Nat) (path : Path) (p : Fin 12) (data : Word)
  /-- REFRESH_DUE (R303): A rank's refresh falls due and is issued or postponed, with a forced burst pending at
  POSTPONE_LIMIT. Operands: the channel-rank, 2c + r. -/
  | refreshDue (dt : Nat) (k : Fin 8)
  /-- REFRESH_MAKEUP (R304): A postponed refresh is made up when no class 0 request is queued on the channel. Operands: the
  channel-rank, 2c + r. -/
  | refreshMakeup (dt : Nat) (k : Fin 8)
  /-- MR4_POLL (R306): Every MR4_MS ms the controller reads each device's refresh-rate status and applies its refresh code.
  Operands: the refresh codes of rank 0 and of rank 1 of each channel. -/
  | mr4Poll (dt : Nat) (c0 c1 c2 c3 : Fin 5 × Fin 5)
  /-- RDEYE_SWEEP (R307): Every DRAM_EYE_CFG.PERIOD µs each byte lane measures its read eye and moves its delay by the
  background rule. Operands: the channel-rank, the byte lane and the taps that pass, 0 to 63 and 64 to 127. -/
  | rdeyeSweep (dt : Nat) (k : Fin 8) (lane : Fin 2) (low high : BitVec 64)
  /-- SCRUB (R296): The scrubber reads the next payload block and writes back any block it corrects. Operands: what the ECC
  check found. -/
  | scrub (dt : Nat) (ecc : Ecc)
  /-- SWEEP (R309): The DRAMTRN SWEEP command steps a delay over a tap range, running the MODE exchange and recording a
  pass map. Operands: the path and the DRAMTRN_CMD word. -/
  | sweep (dt : Nat) (path : Path) (data : Word)
  /-- MRW (R308): The DRAMTRN MRW command writes a device mode register while READY is 0. Operands: the path and the
  DRAMTRN_CMD word. -/
  | mrw (dt : Nat) (path : Path) (data : Word)
  /-- MRR (R308): The DRAMTRN MRR command reads a device mode register into DRAMTRN_MRR while READY is 0. Operands: the
  path, the DRAMTRN_CMD word and the byte the device returns. -/
  | mrr (dt : Nat) (path : Path) (data : Word) (mr : Byte)
  /-- FINISH (R308): The DRAMTRN FINISH command computes DRAM_SIZE and sets READY. Operands: the path. -/
  | finish (dt : Nat) (path : Path)
  /-- RETRAIN (R308): The DRAMTRN RETRAIN command clears READY, so every port request waits until the next FINISH.
  Operands: the path. -/
  | retrain (dt : Nat) (path : Path)
  /-- SWEEP_DONE (R309): A SWEEP finishes its last tap and restores the delay's previous value. Operands: the taps that
  matched in every repeat, by byte lane. -/
  | sweepDone (dt : Nat) (map0 map1 : BitVec 128)
  /-- DEFL_START (R314): The DEFL START command latches a compress or inflate job and starts it, or ends ERROR at once.
  Operands: the path and the engine. -/
  | deflStart (dt : Nat) (path : Path) (e : Fin 2)
  /-- DEFL_RESUME (R321): The DEFL RESUME command continues an OUTFULL job into a new destination buffer. Operands: the
  path and the engine. -/
  | deflResume (dt : Nat) (path : Path) (e : Fin 2)
  /-- DEFL_FLUSH (R318): Writing DEFL_E_FLUSH ends the current block of a compress job and writes an empty stored block.
  Operands: the path, the engine and the input bytes it has consumed. -/
  | deflFlush (dt : Nat) (path : Path) (e : Fin 2) (consumed : Nat)
  /-- DEFL_JOB_END (R320): A DEFLATE job ends DONE, stops OUTFULL, or ends NOGAIN, BADSTREAM, TRUNCATED or CHECK. Operands:
  the engine, the output bytes due since the job's last stop (a compress job), and the input bytes consumed when it stops
  for space. -/
  | deflJobEnd (dt : Nat) (e : Fin 2) (out : List Byte) (consumed : Nat)
  /-- LOOP_GROUP_TICK (R331): Each LOOP_G_PERIOD a loop group ticks, applies a pending commit, abandons any running
  acquisition and starts its SPI acquisitions. Operands: the group and, where an acquisition of its last tick is still
  running, the frames of the ports that have completed. -/
  | loopGroupTick (dt : Nat) (g : Fin 8) (done : List (Fin 4 × List Word))
  /-- LOOP_ACQ_DONE (R332): When the group's acquisitions have completed or been abandoned, its enabled slots update in
  ascending order, or the tick is skipped with LOOPOVR. Operands: the group, the frames each completed port received in
  channel order, and whether the updates are still due at the next tick. -/
  | loopAcqDone (dt : Nat) (g : Fin 8) (frames : List (Fin 4 × List Word)) (ovr : Bool)
  /-- PWM_PERIOD (R333): At the start of each PWM period the pin takes the latest u of its slot as its duty. Operands: the
  pin. -/
  | pwmPeriod (dt : Nat) (n : Fin 16)
  /-- LOOP_SLOT_ENABLE (R330): Writing LOOP_S_CFG.EN = 1 starts a slot at its group's next tick from its safe output,
  within the update budget. Operands: the path, the slot and the LOOP_S_CFG word, whose EN is written 1. -/
  | loopSlotEnable (dt : Nat) (path : Path) (slot : Fin 128) (data : Word)
  /-- LOOP_SLOT_DISABLE (R330): Writing LOOP_S_CFG.EN = 0 stops the slot's updates at once and idles its sink. Operands:
  the path, the slot and the LOOP_S_CFG word, whose EN is written 0. -/
  | loopSlotDisable (dt : Nat) (path : Path) (slot : Fin 128) (data : Word)
  /-- LOOP_OSC_ACT_CLEAR (R337): Writing 1 to a LOOP_OSC_ACT bit clears the oscillation latch, empties the record and
  resumes normal updates. Operands: the path, the register and the bits cleared. -/
  | loopOscActClear (dt : Nat) (path : Path) (w : Fin 4) (data : Word)
  /-- ARM (R339): The LOOPCAP ARM command arms a group's inject or trace capture. Operands: the path and the group. -/
  | arm (dt : Nat) (path : Path) (g : Fin 8)
  /-- TRIGGER (R341): The LOOPCAP TRIGGER command triggers a group's trace. Operands: the path and the group. -/
  | trigger (dt : Nat) (path : Path) (g : Fin 8)
  /-- CAPTURE_STOP (R341): The LOOPCAP STOP command ends a group's capture at once. Operands: the path and the group. -/
  | captureStop (dt : Nat) (path : Path) (g : Fin 8)
  /-- LOOPCAP_DATA_READ (R342): A read of LOOPCAP_DATA returns a capture word and advances LOOPCAP_ADDR. Operands: the
  path. -/
  | loopcapDataRead (dt : Nat) (path : Path)
  /-- LOOP_MON_Y_READ (R343): A read of LOOP_MON_Y latches the monitored slot's other figures for the access path.
  Operands: the path. -/
  | loopMonYRead (dt : Nat) (path : Path)
  /-- MOVE (R349): The MOTION MOVE command starts a profiled move to a signed target position. Operands: the path and the
  axis. -/
  | move (dt : Nat) (path : Path) (a : Fin 4)
  /-- SPEED (R349): The MOTION SPEED command ramps the axis to a signed velocity. Operands: the path and the axis. -/
  | speed (dt : Nat) (path : Path) (a : Fin 4)
  /-- HOME (R354): The MOTION HOME command moves the axis towards its home source at HOME_V. Operands: the path and the
  axis. -/
  | home (dt : Nat) (path : Path) (a : Fin 4)
  /-- MOTION_STOP_STOP (R350): MOTION_STOP.STOP cuts the pulses at once, setting POS_LOST above PULLIN. Operands: the path
  and the axis. -/
  | motionStopStop (dt : Nat) (path : Path) (a : Fin 4)
  /-- HALT (R350): MOTION_STOP.HALT decelerates the axis to VSTART and cuts to 0, keeping the position. Operands: the path
  and the axis. -/
  | halt (dt : Nat) (path : Path) (a : Fin 4)
  /-- DRV_EN_SET (R352): Writing DRV_EN = 1 enables the driver and re-indexes the phase or enters STILL after EN_WAIT.
  Operands: the path and the axis. -/
  | drvEnSet (dt : Nat) (path : Path) (a : Fin 4)
  /-- DRV_EN_CLEAR (R351): Writing DRV_EN = 0 puts the axis OFF, stopping it first if moving. Operands: the path and the
  axis. -/
  | drvEnClear (dt : Nat) (path : Path) (a : Fin 4)
  /-- EN_WAIT_END (R352): After EN_WAIT µs the axis issues its re-index steps or enters STILL at I_HOLD. Operands: the
  axis. -/
  | enWaitEnd (dt : Nat) (a : Fin 4)
  /-- PROFILE_UPDATE (R348): Every 1 µs a moving axis updates its velocity by the profile rule. Operands: the axis. -/
  | profileUpdate (dt : Nat) (a : Fin 4)
  /-- STEP_CARRY (R346): A carry of the phase accumulator issues one step pulse, moves the position and ends a MOVE that
  reaches its target. Operands: the axis. -/
  | stepCarry (dt : Nat) (a : Fin 4)
  /-- LIMITTRIP (R350): A limit in the direction of motion active for LIM_DEB samples stops the axis and raises LIMITTRIP.
  Operands: the axis, which limit, and whether its LIM_DEB samples read active or inactive. -/
  | limittrip (dt : Nat) (a : Fin 4) (positive active : Bool)
  /-- HOME_EDGE (R354): A raw active edge of the home source latches the position during homing. Operands: the axis. -/
  | homeEdge (dt : Nat) (a : Fin 4)
  /-- HOME_CONFIRM (R354): A home source active for DEB samples stops the axis and sets its position from the latch, or a
  wrong limit ends HOMEFAULT. Operands: the axis, whether the DEB samples of the home source read active or inactive, and
  whether a limit other than the home source is active for LIM_DEB samples at the same sample. -/
  | homeConfirm (dt : Nat) (a : Fin 4) (active : Bool) (wrong : Bool)
  /-- PAIR_ALIVE_TOGGLE (R357): Every 500 ns PAIR_ALIVE_OUT toggles while pairing is enabled and the unit is not YIELDING. -/
  | pairAliveToggle (dt : Nat)
  /-- PAIR_ALIVE_EDGE (R357): An edge on PAIR_ALIVE_IN restarts the peer alive timer and may raise PEERBACK. -/
  | pairAliveEdge (dt : Nat)
  /-- PEERLOST (R359): No PAIR_ALIVE_IN edge within PAIR_TAKEOVER_WAIT clears PEER_ALIVE, raises PEERLOST and may start an
  automatic takeover. -/
  | peerlost (dt : Nat)
  /-- TAKE_ARM (R359): After PEER_ALIVE has been 1 for 1 ms, TAKE_ARMED is set. -/
  | takeArm (dt : Nat)
  /-- PAIR_EN_WRITE (R359): Writing PAIR_EN enters STANDBY from DETACHED, or DETACHED from any role. Operands: the path and
  the PAIR_CTRL word. -/
  | pairEnWrite (dt : Nat) (path : Path) (data : Word)
  /-- JOIN (R364): The PAIR JOIN command makes the standby enter RUN on the active's anchor and benchmark at the next
  MIRROR with FIRE_RUN. Operands: the path. -/
  | join (dt : Nat) (path : Path)
  /-- TAKE (R359): The PAIR TAKE command takes over when ALIGNED or FORCE is set, or ends NOTALIGNED. Operands: the path
  and FORCE. -/
  | take (dt : Nat) (path : Path) (force : Bool)
  /-- DETACH (R359): The PAIR DETACH command returns the unit to DETACHED with PAIR_ALIVE_OUT low. Operands: the path. -/
  | detach (dt : Nat) (path : Path)
  /-- YIELD (R359): The PAIR YIELD command, or an enabled yield cause, withholds the heartbeat while the unit goes on
  driving. Operands: the path. -/
  | yieldCmd (dt : Nat) (path : Path)
  /-- MIRROR_SEND (R363): The unit sends a MIRROR frame after MIRROR_LINES ticks, at least every 20 µs, or when its flags
  change. -/
  | mirrorSend (dt : Nat)
  /-- MIRROR (R363): A received MIRROR frame is accepted or dropped, and a standby applies its records and checks
  alignment. Operands: the MIRROR frame's payload. -/
  | mirror (dt : Nat) (payload : List Byte)
  /-- MIRRORLOST (R363): A MIRROR age beyond PAIR_MIRROR_TMO clears MIRROR_OK and raises MIRRORLOST. -/
  | mirrorlost (dt : Nat)
  /-- TALLY_COUNT (R372): An encoder transition through Tally's own filter may raise the high-water count and add one
  count's length to LEN. Operands: the levels of A and B after Tally's own filter. -/
  | tallyCount (dt : Nat) (a b : Bool)
  /-- TALLY_IDENT (R382): The Tally UART IDENT command returns SW_ID, CHECKSUM, AUDIT_COUNT and status. Operands: the
  parameter bytes, whether the CRC-16 is right, and whether an earlier reply is still being sent. -/
  | tallyIdent (dt : Nat) (params : List Byte) (crcOk busy : Bool)
  /-- TOTALS (R382): The Tally UART TOTALS command returns a snapshot of the five lifetime totals. Operands: as
  TALLY_IDENT. -/
  | totals (dt : Nat) (params : List Byte) (crcOk busy : Bool)
  /-- JOB (R382): The Tally UART JOB command returns the open job or a closed job record. Operands: as TALLY_IDENT. -/
  | job (dt : Nat) (params : List Byte) (crcOk busy : Bool)
  /-- PARAM_READ (R382): The Tally UART PARAM_READ command returns the live sealed parameters. Operands: as TALLY_IDENT. -/
  | paramRead (dt : Nat) (params : List Byte) (crcOk busy : Bool)
  /-- PARAM_WRITE (R378): The Tally UART PARAM_WRITE command burns a new audit record with new parameters while the seal is
  open, or is refused. Operands: as TALLY_IDENT. -/
  | paramWrite (dt : Nat) (params : List Byte) (crcOk busy : Bool)
  /-- AUDIT_READ (R382): The Tally UART AUDIT_READ command returns an audit record, or BADPARAM if it is not burnt.
  Operands: as TALLY_IDENT. -/
  | auditRead (dt : Nat) (params : List Byte) (crcOk busy : Bool)
  /-- TALLY_RESERVED_CMD (R382): A Tally UART request with a reserved command is answered BADCMD. Operands: the CMD byte,
  whether the CRC-16 is right, and whether an earlier reply is still being sent. -/
  | tallyReservedCmd (dt : Nat) (cmd : Byte) (crcOk busy : Bool)
  /-- TALLY_BURN_DONE (R380): An audit record burn ends and new parameters apply from the next count or drop record,
  discarding both remainders. -/
  | tallyBurnDone (dt : Nat)
  /-- TALLY_UART_GAP (R382): A request with a gap of more than 10 ms between two of its bytes is discarded without reply. -/
  | tallyUartGap (dt : Nat)
  /-- SEAL_OPEN_CHANGE (R378): SEAL_OPEN_N changes level after its 1 ms debounce. Operands: whether SEAL_OPEN_N is now low. -/
  | sealOpenChange (dt : Nat) (low : Bool)
  /-- VSTBY_POWER_ON (R377): The return of VSTBY runs the island POR, Tally's retention check and ROM checksum, zeroing
  totals with an audit record on failure. Operands: whether the CRC-32C over the retained state and the ROM checksum are
  right. -/
  | vstbyPowerOn (dt : Nat) (retOk romOk : Bool)
  /-- TALLY_STATUS_READ (R385): A read of TALLY_STATUS latches every other register of the TALLY page for that access path.
  Operands: the path. -/
  | tallyStatusRead (dt : Nat) (path : Path)
  /-- SVC_HEARTBEAT (R387): A service increments its heartbeat, which clears its stale bit and raises SVCBACK if it was
  stale. Operands: the service. -/
  | svcHeartbeat (dt : Nat) (i : Fin 11)
  /-- SVCSTALE (R387): A heartbeat unchanged for 4 × SVC_HB_PERIOD sets the service's SVC_STALE bit and raises SVCSTALE.
  Operands: the service. -/
  | svcstale (dt : Nat) (i : Fin 11)
  /-- RESTART (R388): The SVC RESTART command resets one service core and starts it from the checked image copy. Operands:
  the path and the core. -/
  | restart (dt : Nat) (path : Path) (core : Fin 4)
  /-- COREHALT (R388): A core meets a fault it cannot handle and halts, raising COREHALT. Operands: the core. -/
  | corehalt (dt : Nat) (core : Fin 4)
  /-- MBX_DATA_WRITE (R391): A write to MBX_DATA stores a message word, recording a collision if the mailbox is FULL.
  Operands: the path, the mailbox, the word's number and the word. -/
  | mbxDataWrite (dt : Nat) (path : Path) (m : Fin 32) (w : Fin 16) (data : Word)
  /-- MBX_DOORBELL (R390): A write of MBX_DOORBELL sets FULL and notifies the receiver, recording a collision if already
  FULL. Operands: the path and the word. -/
  | mbxDoorbell (dt : Nat) (path : Path) (data : Word)
  /-- MBX_ACK (R390): A write of MBX_ACK clears FULL, sets MBX_EMPTIED and notifies the sender. Operands: the path and the
  word. -/
  | mbxAck (dt : Nat) (path : Path) (data : Word)
  /-- PING (R393): A service PING message is answered with the heartbeat and image version. Operands: the service that
  takes its request. -/
  | ping (dt : Nat) (i : Fin 11)
  /-- DISCOVER (R393): A head management DISCOVER message returns the head's IDENT data. -/
  | discover (dt : Nat)
  /-- LOG_READ (R393): A LOG_READ message returns a log record, GONE or BADPARAM. -/
  | logRead (dt : Nat)
  /-- LOG_MARK (R393): A LOG_MARK message writes a marker record into the log. -/
  | logMark (dt : Nat)
  /-- FW_BEGIN (R393): An FW_BEGIN message erases an image slot that is not the booted one. -/
  | fwBegin (dt : Nat)
  /-- FW_DATA (R393): An FW_DATA message writes image bytes at the next offset of the slot. -/
  | fwData (dt : Nat)
  /-- FW_END (R393): An FW_END message checks the staged image as at boot and returns the boot result. Operands: whether
  the flash can be read. -/
  | fwEnd (dt : Nat) (readOk : Bool)
  /-- YH_WINDOW_WRITE (R398): A write into the YH-220 window is mapped to its SK-4810 register, with a LOOP shadow commit
  for shadowed LOOP registers. Operands: the path, the byte offset in the window and the word. -/
  | yhWindowWrite (dt : Nat) (path : Path) (ofs : BitVec 16) (data : Word)
  /-- POR_ASSERT (R401): A monitored rail below its falling threshold for 1 µs holds domains D1 to D8 in reset. Operands:
  the rail and how long it has stayed below its falling threshold. -/
  | porAssert (dt : Nat) (rail : Rail) (ns : Nat)
  /-- POR_RELEASE (R401): POR releases 64 beats after every monitored rail has risen above its rising threshold. Operands:
  whether RESET_N rises at the same instant (R403). -/
  | porRelease (dt : Nat) (rstnRises : Bool)
  /-- RESET_N_LOW (R402): A filtered low level on RESET_N holds domains D1 to D8 in reset and discards pending block
  resets. Operands: how long RESET_N has been low. -/
  | resetNLow (dt : Nat) (ns : Nat)
  /-- RESET_N_RISE (R403): RESET_N rising ends the reset if POR has released, recording the reset cause. -/
  | resetNRise (dt : Nat)
  /-- DOMAIN_RELEASE (R404): After its gap in beats the next domain is released with its pages at their reset values.
  Operands: the beat in ns, the PAIR_RANK pins (sampled at D5) and which image slots the boot ROM cannot read (D4). -/
  | domainRelease (dt : Nat) (beat : BitVec 12) (straps : Fin 16) (readErr : BitVec 2)
  /-- OPTION_LOAD_DONE (R408): The option loader reaches its verdict, accepting the option block or taking the factory
  defaults. Operands: whether the flash answers and whether the OTP block's CRC-32C passes. -/
  | optionLoadDone (dt : Nat) (answers otpOk : Bool)
  /-- QUIESCE_TIMEOUT (R414): A block reset whose group has not quiesced within RST_QUIESCE_TIMEOUT is forced and BLKFORCED
  is raised. -/
  | quiesceTimeout (dt : Nat)
  /-- BLOCK_RESET_START (R415): The controller takes the pending block reset with the lowest page number and quiesces its
  group. -/
  | blockResetStart (dt : Nat)
  /-- BLKRESET (R414): After 16 beats in reset the group is released with its registers at their reset values, and BLKRESET
  is raised. Operands: the beat in ns. -/
  | blkreset (dt : Nat) (beat : BitVec 12)
  /-- GPIO_SET (R436): A write of GPIO_SET sets GPIO_OUT bits. Operands: the path and the word. -/
  | gpioSet (dt : Nat) (path : Path) (data : Word)
  /-- GPIO_CLR (R436): A write of GPIO_CLR clears GPIO_OUT bits, and wins against a GPIO_SET at the same instant. Operands:
  the path and the word. -/
  | gpioClr (dt : Nat) (path : Path) (data : Word)
  /-- GPIOEDGE (R436): A debounced GPIO input edge enabled in GPIO_RISE or GPIO_FALL sets GPIO_EDGE and raises GPIOEDGE.
  Operands: the pin and its new debounced level. -/
  | gpioedge (dt : Nat) (pin : Fin 16) (level : Bool)
  /-- DEBUG_UART_TX_WRITE (R438): A write of DEBUG_UART_TX queues a byte for the debug UART, or is ignored with CONFIG when
  full or not owned. Operands: the path and the word. -/
  | debugUartTxWrite (dt : Nat) (path : Path) (data : Word)
  /-- DBG_RX_BYTE (R438): A byte received on DBG_RX goes into the receive FIFO, or is lost with DBGRXOVF when the FIFO is
  full. Operands: the byte. -/
  | dbgRxByte (dt : Nat) (b : Byte)
  /-- DEBUG_UART_RX_READ (R438): A read of DEBUG_UART_RX returns and removes the oldest received byte. Operands: the path. -/
  | debugUartRxRead (dt : Nat) (path : Path)
  /-- SQUELCH (R256): A receiver in HUNT whose signal falls below the squelch threshold returns to SQUELCH. Operands: the
  lane. -/
  | squelch (dt : Nat) (l : Fin 48)
  /-- REFCLK_RETURN (R251): A lost quad reference clock returns and LANEQ_STATUS.REF_OK rises again, letting the PLLs
  relock. Operands: the quad. -/
  | refclkReturn (dt : Nat) (q : Fin 12)
  /-- ISLAND_POR_ASSERT (R401): VSTBY falls below 1.00 V for 1 µs and the island POR holds D0, Tally and the reset-cause
  record in reset. Operands: how long VSTBY has stayed below 1.00 V. -/
  | islandPorAssert (dt : Nat) (ns : Nat)
  /-- DBG_TX_BYTE_SENT (R438): The debug UART finishes sending a byte on DBG_TX and removes it from the transmit FIFO,
  lowering TX_LEVEL. -/
  | dbgTxByteSent (dt : Nat)
  /-- UPTIME_WRAP (R57): SYS_UPTIME, counting microseconds by itself since D2 release, wraps after 2^48 µs and raises
  CNT_WRAP on SYS. -/
  | uptimeWrap (dt : Nat)
  deriving DecidableEq, Repr

end Sys2Proof
end

