-- ==== Sys2Proof/Decode.lean ====
section
/-! DEFINITION. Words to commands. No row of the opcode table gives its command any bits: the block takes commands, and no word
of it spells one (log entry 3). -/
namespace Sys2Proof

/-- The command that the `nbits` bits `w` spell by the table's bits: none, since no row has bits. -/
def decodeTableWord (_nbits _w : Nat) : Option Instr := none

end Sys2Proof
end

