-- ==== Sys2Proof/Config.lean ====
section
/-! DEFINITION. The free values: what the spec leaves open after a command that runs. No constant here has a value a proof
could use. -/
namespace Sys2Proof

/-- A free truth value: an outcome the spec leaves open (log entry 4). -/
opaque Config.freeBool : Nat → Bool

/-- A free word: a value the spec leaves open (log entry 4). -/
opaque Config.freeWord : Nat → BitVec 32

/-- In which of two ranks the controller places a 64-byte block: internal, so left open (R294; log entry 94). -/
opaque Config.blockRank : Nat → Bool

/-- A ball with a boundary cell that the chip drives (R420, R434). -/
inductive Ball
  | trig (h : Nat) | camTrig (p : Nat) | camFlash (p : Nat) | cmp (c : Nat) | motStep (a : Nat) | motDir (a : Nat) | motEn (a : Nat)
  | motIref (a : Nat) | pwm (n : Nat) | irq (n : Nat) | pairAlive | pairAct | gpio (n : Nat) | dbgTx
  deriving DecidableEq, Repr

/-- Length of the boundary register: the BSDL file gives it, the spec does not (R434; log entry 51). -/
opaque Config.tapCells : Nat

/-- The boundary cell that drives a ball, from the BSDL file (R434; log entry 51). -/
opaque Config.tapCell : Ball → Nat

/-- Length of the instruction register, from the BSDL file (R434; log entry 51). -/
opaque Config.tapIrLength : Nat

/-- The instruction an opcode other than all ones names, 0 to 5 in the order of R434, from the BSDL file (log entry 51). -/
opaque Config.tapOpcode : List Bool → Nat

end Sys2Proof
end

