-- ==== Sys2Proof/Machine/Bits.lean ====
section
/-! DEFINITION. Bit fields, sign reading and byte orders (R4, R5, R6). -/
namespace Sys2Proof.Machine

/-- Bits `[lo + n - 1 : lo]` of a word as a number. -/
def fld (w : Word) (lo n : Nat) : Nat := w.toNat / 2 ^ lo % 2 ^ n

/-- Bit `i` of a word. -/
def bit (w : Word) (i : Nat) : Bool := w.toNat / 2 ^ i % 2 == 1

/-- A word with bits `[lo + n - 1 : lo]` replaced by the low `n` bits of `v`. -/
def put (w : Word) (lo n v : Nat) : Word :=
  BitVec.ofNat 32 (w.toNat / 2 ^ (lo + n) * 2 ^ (lo + n) + v % 2 ^ n * 2 ^ lo + w.toNat % 2 ^ lo)

/-- A word with bit `i` set to `b`. -/
def putBit (w : Word) (i : Nat) (b : Bool) : Word := put w i 1 b.toNat

/-- A number as a register word. -/
def W (n : Nat) : Word := BitVec.ofNat 32 n

/-- A Bool list as bits, item 0 at bit 0. -/
def ofBits : List Bool → Nat
  | [] => 0
  | b :: t => b.toNat + 2 * ofBits t

/-- The bits of a number, bit 0 first, `n` of them. -/
def toBits (n v : Nat) : List Bool := (List.range n).map fun i => v / 2 ^ i % 2 == 1

/-- The two's complement reading of an `n`-bit field. -/
def sgn (n v : Nat) : Int := if v % 2 ^ n < 2 ^ (n - 1) then (v % 2 ^ n : Nat) else (v % 2 ^ n : Nat) - (2 ^ n : Nat)

/-- An integer reduced to `n` bits (two's complement). -/
def wrapN (n : Nat) (x : Int) : Nat := (x % ((2 ^ n : Nat) : Int)).toNat

/-- A signed field of a word. -/
def sfld (w : Word) (lo n : Nat) : Int := sgn n (fld w lo n)

/-- A value held between two limits. -/
def clampI (lo hi x : Int) : Int := if x < lo then lo else if hi < x then hi else x

/-- A value held between two limits. -/
def clampN (lo hi x : Nat) : Nat := if x < lo then lo else if hi < x then hi else x

/-- Quotient rounded to nearest, halves away from zero. -/
def divRound (a : Int) (b : Nat) : Int :=
  if b = 0 then 0 else if 0 ≤ a then ((2 * a + b) / (2 * b : Nat) : Int) else -((2 * (-a) + b) / (2 * b : Nat) : Int)

/-- Bytes read as a number, most significant byte first. -/
def be (l : List Byte) : Nat := l.foldl (fun n b => n * 256 + b.toNat) 0

/-- Bytes read as a number, least significant byte first (R5). -/
def le : List Byte → Nat
  | [] => 0
  | b :: t => b.toNat + 256 * le t

/-- `n` bytes of a number, least significant first. -/
def leBytes : Nat → Nat → List Byte
  | 0, _ => []
  | n + 1, v => BitVec.ofNat 8 v :: leBytes n (v / 256)

/-- `n` bytes of a number, most significant first. -/
def beBytes (n v : Nat) : List Byte := (leBytes n v).reverse

/-- Field of a frame: `n` bytes from byte `i`, most significant first. -/
def beAt (l : List Byte) (i n : Nat) : Nat := be ((l.drop i).take n)

/-- Field of a structure in memory: `n` bytes from byte `i`, least significant first. -/
def leAt (l : List Byte) (i n : Nat) : Nat := le ((l.drop i).take n)

/-- Apply `f` for each item, left to right. -/
def each {α σ : Type} (l : List α) (f : α → σ → σ) (s : σ) : σ := l.foldl (fun s a => f a s) s

/-- Item `i` of a list, or a default. -/
def at' {α : Type} (d : α) (l : List α) (i : Nat) : α := (l[i]?).getD d

/-- A list with item `i` replaced (unchanged where there is none). -/
def setAt {α : Type} (l : List α) (i : Nat) (x : α) : List α := l.set i x

/-- A list with `f` applied to item `i`. -/
def modAt {α : Type} (l : List α) (i : Nat) (f : α → α) : List α :=
  match l[i]? with
  | some x => l.set i (f x)
  | none => l

end Sys2Proof.Machine
end

