-- ==== Sys2Proof/Machine/SMap.lean ====
section
/-! DEFINITION. Sparse maps: the one canonical form in which the model holds register words, table words, DRAM and flash.
An unlisted key reads as what the map's default function gives; keys rise strictly; no entry equals its default. -/
namespace Sys2Proof.Machine

/-- What key `a` holds in `l`, with `d` for the unlisted keys. -/
def mget {β : Type} (d : Nat → β) : List (Nat × β) → Nat → β
  | [], a => d a
  | (k, v) :: t, a => if a = k then v else mget d t a

/-- Put `v` at key `a`, keeping the canonical form. -/
def mset {β : Type} [DecidableEq β] (d : Nat → β) (a : Nat) (v : β) : List (Nat × β) → List (Nat × β)
  | [] => if v = d a then [] else [(a, v)]
  | (k, w) :: t =>
    if a = k then (if v = d a then t.filter (fun p => p.1 != a) else (a, v) :: t)
    else if a < k then (if v = d a then (k, w) :: t.filter (fun p => p.1 != a) else (a, v) :: (k, w) :: t)
    else (k, w) :: mset d a v t

/-- The entries with `lo ≤ key < hi`. -/
def mrange {β : Type} (lo hi : Nat) (l : List (Nat × β)) : List (Nat × β) := l.filter fun p => lo ≤ p.1 && p.1 < hi

/-- Return the keys `lo ≤ key < hi` to their default. -/
def mclear {β : Type} (lo hi : Nat) (l : List (Nat × β)) : List (Nat × β) := l.filter fun p => !(lo ≤ p.1 && p.1 < hi)

/-- The values `vs` placed at `a, a + 1, …`, without those equal to their default. -/
def mrun {β : Type} [DecidableEq β] (d : Nat → β) : Nat → List β → List (Nat × β)
  | _, [] => []
  | a, v :: vs => if v = d a then mrun d (a + 1) vs else (a, v) :: mrun d (a + 1) vs

/-- Replace the keys `lo ≤ key < hi` of `l` by the canonical entries `new` of that range. -/
def msplice {β : Type} (lo hi : Nat) (new l : List (Nat × β)) : List (Nat × β) :=
  (l.filter fun p => p.1 < lo) ++ mrange lo hi new ++ (l.filter fun p => hi ≤ p.1)

/-- Write the values `vs` at `a, a + 1, …`. -/
def mwrite {β : Type} [DecidableEq β] (d : Nat → β) (a : Nat) (vs : List β) (l : List (Nat × β)) : List (Nat × β) :=
  msplice a (a + vs.length) (mrun d a vs) l

/-- Read `n` values from `a`. -/
def mread {β : Type} (d : Nat → β) (a n : Nat) (l : List (Nat × β)) : List β :=
  let part := mrange a (a + n) l
  (List.range n).map fun i => mget d part (a + i)

/-- Item `i` of a table of things that all start as `r`. -/
def tget {β : Type} (r : β) (l : List (Nat × β)) (i : Nat) : β := mget (fun _ => r) l i

/-- A table with item `i` replaced. -/
def tset {β : Type} [DecidableEq β] (r : β) (l : List (Nat × β)) (i : Nat) (x : β) : List (Nat × β) := mset (fun _ => r) i x l

/-- A table with `f` applied to its first `n` items. -/
def tmap {β : Type} [DecidableEq β] (r : β) (n : Nat) (f : β → β) (l : List (Nat × β)) : List (Nat × β) :=
  (List.range n).foldl (fun l i => tset r l i (f (tget r l i))) l

/-- Keys rise strictly from above `b`, and no entry equals its default. -/
def mwfFrom {β : Type} [DecidableEq β] (d : Nat → β) : Nat → List (Nat × β) → Bool
  | _, [] => true
  | b, (k, v) :: t => b ≤ k && v != d k && mwfFrom d (k + 1) t

/-- The canonical form of a sparse map. -/
def mwf {β : Type} [DecidableEq β] (d : Nat → β) (l : List (Nat × β)) : Bool := mwfFrom d 0 l

end Sys2Proof.Machine
end

