-- ==== Sys2Proof/Machine/RegDesc.lean ====
section
/-! DEFINITION. How a register is described: offset, access code (R8), stored bits, reset value (R9), array strides,
shadowed bits (R43) and field limits (R11). -/
namespace Sys2Proof.Machine

/-- The access codes of R8; `cnt` is the RW error counter class of R40. -/
inductive Acc where
  | rw | ro | w1c | wo | rc | cnt
  deriving DecidableEq, Repr

/-- One register, or an array of registers with up to two indices. -/
structure RegDesc where
  off : Nat
  acc : Acc
  /-- Bits a write stores (RW) or clears (W1C). -/
  mask : Nat
  reset : Nat
  n1 : Nat
  s1 : Nat
  n2 : Nat
  s2 : Nat
  /-- Shadowed bits (R43). -/
  shadow : Nat
  /-- Limits of the fields: low bit, width, least and greatest legal value. -/
  lim : List (Nat × Nat × Nat × Nat)
  deriving DecidableEq, Repr

/-- A read-write register. -/
def rRW (off mask reset : Nat) (lim : List (Nat × Nat × Nat × Nat) := []) : RegDesc :=
  ⟨off, .rw, mask, reset, 1, 0x10000, 1, 0x10000, 0, lim⟩

/-- A read-write register all of whose stored bits are shadowed. -/
def rSH (off mask reset : Nat) (lim : List (Nat × Nat × Nat × Nat) := []) : RegDesc :=
  ⟨off, .rw, mask, reset, 1, 0x10000, 1, 0x10000, mask, lim⟩

/-- A read-only register. -/
def rRO (off : Nat) (reset : Nat := 0) : RegDesc := ⟨off, .ro, 0, reset, 1, 0x10000, 1, 0x10000, 0, []⟩

/-- A read-clear register. -/
def rRC (off : Nat) (reset : Nat := 0) : RegDesc := ⟨off, .rc, 0, reset, 1, 0x10000, 1, 0x10000, 0, []⟩

/-- A write-one-to-clear register. -/
def rW1 (off mask : Nat) : RegDesc := ⟨off, .w1c, mask, 0, 1, 0x10000, 1, 0x10000, 0, []⟩

/-- A write-only register. -/
def rWO (off : Nat) : RegDesc := ⟨off, .wo, 0, 0, 1, 0x10000, 1, 0x10000, 0, []⟩

/-- An error counter of R40. -/
def rCT (off : Nat) : RegDesc := ⟨off, .cnt, 0xFFFF, 0, 1, 0x10000, 1, 0x10000, 0, []⟩

/-- The same register repeated `n` times, `s` bytes apart. -/
def RegDesc.arr (d : RegDesc) (n s : Nat) : RegDesc := { d with n2 := n, s2 := s }

/-- The same register repeated `n × m` times. -/
def RegDesc.arr2 (d : RegDesc) (n s m t : Nat) : RegDesc := { d with n1 := n, s1 := s, n2 := m, s2 := t }

/-- Does the description cover offset `o`? -/
def RegDesc.covers (d : RegDesc) (o : Nat) : Bool :=
  d.off ≤ o && (o - d.off) / d.s1 < d.n1 && (o - d.off) % d.s1 / d.s2 < d.n2 && (o - d.off) % d.s1 % d.s2 == 0

end Sys2Proof.Machine
end

