-- ==== Sys2Proof/Machine/RegsCam.lean ====
section
/-! DEFINITION. The registers of CAM0 to CAM3, ISP, INSPECT and TRAV (R230, R231, R232, R248) and the camera table window
(R223). -/
namespace Sys2Proof.Machine

namespace Reg
/-- A register of camera port `p`. -/
abbrev CAM (p off : Nat) : Nat := 0x40020000 + 0x1000 * p + off
abbrev CAM_CTRL (p : Nat) : Nat := CAM p 0x040
abbrev CAM_SIZE (p : Nat) : Nat := CAM p 0x044
abbrev CAM_WINDOW (p : Nat) : Nat := CAM p 0x048
abbrev CAM_SENSOR_LAG (p : Nat) : Nat := CAM p 0x04C
abbrev CAM_GEOM_ROW (p : Nat) : Nat := CAM p 0x050
abbrev CAM_GEOM_STEP (p : Nat) : Nat := CAM p 0x054
abbrev CAM_GEOM_COL (p : Nat) : Nat := CAM p 0x058
abbrev CAM_GEOM_CSTEP (p : Nat) : Nat := CAM p 0x05C
abbrev CAM_CCI_CTRL (p : Nat) : Nat := CAM p 0x060
abbrev CAM_CCI_CMD (p : Nat) : Nat := CAM p 0x064
abbrev CAM_CCI_STATUS (p : Nat) : Nat := CAM p 0x068
abbrev CAM_CCI_RDATA (p : Nat) : Nat := CAM p 0x06C
abbrev CAM_SET (p : Nat) : Nat := CAM p 0x070
abbrev CAM_FRAMES (p : Nat) : Nat := CAM p 0x074
abbrev CAM_OTHER (p : Nat) : Nat := CAM p 0x078
abbrev CAM_FNUM (p : Nat) : Nat := CAM p 0x07C
/-- CAM_FSTAT_NO, TRIG, SET, MEAN, CLIP and DYN, `k` = 0 to 5. -/
abbrev CAM_FSTAT (p k : Nat) : Nat := CAM p (0x080 + 4 * k)
abbrev CAM_S2_CFG (p : Nat) : Nat := CAM p 0x0C0
abbrev CAM_S2_CROPX (p : Nat) : Nat := CAM p 0x0C4
abbrev CAM_S2_CROPY (p : Nat) : Nat := CAM p 0x0C8
/-- BASE, SIZE, WPTR and RPTR of stream ring `r` (0 for S2, 1 for S3). -/
abbrev CAM_RING_BASE (p r : Nat) : Nat := CAM p (0x0CC + 0x10 * r)
abbrev CAM_RING_SIZE (p r : Nat) : Nat := CAM p (0x0D0 + 0x10 * r)
abbrev CAM_RING_WPTR (p r : Nat) : Nat := CAM p (0x0D4 + 0x10 * r)
abbrev CAM_RING_RPTR (p r : Nat) : Nat := CAM p (0x0D8 + 0x10 * r)
abbrev CAM_RING_DROPS (p r : Nat) : Nat := CAM p (0x0F0 + 4 * r)
abbrev CAM_CCI_LIST (p i : Nat) : Nat := CAM p (0x100 + 4 * i)
abbrev ISP_CORR (p : Nat) : Nat := 0x40024040 + 0x10 * p
abbrev ISP_DYNCNT (p : Nat) : Nat := 0x40024044 + 0x10 * p
abbrev ISP_STATCNT (p : Nat) : Nat := 0x40024048 + 0x10 * p
abbrev ISP_BANK : Nat := 0x40024080
abbrev ISP_CMD : Nat := 0x40024084
abbrev ISP_CMD_STATUS : Nat := 0x40024088
/-- A word of a camera table bank (R223). -/
abbrev CAM_TABLE (p bank ofs : Nat) : Nat := 0x51300000 + 0x10000 * p + 0x8000 * bank + ofs
abbrev INSPECT_CTRL : Nat := 0x40025040
abbrev INSPECT_PAPER : Nat := 0x40025044
abbrev INSPECT_ABS12 : Nat := 0x40025048
abbrev INSPECT_ABS3 : Nat := 0x4002504C
abbrev INSPECT_THR : Nat := 0x40025050
abbrev INSPECT_KERNEL (w : Nat) : Nat := 0x40025054 + 4 * w
abbrev INSPECT_DEF_LEVEL : Nat := 0x40025070
abbrev INSPECT_DEF (k : Nat) : Nat := 0x40025074 + 4 * k
abbrev INSPECT_DEF_POP : Nat := 0x4002509C
abbrev INSPECT_DEF_LOST : Nat := 0x400250A0
abbrev INSPECT_LINES : Nat := 0x400250A4
abbrev INSPECT_SKIP_TAG : Nat := 0x400250A8
abbrev INSPECT_SKIP_MAP : Nat := 0x400250AC
abbrev TRAV_CTRL : Nat := 0x40028040
abbrev TRAV_WIN : Nat := 0x40028044
abbrev TRAV_DENS : Nat := 0x40028048
abbrev TRAV_DSTEP : Nat := 0x4002804C
abbrev TRAV_DSCALE : Nat := 0x40028050
abbrev TRAV_PLACE : Nat := 0x40028054
abbrev TRAV_ATTR : Nat := 0x40028058
abbrev TRAV_GUARD : Nat := 0x4002805C
abbrev TRAV_SPLICE_OFS : Nat := 0x40028060
abbrev TRAV_SPLICE_SPAN : Nat := 0x40028064
abbrev TRAV_LEASE_TIME : Nat := 0x40028068
abbrev TRAV_LEASE : Nat := 0x4002806C
abbrev TRAV_CMD : Nat := 0x40028070
abbrev TRAV_CMD_FIRST : Nat := 0x40028074
abbrev TRAV_CMD_COUNT : Nat := 0x40028078
abbrev TRAV_CMD_STATUS : Nat := 0x4002807C
abbrev TRAV_STATUS : Nat := 0x40028080
abbrev TRAV_WINDOWS : Nat := 0x40028084
abbrev TRAV_MEDIAN : Nat := 0x40028088
abbrev TRAV_EST_NOZ : Nat := 0x4002808C
abbrev TRAV_STEPS_D : Nat := 0x40028090
abbrev TRAV_STEPS_P : Nat := 0x40028094
abbrev TRAV_MISS_NEW : Nat := 0x40028098
abbrev TRAV_HELD : Nat := 0x4002809C
abbrev TRAV_NOZ_ADDR : Nat := 0x400280A0
abbrev TRAV_NOZ_STATE : Nat := 0x400280A4
abbrev TRAV_NOZ_EST : Nat := 0x400280A8
abbrev TRAV_SUB_DATA : Nat := 0x400280AC
abbrev TRAV_SUBSYNC : Nat := 0x400280B0
end Reg

/-- Reset value of a camera table word at a bank offset (R223). -/
def camTableReset (o : Nat) : Nat :=
  if 0x4000 ≤ o ∧ o < 0x48C4 then 0x1000
  else if 0x5000 ≤ o ∧ o < 0x7000 then (o - 0x5000) / 2 + 65536 * ((o - 0x5000) / 2 + 1)
  else 0

def descCAM : List RegDesc :=
  [rSH 0x040 0x00FF03FF 0 [(8, 2, 0, 2)], rSH 0x044 0x1FFF3FFF 0x01002000 [(0, 14, 64, 8192), (16, 13, 1, 4096)],
   rSH 0x048 0xFFFFFFFF 0x03E80000, rRW 0x04C 7 2, rSH 0x050 0xFFFFFF 0, rSH 0x054 0x0FFFFFFF 0x200 [(0, 16, 1, 65535)],
   rSH 0x058 0x03FFFFFF 0, rSH 0x05C 0xFFFFF 0x20000 [(0, 20, 1, 0xFFFFF)], rRW 0x060 0x37F 0x110 [(8, 2, 0, 2)], rWO 0x064,
   rRO 0x068, rRO 0x06C, rRO 0x070, rRO 0x074, rRO 0x078, rRO 0x07C, (rRO 0x080).arr 6 4, rSH 0x0C0 0xFF07 0,
   rSH 0x0C4 0x3FFF3FFF 0x20000000, rSH 0x0C8 0x1FFF0FFF 0x01000000 [(16, 13, 1, 4096)],
   (rSH 0x0CC 0x3FFFF 0).arr 2 0x10, (rSH 0x0D0 0xFFFF 0x10 [(0, 16, 1, 65535)]).arr 2 0x10, (rRO 0x0D4).arr 2 0x10,
   (rRW 0x0D8 0xFFFFFFFF 0).arr 2 0x10, (rCT 0x0F0).arr 2 4, (rRW 0x100 0x80FFFFFF 0).arr 32 4]

def descISP : List RegDesc :=
  [(rSH 0x040 0x3FFF0FFF 0x30000000).arr 4 0x10, (rRO 0x044).arr 4 0x10, (rRO 0x048).arr 4 0x10, rRO 0x080, rWO 0x084,
   rRO 0x088]

def descINSPECT : List RegDesc :=
  [rSH 0x040 0xF3 0, rSH 0x044 0xFFF 0xFFF, rSH 0x048 0x0FFF0FFF 0, rSH 0x04C 0xFFF 0,
   rSH 0x050 0x00FF0FFF 0x00400100 [(16, 8, 1, 255)], (rSH 0x054 0xFFFFFFFF 0).arr 3 4, rSH 0x060 0xFFFFFFFF 0x80,
   (rSH 0x064 0xFFFFFFFF 0).arr 2 4, rSH 0x06C 0xFF 0, rRO 0x070, (rRO 0x074).arr 10 4, rWO 0x09C, rCT 0x0A0, rRO 0x0A4,
   rRO 0x0A8, rRO 0x0AC]

def descTRAV : List RegDesc :=
  [rSH 0x040 0x000F0F3F 0xF0000, rSH 0x044 0xFFFFFFFF 0x01001000 [(0, 16, 256, 65535), (16, 16, 16, 65535)],
   rSH 0x048 0x0FFF0FFF 0x04000052 [(0, 12, 1, 4095)], rSH 0x04C 0x07FFFFFF 0x02000408 [(0, 8, 1, 64), (16, 11, 1, 2047)],
   rSH 0x050 0xFFF 0x800 [(0, 12, 1, 4095)], rSH 0x054 0xFFFFF 0x00080818 [(0, 8, 1, 255)],
   rSH 0x058 0x0FFF00FF 0x00400080 [(0, 8, 1, 255), (16, 12, 1, 4095)], rSH 0x05C 0xFF00FFFF 0x10000040 [(24, 8, 1, 255)],
   rRW 0x060 0xFFFFFFFF 0, rRW 0x064 0xFFFFFFFF 0x02000200, rRW 0x068 0x3FF 0x32 [(0, 10, 1, 1000)], rWO 0x06C, rWO 0x070,
   rRW 0x074 0x1FFFF 0, rRW 0x078 0x3FFFF 1 [(0, 18, 1, 131072)], rRO 0x07C, rRO 0x080, rRO 0x084, rRO 0x088, rRO 0x08C,
   rRO 0x090, rRO 0x094, rRO 0x098, rCT 0x09C, rRW 0x0A0 0x1FFFF 0, rRO 0x0A4, rRO 0x0A8, rRW 0x0AC 0xF 8, rRO 0x0B0]

end Sys2Proof.Machine
end

