-- ==== Sys2Proof/Machine/RegsDram.lean ====
section
/-! DEFINITION. The registers of DRAM, DRAMTRN, DRAMQOS and DEFL (R310, R311, R312, R324). -/
namespace Sys2Proof.Machine

namespace Reg
abbrev DRAM_CTRL : Nat := 0x40048040
abbrev DRAM_STATUS : Nat := 0x40048044
abbrev DRAM_SIZE : Nat := 0x40048048
abbrev DRAM_REF : Nat := 0x4004804C
abbrev DRAM_REF_CNT : Nat := 0x40048050
abbrev DRAM_TEMP : Nat := 0x40048054
abbrev DRAM_ECC_ADDR : Nat := 0x40048058
abbrev DRAM_SCRUB : Nat := 0x4004805C
abbrev DRAM_SCRUB_POS : Nat := 0x40048060
abbrev DRAM_EYE_CFG : Nat := 0x40048064
abbrev DRAM_EYE (k : Nat) : Nat := 0x40048068 + 4 * k
abbrev DRAM_MAKEUP : Nat := 0x40048088
abbrev DRAM_RD : Nat := 0x4004808C
abbrev DRAM_WR : Nat := 0x40048094
abbrev DRAMTRN_CMD : Nat := 0x40049040
abbrev DRAMTRN_CMD_STATUS : Nat := 0x40049044
abbrev DRAMTRN_RANGE : Nat := 0x40049048
abbrev DRAMTRN_PAT : Nat := 0x4004904C
abbrev DRAMTRN_WORD : Nat := 0x40049050
abbrev DRAMTRN_MR : Nat := 0x40049054
abbrev DRAMTRN_MRR : Nat := 0x40049058
abbrev DRAMTRN_MAP (l w : Nat) : Nat := 0x40049060 + 0x10 * l + 4 * w
abbrev DRAMTRN_DLY_CA (k : Nat) : Nat := 0x40049100 + 0x10 * k
abbrev DRAMTRN_DLY_RD (k : Nat) : Nat := 0x40049104 + 0x10 * k
abbrev DRAMTRN_DLY_WR (k : Nat) : Nat := 0x40049108 + 0x10 * k
abbrev DRAMQOS_CAP : Nat := 0x4004A040
abbrev DRAMQOS_AGE : Nat := 0x4004A044
abbrev DRAMQOS_DEMAND : Nat := 0x4004A048
abbrev DRAMQOS_RESV : Nat := 0x4004A04C
abbrev DRAMQOS_PROMO (c : Nat) : Nat := 0x4004A050 + 4 * (c - 1)
abbrev DRAMQOS_REG (p : Nat) : Nat := 0x4004A080 + 0x10 * p
abbrev DRAMQOS_BYTES (p : Nat) : Nat := 0x4004A084 + 0x10 * p
abbrev DRAMQOS_HELD (p : Nat) : Nat := 0x4004A088 + 0x10 * p
abbrev DRAMQOS_OVER (p : Nat) : Nat := 0x4004A08C + 0x10 * p
abbrev DEFL_IN : Nat := 0x40050040
abbrev DEFL_OUT : Nat := 0x40050048
abbrev DEFL_OWN : Nat := 0x40050050
/-- A register of the block of DEFLATE engine `e` (R324). -/
abbrev DEFL_E (e off : Nat) : Nat := 0x40050080 + 0x80 * e + off
abbrev DEFL_E_CMD (e : Nat) : Nat := DEFL_E e 0x00
abbrev DEFL_E_STATUS (e : Nat) : Nat := DEFL_E e 0x04
abbrev DEFL_E_MODE (e : Nat) : Nat := DEFL_E e 0x08
abbrev DEFL_E_ADDR_HI (e : Nat) : Nat := DEFL_E e 0x0C
abbrev DEFL_E_SRC_LO (e : Nat) : Nat := DEFL_E e 0x10
abbrev DEFL_E_SRC_LEN (e : Nat) : Nat := DEFL_E e 0x14
abbrev DEFL_E_DST_LO (e : Nat) : Nat := DEFL_E e 0x18
abbrev DEFL_E_DST_LEN (e : Nat) : Nat := DEFL_E e 0x1C
abbrev DEFL_E_IN_DONE (e : Nat) : Nat := DEFL_E e 0x20
abbrev DEFL_E_OUT_DONE (e : Nat) : Nat := DEFL_E e 0x24
abbrev DEFL_E_BUF_OUT (e : Nat) : Nat := DEFL_E e 0x28
abbrev DEFL_E_IN_CRC (e : Nat) : Nat := DEFL_E e 0x2C
abbrev DEFL_E_OUT_CRC (e : Nat) : Nat := DEFL_E e 0x30
abbrev DEFL_E_FLUSH (e : Nat) : Nat := DEFL_E e 0x34
end Reg

def descDRAM : List RegDesc :=
  [rRW 0x040 0x311F 0x311F, rRO 0x044, rRO 0x048, rRW 0x04C 0x00FF000F 0x00100008 [(0, 4, 1, 8), (16, 8, 1, 255)], rRO 0x050,
   rRO 0x054, rRO 0x058, rRW 0x05C 0x00FF0000 0x00180000 [(16, 8, 1, 255)], rRO 0x060,
   rRW 0x064 0xF03FF 0x30064 [(0, 10, 10, 1000), (16, 4, 1, 15)], (rRO 0x068).arr 8 4, rRO 0x088, (rRO 0x08C).arr 4 4]

def descDRAMTRN : List RegDesc :=
  [rWO 0x040, rRO 0x044, rRW 0x048 0xFF7F7F 0x107F00 [(16, 8, 1, 255)], rRW 0x04C 3 2 [(0, 2, 0, 2)],
   rRW 0x050 0xFFFFFFFF 0x5A5AA5A5, rRW 0x054 0xFF7F 0, rRO 0x058, (rRO 0x060).arr 8 4,
   (rRW 0x100 0x7F7F7F 0x404040).arr 8 0x10, (rRW 0x104 0x7F7F 0x4040).arr 8 0x10, (rRW 0x108 0x7F7F 0x4040).arr 8 0x10]

/-- DRAMQOS_REG reset words by port (R312). -/
def qosReset : List Nat :=
  [0x020001AB, 0x020001AB, 0x004010D6, 0x004010D6, 0x020011AB, 0x00401028, 0x00401014, 0x00401028, 0x00401014, 0x00401004,
   0x00401004, 0x00401004]

def descDRAMQOS : List RegDesc :=
  [rRO 0x040 0x947, rRW 0x044 0x00FFFFFF 0x00804010 [(0, 8, 1, 255), (8, 8, 1, 255), (16, 8, 1, 255)], rRO 0x048 0x1AB,
   rRO 0x04C 0x818, (rRO 0x050).arr 3 4] ++
  ((List.range 12).map fun p => rRW (0x080 + 0x10 * p) 0x0FFF1FFF ((qosReset[p]?).getD 0) [(16, 12, 1, 4095)]) ++
  [(rRO 0x084).arr2 12 0x10 3 4]

def descDEFL : List RegDesc :=
  [(rRO 0x040).arr 4 4, rRW 0x050 3 3, (rWO 0x080).arr 2 0x80, (rRO 0x084).arr 2 0x80,
   (rRW 0x088 0x73F 0x216 [(8, 3, 0, 4)]).arr 2 0x80, (rRW 0x08C 0x303 0).arr 2 0x80, (rRW 0x090 0xFFFFFFFF 0).arr 2 0x80,
   (rRW 0x094 0x0FFFFFFF 0).arr 2 0x80, (rRW 0x098 0xFFFFFFFF 0).arr 2 0x80, (rRW 0x09C 0x0FFFFFFF 0).arr 2 0x80,
   (rRO 0x0A0).arr2 2 0x80 5 4, (rWO 0x0B4).arr 2 0x80]

end Sys2Proof.Machine
end

