-- ==== Sys2Proof/Machine/RegsFire.lean ====
section
/-! DEFINITION. The registers of DELAY, FIRE, HLINK, HEADS, WEB and PAIR (R159, R160, R188, R189, R207, R370). -/
namespace Sys2Proof.Machine

namespace Reg
abbrev DELAY_RING_BASE : Nat := 0x40016040
abbrev DELAY_RING_LINES : Nat := 0x40016044
abbrev DELAY_RING_BYTES : Nat := 0x40016048
abbrev DELAY_ROW_MAX : Nat := 0x4001604C
abbrev DELAY_INSP_LINES : Nat := 0x40016050
abbrev DELAY_SERIAL : Nat := 0x40016054
abbrev DELAY_LINES : Nat := 0x40016058
abbrev DELAY_ZERO_LINES : Nat := 0x4001605C
abbrev DELAY_CHK_FAIL : Nat := 0x40016060
abbrev DELAY_CHK_SERIAL : Nat := 0x40016064
abbrev DELAY_ROW (h r : Nat) : Nat := 0x40016100 + 4 * (8 * h + r)
abbrev FIRE_CTRL : Nat := 0x40017040
abbrev FIRE_PITCH_DEN : Nat := 0x40017044
abbrev FIRE_PITCH_NUM : Nat := 0x40017048
abbrev FIRE_MIN_PERIOD : Nat := 0x4001704C
abbrev FIRE_PULSE : Nat := 0x40017050
abbrev FIRE_MAX_WIDTH : Nat := 0x40017054
abbrev FIRE_CMD : Nat := 0x40017058
abbrev FIRE_CMD_STATUS : Nat := 0x4001705C
abbrev FIRE_STATE : Nat := 0x40017060
abbrev FIRE_BENCHMARK : Nat := 0x40017064
abbrev FIRE_BENCH_FRAC : Nat := 0x40017068
abbrev FIRE_DEFICIT : Nat := 0x4001706C
abbrev FIRE_SERIAL : Nat := 0x40017070
abbrev FIRE_ANCHOR_ERR : Nat := 0x40017074
abbrev FIRE_WDOG : Nat := 0x40017078
abbrev FIRE_TAPCAL : Nat := 0x4001707C
abbrev FIRE_HIST_BANK : Nat := 0x40017080
abbrev FIRE_HIST_CMD : Nat := 0x40017084
abbrev FIRE_HIST_CMD_STATUS : Nat := 0x40017088
abbrev FIRE_LINES_FIRED : Nat := 0x40017090
abbrev FIRE_LINES_DROPPED : Nat := 0x40017094
abbrev FIRE_LINES_UNFIRED : Nat := 0x40017098
abbrev FIRE_LEADSHORT : Nat := 0x4001709C
abbrev FIRE_LATELINE : Nat := 0x400170A0
abbrev FIRE_SQUEEZED : Nat := 0x400170A4
abbrev FIRE_CATCHUP : Nat := 0x400170A8
abbrev FIRE_PHASE (h : Nat) : Nat := 0x40017100 + 4 * h
/-- History table word (R143). -/
abbrev HIST (bank h idx : Nat) : Nat := 0x51100000 + 0x8000 * bank + 0x100 * h + 4 * idx
abbrev HLINK_CTRL : Nat := 0x40018040
abbrev HLINK_KA_PERIOD : Nat := 0x40018044
abbrev HLINK_LOSS_TIME : Nat := 0x40018048
abbrev HLINK_CMD_TIMEOUT : Nat := 0x4001804C
abbrev HLINK_CLAIM : Nat := 0x40018050
abbrev HLINK_HCMD : Nat := 0x40018054
abbrev HLINK_HCMD_STATUS : Nat := 0x40018058
abbrev HLINK_HCMD_RESP : Nat := 0x4001805C
abbrev HLINK_READY : Nat := 0x40018060
abbrev HLINK_REJOIN : Nat := 0x40018064
abbrev HLINK_FRAMES : Nat := 0x40018068
abbrev HLINK_CMDS : Nat := 0x4001806C
abbrev HLINK_HCMD_PARAM (w : Nat) : Nat := 0x40018100 + 4 * w
abbrev HLINK_HCMD_DATA (w : Nat) : Nat := 0x40018500 + 4 * w
abbrev HEADS_CFG (h : Nat) : Nat := 0x40019040 + 0x40 * h
abbrev HEADS_RANGE (h : Nat) : Nat := 0x40019044 + 0x40 * h
abbrev HEADS_COUNT (h : Nat) : Nat := 0x40019048 + 0x40 * h
abbrev HEADS_STATE (h : Nat) : Nat := 0x4001904C + 0x40 * h
abbrev HEADS_CLAIM (h : Nat) : Nat := 0x40019050 + 0x40 * h
abbrev HEADS_TEMP (h : Nat) : Nat := 0x40019054 + 0x40 * h
abbrev HEADS_EDGE (h : Nat) : Nat := 0x40019058 + 0x40 * h
abbrev HEADS_CRCFAIL (h : Nat) : Nat := 0x4001905C + 0x40 * h
abbrev HEADS_MISSED (h : Nat) : Nat := 0x40019060 + 0x40 * h
abbrev HEADS_LOSTCNT (h : Nat) : Nat := 0x40019064 + 0x40 * h
abbrev HEADS_VENDOR (h k : Nat) : Nat := 0x40019068 + 0x40 * h + 4 * k
abbrev HEADS_TEL_AGE (h : Nat) : Nat := 0x40019070 + 0x40 * h
abbrev HEADS_HOLD (h : Nat) : Nat := 0x40019074 + 0x40 * h
abbrev WEB_CTRL : Nat := 0x4001C040
abbrev WEB_ENC_CFG (e : Nat) : Nat := 0x4001C044 + 4 * e
abbrev WEB_FAULT_CFG : Nat := 0x4001C04C
abbrev WEB_REV_TOL : Nat := 0x4001C050
abbrev WEB_STANDSTILL : Nat := 0x4001C054
abbrev WEB_STAKE_FRESH : Nat := 0x4001C058
abbrev WEB_STAKE_PERIOD : Nat := 0x4001C05C
abbrev WEB_STAKE_OFS : Nat := 0x4001C060
abbrev WEB_IDX_LOAD (e : Nat) : Nat := 0x4001C064 + 4 * e
abbrev WEB_LOAD_VAL : Nat := 0x4001C06C
abbrev WEB_CMD : Nat := 0x4001C070
abbrev WEB_CMD_STATUS : Nat := 0x4001C074
abbrev WEB_STATE : Nat := 0x4001C078
abbrev ENC_POS : Nat := 0x4001C080
abbrev WEB_X_TIME : Nat := 0x4001C084
abbrev WEB_T_COUNT : Nat := 0x4001C088
abbrev WEB_SPEED : Nat := 0x4001C08C
abbrev WEB_CNT (e : Nat) : Nat := 0x4001C0A0 + 0x20 * e
abbrev WEB_EDGE_T (e : Nat) : Nat := 0x4001C0A4 + 0x20 * e
abbrev WEB_TCNT (e : Nat) : Nat := 0x4001C0A8 + 0x20 * e
abbrev WEB_SPD (e : Nat) : Nat := 0x4001C0AC + 0x20 * e
abbrev WEB_DATUM (e : Nat) : Nat := 0x4001C0B0 + 0x20 * e
abbrev WEB_DATUM_T (e : Nat) : Nat := 0x4001C0B4 + 0x20 * e
abbrev WEB_IDXCNT (e : Nat) : Nat := 0x4001C0B8 + 0x20 * e
abbrev WEB_REVS (e : Nat) : Nat := 0x4001C0BC + 0x20 * e
abbrev WEB_CUE_POS : Nat := 0x4001C0E0
abbrev WEB_CUE_T : Nat := 0x4001C0E4
abbrev WEB_STAKE_DIFF : Nat := 0x4001C0E8
abbrev WEB_STAKE_AGE : Nat := 0x4001C0EC
abbrev WEB_STAKE_RX : Nat := 0x4001C0F0
abbrev WEB_STAKE_TX : Nat := 0x4001C0F4
abbrev WEB_CMP_CFG (c : Nat) : Nat := 0x4001C100 + 0x10 * c
abbrev WEB_CMP_PTR (c : Nat) : Nat := 0x4001C104 + 0x10 * c
abbrev WEB_CMP_NEXT (c : Nat) : Nat := 0x4001C108 + 0x10 * c
abbrev WEB_CMP_HITS (c : Nat) : Nat := 0x4001C10C + 0x10 * c
/-- Compare entry word (R203). -/
abbrev CMP_ENTRY (c i w : Nat) : Nat := 0x51200000 + 0x2000 * c + 16 * i + 4 * w
abbrev PAIR_CTRL : Nat := 0x40068040
abbrev PAIR_CFG : Nat := 0x40068044
abbrev PAIR_MIRROR_TMO : Nat := 0x40068048
abbrev PAIR_PEER : Nat := 0x4006804C
abbrev PAIR_STATE : Nat := 0x40068050
abbrev PAIR_CLAIM : Nat := 0x40068054
abbrev PAIR_PEER_CLAIM : Nat := 0x40068058
abbrev PAIR_CMD : Nat := 0x4006805C
abbrev PAIR_CMD_STATUS : Nat := 0x40068060
abbrev PAIR_LAST_TAKE : Nat := 0x40068064
abbrev PAIR_GAP_LINES : Nat := 0x40068068
abbrev PAIR_TAKEOVERS : Nat := 0x4006806C
abbrev PAIR_MIRROR_TX : Nat := 0x40068070
abbrev PAIR_MIRROR_RX : Nat := 0x40068074
abbrev PAIR_LATE_TRIM : Nat := 0x40068078
end Reg

def descDELAY : List RegDesc :=
  [rRW 0x040 0x3FFFF 0, rRW 0x044 0x1FFFF 0x8000 [(0, 17, 256, 32768)], rRO 0x048 0x100000, rRO 0x04C, rRO 0x050, rRO 0x054,
   rRO 0x058, rRO 0x05C, rRO 0x060, rRO 0x064,
   (rSH 0x100 0x11FFF 0x10000 [(0, 13, 0, 4096)]).arr 32 0x20,
   (rSH 0x104 0x11FFF 0 [(0, 13, 0, 4096)]).arr2 32 0x20 7 4]

def descFIRE : List RegDesc :=
  [rRW 0x040 0x1FF77 0x10830 [(4, 3, 2, 4), (8, 8, 1, 255)], rRW 0x044 0xFFFF 0x78 [(0, 16, 1, 65535)],
   rRW 0x048 0xFFFF 0x7F [(0, 16, 1, 65535)], rSH 0x04C 0xFFFF 0x12C0 [(0, 16, 1000, 65535)],
   rRW 0x050 0xFFF 0xC8 [(0, 12, 20, 4000)], rRW 0x054 0xFFFF 0x3E8 [(0, 16, 100, 10000)], rWO 0x058, rRO 0x05C, rRO 0x060,
   rRO 0x064, rRO 0x068, rRO 0x06C, rRO 0x070, rRO 0x074, rW1 0x078 0xFFFFFFFF, rRO 0x07C, rRO 0x080, rWO 0x084, rRO 0x088,
   rRO 0x090, rRO 0x094, rRO 0x098, rRO 0x09C, rRO 0x0A0, rRO 0x0A4, rRO 0x0A8, (rSH 0x100 0x1FFF 0).arr 32 4]

def descHLINK : List RegDesc :=
  [rRW 0x040 1 1, rRW 0x044 0xFFF 0x7D0 [(0, 12, 1000, 2000)], rRW 0x048 0x7F 0x14 [(0, 7, 8, 100)],
   rRW 0x04C 0x3FFF 0x32 [(0, 14, 10, 10000)], rRO 0x050, rWO 0x054, rRO 0x058, rRO 0x05C, rRO 0x060, rWO 0x064, rRO 0x068,
   rRO 0x06C, (rRW 0x100 0xFFFFFFFF 0).arr 256 4, (rRO 0x500).arr 64 4]

def descHEADS : List RegDesc :=
  [(rSH 0x040 0x3F0F 0 [(8, 6, 0, 47)]).arr 32 0x40, (rSH 0x044 0x1FFFF 0).arr 32 0x40,
   (rSH 0x048 0x3FFF 0x1000).arr 32 0x40, (rRO 0x04C).arr 32 0x40, (rRO 0x050).arr 32 0x40,
   (rRO 0x054).arr 32 0x40, (rRO 0x058).arr 32 0x40, (rCT 0x05C).arr 32 0x40, (rCT 0x060).arr 32 0x40,
   (rCT 0x064).arr 32 0x40, (rRO 0x068).arr 32 0x40, (rRO 0x06C).arr 32 0x40, (rRO 0x070 0xFFFF).arr 32 0x40,
   (rRW 0x074 1 1).arr 32 0x40]

def descWEB : List RegDesc :=
  [rRW 0x040 0x003F3F0F 0, (rRW 0x044 0x1F1F1F 0x40400 [(3, 2, 0, 2), (8, 5, 1, 31), (16, 5, 1, 16)]).arr 2 4,
   rRW 0x04C 0xFFFF00FF 0x640004 [(0, 8, 1, 255), (16, 16, 1, 65535)], rRW 0x050 0xFF 8,
   rRW 0x054 0x3FFF 0x3E8 [(0, 14, 10, 16000)], rRW 0x058 0x3FF 0x32 [(0, 10, 5, 1000)],
   rRW 0x05C 0x7F 0xA [(0, 7, 1, 100)], rRW 0x060 0xFFFFFFFF 0, (rRW 0x064 0xFFFFFFFF 0).arr 2 4, rRW 0x06C 0xFFFFFFFF 0,
   rWO 0x070, rRO 0x074, rRO 0x078, (rRO 0x080).arr 4 4, (rRO 0x0A0).arr2 2 0x20 8 4, rRO 0x0E0, rRO 0x0E4, rRO 0x0E8,
   rRO 0x0EC 0xFFFF, rRO 0x0F0, rRO 0x0F4, (rRW 0x100 0x1FF07 0).arr 8 0x10, (rRO 0x104).arr2 8 0x10 3 4]

def descPAIR : List RegDesc :=
  [rRW 0x040 0x703 2, rRW 0x044 0xFFFFFFFF 0x14101770 [(0, 16, 2000, 15000), (16, 8, 1, 64), (24, 8, 8, 20)],
   rRW 0x048 0x3FFF 0xC8 [(0, 14, 40, 10000)], rRW 0x04C 0x3F 0, rRO 0x050, rRW 0x054 0xFFF0 0, rRO 0x058, rWO 0x05C,
   rRO 0x060, rRO 0x064, rRO 0x068, rRO 0x06C, rRO 0x070, rRO 0x074, rCT 0x078]

end Sys2Proof.Machine
end

