-- ==== Sys2Proof/Machine/RegsIntake.lean ====
section
/-! DEFINITION. The registers of INTAKE and INFL (R103, R105). -/
namespace Sys2Proof.Machine

namespace Reg
abbrev INTAKE_CTRL : Nat := 0x40010040
abbrev INTAKE_STORE_BASE : Nat := 0x40010044
abbrev INTAKE_STORE_SLOTS : Nat := 0x40010048
abbrev INTAKE_STORE_FREE : Nat := 0x4001004C
abbrev INTAKE_SEQ : Nat := 0x40010050
abbrev INTAKE_PAGE : Nat := 0x40010054
abbrev INTAKE_PAGE_LINE : Nat := 0x40010058
abbrev INTAKE_QUEUE : Nat := 0x4001005C
abbrev INTAKE_CMD : Nat := 0x40010060
abbrev INTAKE_CMD_STATUS : Nat := 0x40010064
abbrev INTAKE_DESC_PUSH : Nat := 0x40010068
abbrev INTAKE_DUP : Nat := 0x4001006C
abbrev INTAKE_BANDS_OK : Nat := 0x40010070
abbrev INTAKE_LINES_BLANK : Nat := 0x40010074
abbrev INTAKE_BYTES_LO : Nat := 0x40010078
abbrev INTAKE_FAIL_LEVEL : Nat := 0x40010080
abbrev INTAKE_FAIL_ID : Nat := 0x40010084
abbrev INTAKE_FAIL_PAGE : Nat := 0x40010088
abbrev INTAKE_FAIL_LINES : Nat := 0x4001008C
abbrev INTAKE_FAIL_INFO : Nat := 0x40010090
abbrev INTAKE_FAIL_TIME : Nat := 0x40010094
abbrev INTAKE_FAIL_POP : Nat := 0x40010098
abbrev INTAKE_FAIL_LOST : Nat := 0x4001009C
abbrev INTAKE_DESC (w : Nat) : Nat := 0x40010100 + 4 * w
abbrev INFL_ENGINE_MASK : Nat := 0x40011040
abbrev INFL_ACTIVE : Nat := 0x40011044
abbrev INFL_BYTES_LO : Nat := 0x40011048
abbrev INFL_BAND_TIME_MAX : Nat := 0x40011050
abbrev INFL_E_STATE (e : Nat) : Nat := 0x40011000 + 0x80 * (e + 1)
abbrev INFL_E_OUT (e : Nat) : Nat := 0x40011004 + 0x80 * (e + 1)
abbrev INFL_E_ERR (e : Nat) : Nat := 0x40011008 + 0x80 * (e + 1)
abbrev INFL_E_RATE (e : Nat) : Nat := 0x4001100C + 0x80 * (e + 1)
end Reg

def descINTAKE : List RegDesc :=
  [{ rRW 0x040 0x00FF0F03 0 with shadow := 0x00FF0F00 }, rRW 0x044 0x3FFFF 0, rRW 0x048 0x7FF 0x40 [(0, 11, 4, 1024)],
   rRO 0x04C, rRO 0x050, rRO 0x054, rRO 0x058, rRO 0x05C 0x01000000, rWO 0x060, rRO 0x064, rWO 0x068, rCT 0x06C,
   rRO 0x070, rRO 0x074, rRO 0x078, rRO 0x07C, rRO 0x080, rRO 0x084, rRO 0x088, rRO 0x08C, rRO 0x090, rRO 0x094,
   rWO 0x098, rCT 0x09C, (rRW 0x100 0xFFFFFFFF 0).arr 8 4]

def descINFL : List RegDesc :=
  [rSH 0x040 0xFFFF 0xFFFF, rRO 0x044, rRO 0x048, rRO 0x04C, rRC 0x050, (rRO 0x080).arr 16 0x80, (rRO 0x084).arr 16 0x80,
   (rCT 0x088).arr 16 0x80, (rRO 0x08C).arr 16 0x80]

end Sys2Proof.Machine
end

