-- ==== Sys2Proof/Machine/RegsLoop.lean ====
section
/-! DEFINITION. The registers of LOOP, LOOPCAP and MOTION (R343, R344, R355). -/
namespace Sys2Proof.Machine

namespace Reg
abbrev LOOP_MON_SEL : Nat := 0x40058040
abbrev LOOP_MON_Y : Nat := 0x40058044
abbrev LOOP_SAFE_ACT (w : Nat) : Nat := 0x40058058 + 4 * w
abbrev LOOP_OSC_ACT (w : Nat) : Nat := 0x40058068 + 4 * w
abbrev LOOP_UPDATES : Nat := 0x40058078
abbrev LOOP_BUDGET : Nat := 0x4005807C
abbrev LOOP_G_PERIOD (g : Nat) : Nat := 0x40058080 + 0x10 * g
abbrev LOOP_G_OSC (g : Nat) : Nat := 0x40058084 + 0x10 * g
abbrev LOOP_G_HYST (g : Nat) : Nat := 0x40058088 + 0x10 * g
abbrev LOOP_G_TICKS (g : Nat) : Nat := 0x4005808C + 0x10 * g
abbrev LOOP_SPI_CFG (k : Nat) : Nat := 0x40058100 + 0x20 * k
abbrev LOOP_SPI_TXW (k c : Nat) : Nat := 0x40058104 + 0x20 * k + 4 * c
abbrev LOOP_SPI_CHK (k : Nat) : Nat := 0x40058114 + 0x20 * k
abbrev LOOP_SPI_DAC (k : Nat) : Nat := 0x40058118 + 0x20 * k
abbrev LOOP_SPI_DACW (k : Nat) : Nat := 0x4005811C + 0x20 * k
abbrev LOOP_PWM (n : Nat) : Nat := 0x40058180 + 4 * n
/-- The word that holds LOOP_SAFE of slots `2 j` and `2 j + 1`. -/
abbrev LOOP_SAFE (j : Nat) : Nat := 0x40058300 + 4 * j
abbrev LOOP_S_CFG (s : Nat) : Nat := 0x40058400 + 0x18 * s
abbrev LOOP_S_SP (s : Nat) : Nat := 0x40058404 + 0x18 * s
abbrev LOOP_S_KPI (s : Nat) : Nat := 0x40058408 + 0x18 * s
abbrev LOOP_S_KDF (s : Nat) : Nat := 0x4005840C + 0x18 * s
abbrev LOOP_S_SHIFT (s : Nat) : Nat := 0x40058410 + 0x18 * s
abbrev LOOP_S_LIM (s : Nat) : Nat := 0x40058414 + 0x18 * s
abbrev LOOPCAP_CMD : Nat := 0x40059040
abbrev LOOPCAP_CMD_STATUS : Nat := 0x40059044
abbrev LOOPCAP_ADDR : Nat := 0x40059048
abbrev LOOPCAP_DATA : Nat := 0x4005904C
abbrev LOOPCAP_G_CFG (g : Nat) : Nat := 0x40059080 + 0x20 * g
abbrev LOOPCAP_G_REGION (g : Nat) : Nat := 0x40059084 + 0x20 * g
abbrev LOOPCAP_G_INJ (g : Nat) : Nat := 0x40059088 + 0x20 * g
abbrev LOOPCAP_G_TIME (g : Nat) : Nat := 0x4005908C + 0x20 * g
abbrev LOOPCAP_G_NODES01 (g : Nat) : Nat := 0x40059090 + 0x20 * g
abbrev LOOPCAP_G_NODES23 (g : Nat) : Nat := 0x40059094 + 0x20 * g
abbrev LOOPCAP_G_STATE (g : Nat) : Nat := 0x40059098 + 0x20 * g
abbrev LOOPCAP_G_TRIGPTR (g : Nat) : Nat := 0x4005909C + 0x20 * g
/-- A register of the block of axis `a` (R355). -/
abbrev MOTION (a off : Nat) : Nat := 0x40060100 + 0x80 * a + off
abbrev MOTION_CFG (a : Nat) : Nat := MOTION a 0x00
abbrev MOTION_VMAX (a : Nat) : Nat := MOTION a 0x04
abbrev MOTION_VSTART (a : Nat) : Nat := MOTION a 0x08
abbrev MOTION_PULLIN (a : Nat) : Nat := MOTION a 0x0C
abbrev MOTION_ACC (a : Nat) : Nat := MOTION a 0x10
abbrev MOTION_JERK (a : Nat) : Nat := MOTION a 0x14
abbrev MOTION_TARGET (a : Nat) : Nat := MOTION a 0x18
abbrev MOTION_CMD (a : Nat) : Nat := MOTION a 0x1C
abbrev MOTION_CMD_STATUS (a : Nat) : Nat := MOTION a 0x20
abbrev MOTION_STOP (a : Nat) : Nat := MOTION a 0x24
abbrev MOTION_POS (a : Nat) : Nat := MOTION a 0x28
abbrev MOTION_VEL (a : Nat) : Nat := MOTION a 0x2C
abbrev MOTION_STATE (a : Nat) : Nat := MOTION a 0x30
abbrev MOTION_HOME_CFG (a : Nat) : Nat := MOTION a 0x34
abbrev MOTION_HOME_V (a : Nat) : Nat := MOTION a 0x38
abbrev MOTION_HOME_POS (a : Nat) : Nat := MOTION a 0x3C
abbrev MOTION_HOME_LATCH (a : Nat) : Nat := MOTION a 0x40
abbrev MOTION_CUR (a : Nat) : Nat := MOTION a 0x44
abbrev MOTION_LOAD (a : Nat) : Nat := MOTION a 0x48
abbrev MOTION_LBASE (a : Nat) : Nat := MOTION a 0x4C
abbrev MOTION_CYCLE (a : Nat) : Nat := MOTION a 0x50
abbrev MOTION_INDEX_POS (a : Nat) : Nat := MOTION a 0x54
abbrev MOTION_LOAD_VAL (a : Nat) : Nat := MOTION a 0x58
abbrev MOTION_STEPS (a : Nat) : Nat := MOTION a 0x5C
end Reg

/-- The greatest V (R346). -/
def vLimit : Nat := 85899345

def descLOOP : List RegDesc :=
  [rRW 0x040 0x7F 0, (rRO 0x044).arr 4 4, (rRO 0x058).arr 4 4, (rW1 0x068 0xFFFFFFFF).arr 4 4, rRO 0x078, rRO 0x07C,
   (rRW 0x080 0xFFFFF 0x3E8 [(0, 20, 20, 1000000)]).arr 8 0x10,
   (rSH 0x084 0x3FFFF 0x820 [(0, 8, 8, 255), (8, 8, 2, 255), (16, 2, 0, 2)]).arr 8 0x10,
   (rSH 0x088 0xFFFFFFFF 0).arr 8 0x10, (rRO 0x08C).arr 8 0x10,
   (rRW 0x100 0x3FFF3FFF 0x01E00178 [(3, 5, 7, 31)]).arr 4 0x20, (rRW 0x104 0xFFFFFFFF 0).arr2 4 0x20 4 4,
   (rRW 0x114 0xFFFFFFFF 0).arr 4 0x20, (rRW 0x118 0x1F1F1F 0 [(16, 5, 0, 15)]).arr 4 0x20,
   (rRW 0x11C 0xFFFFFFFF 0).arr 4 0x20, (rRW 0x180 0xFFFFF003 0x02710000 [(12, 20, 100, 1000000)]).arr 16 4,
   (rSH 0x300 0xFFFFFFFF 0).arr 64 4, (rRW 0x400 0xFFFFFFEF 0).arr 128 0x18, (rSH 0x404 0xFFFFFFFF 0).arr 128 0x18,
   (rSH 0x408 0xFFFFFFFF 0).arr 128 0x18, (rSH 0x40C 0xFFFFFFFF 0).arr 128 0x18, (rSH 0x410 0x1F1F1F1F 0).arr 128 0x18,
   (rSH 0x414 0xFFFFFFFF 0x7FFF8000).arr 128 0x18]

def descLOOPCAP : List RegDesc :=
  [rWO 0x040, rRO 0x044, rRW 0x048 0x3FFF 0, rRO 0x04C, (rRW 0x080 7 0 [(0, 2, 0, 2)]).arr 8 0x20,
   (rRW 0x084 0x7FFF3FFF 0 [(16, 15, 0, 16384)]).arr 8 0x20, (rRW 0x088 0xFFFF03FF 0 [(8, 2, 0, 2)]).arr 8 0x20,
   (rRW 0x08C 0xFFFFFFFF 1 [(0, 16, 1, 65535)]).arr 8 0x20, (rRW 0x090 0x877F877F 0 [(8, 3, 0, 6), (24, 3, 0, 6)]).arr2 8 0x20 2 4,
   (rRO 0x098).arr2 8 0x20 2 4]

def descMOTION : List RegDesc :=
  [(rRW 0x100 0x1FFF1F0F 0x00320A0C [(8, 5, 2, 24), (16, 8, 10, 255), (24, 2, 0, 2)]).arr 4 0x80,
   (rRW 0x104 0x7FFFFFF 0xD1B71 [(0, 27, 0, vLimit)]).arr 4 0x80, (rRW 0x108 0x7FFFFFF 0xA7C5 [(0, 27, 0, vLimit)]).arr 4 0x80,
   (rRW 0x10C 0x7FFFFFF 0x14F8B [(0, 27, 0, vLimit)]).arr 4 0x80, (rRW 0x110 0xFFFFFF 0x2B [(0, 24, 1, 0xFFFFFF)]).arr 4 0x80,
   (rRW 0x114 0xFFFFFF 0).arr 4 0x80, (rRW 0x118 0xFFFFFFFF 0).arr 4 0x80, (rWO 0x11C).arr 4 0x80, (rRO 0x120).arr 4 0x80,
   (rWO 0x124).arr 4 0x80, (rRO 0x128).arr2 4 0x80 2 4, (rRW 0x130 0 0).arr 4 0x80,
   (rRW 0x134 0xFFFF 0x314 [(0, 8, 1, 255), (8, 8, 1, 255)]).arr 4 0x80,
   (rRW 0x138 0x7FFFFFF 0xA7C5 [(0, 27, 1, vLimit)]).arr 4 0x80, (rRW 0x13C 0xFFFFFFFF 0).arr 4 0x80, (rRO 0x140).arr 4 0x80,
   (rRW 0x144 0xFFFF 0x8040).arr 4 0x80, (rRW 0x148 0x1FFFFF 0).arr 4 0x80, (rRW 0x14C 0xFFFFFFFF 0).arr 4 0x80,
   (rRW 0x150 0xFFFF07FF 0x640040 [(0, 11, 4, 1024), (16, 16, 1, 65535)]).arr 4 0x80, (rRO 0x154).arr2 4 0x80 3 4]

end Sys2Proof.Machine
end

