-- ==== Sys2Proof/Machine/RegsMap.lean ====
section
/-! DEFINITION. The registers of MAP and SCREEN (R128, R129) and the places of their table windows (R109, R112). -/
namespace Sys2Proof.Machine

namespace Reg
abbrev MAP_NOZZLES : Nat := 0x40014040
abbrev MAP_BANK : Nat := 0x40014044
abbrev MAP_CMD : Nat := 0x40014048
abbrev MAP_CMD_STATUS : Nat := 0x4001404C
abbrev MAP_VAL_NOZZLE : Nat := 0x40014050
abbrev MAP_TRIM_CTRL : Nat := 0x40014054
abbrev MAP_TRIM_ADDR : Nat := 0x40014058
abbrev MAP_TRIM_DATA : Nat := 0x4001405C
abbrev MAP_MISSING : Nat := 0x40014060
abbrev MAP_RODS : Nat := 0x40014064
abbrev MAP_LINE_BYTES : Nat := 0x40014068
abbrev MAP_PX_MAX : Nat := 0x4001406C
abbrev MAP_COMPSAT : Nat := 0x40014070
abbrev MAP_LINES : Nat := 0x40014074
abbrev SCREEN_TILE : Nat := 0x40015040
abbrev SCREEN_LEVEL_REMAP : Nat := 0x40015044
abbrev SCREEN_BANK : Nat := 0x40015048
abbrev SCREEN_CMD : Nat := 0x4001504C
abbrev SCREEN_CMD_STATUS : Nat := 0x40015050
abbrev SCREEN_DROPS (k : Nat) : Nat := 0x40015060 + 4 * (k - 1)
abbrev SCREEN_LINES : Nat := 0x4001506C
/-- Nozzle map entry word (R109). -/
abbrev MAP_ENTRY (bank n w : Nat) : Nat := 0x50000000 + 0x800000 * bank + 16 * n + 4 * w
/-- Threshold tile word (R112). -/
abbrev TILE (bank k y x : Nat) : Nat := 0x51000000 + 0x80000 * bank + 0x20000 * (k - 1) + 512 * y + 4 * (x / 2)
end Reg

def descMAP : List RegDesc :=
  [rRW 0x040 0x3FFFF 0x20000 [(0, 18, 1, 131072)], rRO 0x044 2, rWO 0x048, rRO 0x04C, rRO 0x050, rRW 0x054 1 1,
   rRW 0x058 0x8001FFFF 0, rRW 0x05C 0 0, rRO 0x060, rRO 0x064 0x40, rRO 0x068 0x8000, rRO 0x06C, rCT 0x070, rRO 0x074]

def descSCREEN : List RegDesc :=
  [rSH 0x040 0x01FF01FF 0x01000100 [(0, 9, 1, 256), (16, 9, 1, 256)], rSH 0x044 0xFF 0xE4, rRO 0x048, rWO 0x04C, rRO 0x050,
   (rRO 0x060).arr 3 4, rRO 0x06C]

end Sys2Proof.Machine
end

