-- ==== Sys2Proof/Machine/RegsNet.lean ====
section
/-! DEFINITION. The registers of LANEQ0 to LANEQ11, LANE, CHAIN, ETH and TIME (R266, R267, R289 to R292). -/
namespace Sys2Proof.Machine

namespace Reg
abbrev LANEQ (q off : Nat) : Nat := 0x40030000 + 0x1000 * q + off
abbrev LANEQ_REF (q : Nat) : Nat := LANEQ q 0x040
abbrev LANEQ_PLL (q j : Nat) : Nat := LANEQ q (0x044 + 4 * j)
abbrev LANEQ_STATUS (q : Nat) : Nat := LANEQ q 0x04C
/-- A register of the block of lane `l` (R266). -/
abbrev LANE (l off : Nat) : Nat := LANEQ (l / 4) (0x100 + 0x80 * (l % 4) + off)
abbrev LANE_CFG (l : Nat) : Nat := LANE l 0x00
abbrev LANE_CTRL (l : Nat) : Nat := LANE l 0x04
abbrev LANE_TXEQ (l : Nat) : Nat := LANE l 0x08
abbrev LANE_RXEQ (l : Nat) : Nat := LANE l 0x0C
abbrev LANE_STATUS (l : Nat) : Nat := LANE l 0x10
abbrev LANE_ADAPT (l : Nat) : Nat := LANE l 0x14
abbrev LANE_DFE (l : Nat) : Nat := LANE l 0x18
abbrev LANE_SYMERR (l : Nat) : Nat := LANE l 0x1C
abbrev LANE_LOCKLOSS (l : Nat) : Nat := LANE l 0x20
abbrev LANE_SKIP_INS (l : Nat) : Nat := LANE l 0x24
abbrev LANE_SKIP_DEL (l : Nat) : Nat := LANE l 0x28
abbrev LANE_PRBS_ERR (l : Nat) : Nat := LANE l 0x2C
abbrev LANE_PRBS_BITS (l : Nat) : Nat := LANE l 0x30
abbrev LANE_LOCK_LO : Nat := 0x4003C040
abbrev LANE_LOCK_HI : Nat := 0x4003C044
abbrev LANE_EXIT_HOLD : Nat := 0x4003C048
abbrev LANE_EYE_CFG : Nat := 0x4003C04C
abbrev LANE_ROLE_COUNT : Nat := 0x4003C050
abbrev CHAIN_CTRL : Nat := 0x40040040
abbrev CHAIN_KEEP_PERIOD : Nat := 0x40040044
abbrev CHAIN_KEEP_TIMEOUT : Nat := 0x40040048
abbrev CHAIN_WATCH (w : Nat) : Nat := 0x4004004C + 4 * w
abbrev CHAIN_SEEN (w : Nat) : Nat := 0x40040054 + 4 * w
abbrev CHAIN_REGMASK (w : Nat) : Nat := 0x4004005C + 4 * w
abbrev CHAIN_BCAST (w : Nat) : Nat := 0x40040064 + 4 * w
abbrev CHAIN_UP (w : Nat) : Nat := 0x4004006C + 4 * w
abbrev CHAIN_RX_FRAMES : Nat := 0x40040074
abbrev CHAIN_TX_FRAMES : Nat := 0x40040078
abbrev CHAIN_FWD_FRAMES : Nat := 0x4004007C
abbrev CHAIN_DROP_ACCEPT : Nat := 0x40040080
abbrev CHAIN_DROP_REG : Nat := 0x40040084
abbrev CHAIN_LOST_NODE : Nat := 0x40040088
abbrev CHAIN_ROUTE (n : Nat) : Nat := 0x40040100 + 4 * n
/-- Launch queue block of CHAIN (page 0x40) and ETH (page 0x41), registers `k` = 0 to 7 (R289). -/
abbrev LQ (page k : Nat) : Nat := 0x400000C0 + 0x1000 * page + 4 * k
abbrev ETH_CTRL : Nat := 0x40041040
abbrev ETH_MAC_HI : Nat := 0x40041044
abbrev ETH_MAC_LO : Nat := 0x40041048
abbrev ETH_IP : Nat := 0x4004104C
abbrev ETH_ALLOW_IP : Nat := 0x40041050
abbrev ETH_ALLOW_MASK : Nat := 0x40041054
abbrev ETH_REG_PORT : Nat := 0x40041058
abbrev ETH_STATUS : Nat := 0x4004105C
abbrev ETH_RX_FRAMES : Nat := 0x40041060
abbrev ETH_TX_FRAMES : Nat := 0x40041064
abbrev ETH_REG_REQS : Nat := 0x40041068
abbrev ETH_REG_REPLAYS : Nat := 0x4004106C
abbrev ETH_DROP_FILTER : Nat := 0x40041070
abbrev TIME_CTRL : Nat := 0x40042040
abbrev TIME_NS : Nat := 0x40042044
abbrev TIME_WRAP : Nat := 0x40042048
abbrev TIME_RATE : Nat := 0x4004204C
abbrev TIME_JUMP_LIMIT : Nat := 0x40042050
abbrev TIME_SERVO : Nat := 0x40042054
abbrev TIME_ASYM : Nat := 0x40042058
abbrev TIME_SYNC_PERIOD : Nat := 0x4004205C
abbrev TIME_MPORT : Nat := 0x40042060
abbrev TIME_OFFSET : Nat := 0x40042064
abbrev TIME_DELAY : Nat := 0x40042068
abbrev TIME_STATUS : Nat := 0x4004206C
abbrev TIME_OFS_IN : Nat := 0x40042070
abbrev TIME_STEP_VAL : Nat := 0x40042074
abbrev TIME_CMD : Nat := 0x40042078
abbrev TIME_CMD_STATUS : Nat := 0x4004207C
abbrev TIME_EPOCH_NS : Nat := 0x40042080
abbrev TIME_EPOCH_SEC_LO : Nat := 0x40042084
abbrev TIME_EPOCH_SEC_HI : Nat := 0x40042088
abbrev TIME_EPOCH_WRAP : Nat := 0x4004208C
abbrev TIME_EXCH : Nat := 0x40042090
end Reg

def descLANEQ : List RegDesc :=
  [rRW 0x040 3 1 [(0, 2, 0, 2)], (rRW 0x044 7 0 [(1, 2, 0, 2)]).arr 2 4, rRO 0x04C,
   (rRW 0x100 0x333F 0).arr 4 0x80, (rRW 0x104 0x1FF 0).arr 4 0x80, (rRW 0x108 0x30F0F 0x20400).arr 4 0x80,
   (rRW 0x10C 0x7F 0x76).arr 4 0x80, (rRO 0x110).arr2 4 0x80 3 4, (rCT 0x11C).arr2 4 0x80 2 4,
   (rRO 0x124).arr2 4 0x80 5 4]

def descLANE : List RegDesc :=
  [rRO 0x040, rRO 0x044, rRW 0x048 0x7FF 0x1F4 [(0, 11, 100, 2000)],
   rRW 0x04C 0xF03FF 0x20064 [(0, 10, 10, 1000), (16, 4, 1, 15)], rRO 0x050]

/-- The launch queue block of R289. -/
def descLQ : List RegDesc :=
  [rRW 0x0C0 0x0FFFFFFF 0, rRW 0x0C4 0x01FF0FFF 0, rRW 0x0C8 0xFFFFFFFF 0, rWO 0x0CC, rRO 0x0D0, rRO 0x0D4, rRO 0x0D8,
   rWO 0x0DC]

def descCHAIN : List RegDesc :=
  [rRW 0x040 0x1F3F 0x1F3F, rRW 0x044 0x3FF 0x64 [(0, 10, 10, 1000)], rRW 0x048 0xFFFF 0x3E8 [(0, 16, 20, 65535)],
   (rRW 0x04C 0xFFFFFFFF 0).arr 2 4, (rRO 0x054).arr 2 4, (rRW 0x05C 0xFFFFFFFF 0xFFFFFFFF).arr 2 4,
   rRW 0x064 0xFFFF1FFF 0, rRW 0x068 0xFFFFFFFF 0, (rRO 0x06C).arr 2 4, rRO 0x074, rRO 0x078, rRO 0x07C, rCT 0x080,
   rCT 0x084, rRO 0x088, (rRW 0x100 0x7F 0).arr 64 4] ++ descLQ

def descETH : List RegDesc :=
  [rRW 0x040 0xFF0F 0xA, rRW 0x044 0xFFFF 0, rRW 0x048 0xFFFFFFFF 0, rRW 0x04C 0xFFFFFFFF 0, rRW 0x050 0xFFFFFFFF 0,
   rRW 0x054 0xFFFFFFFF 0, rRW 0x058 0xFFFF 0x4810 [(0, 16, 1, 65535)], rRO 0x05C, rRO 0x060, rRO 0x064, rRO 0x068,
   rRO 0x06C, rCT 0x070] ++ descLQ

def descTIME : List RegDesc :=
  [rRW 0x040 0x7F07 4 [(0, 2, 0, 2)], rRO 0x044, rRO 0x048, rRW 0x04C 0xFFFFFFFF 0,
   rRW 0x050 0xFFFFF 0x3E8 [(0, 20, 10, 1000000)], rRW 0x054 0xFFFF1F1F 0x00140802 [(0, 5, 0, 16), (8, 5, 0, 24), (16, 16, 1, 65535)],
   rRW 0x058 0xFFFF 0, rRW 0x05C 0xFFFFF 0x64 [(0, 20, 10, 1000000)], rRW 0x060 0x7F7F7F7F 0, rRO 0x064, rRO 0x068,
   rRO 0x06C, rWO 0x070, rRW 0x074 0xFFFFFFFF 0, rWO 0x078, rRO 0x07C, rRW 0x080 0x3FFFFFFF 0 [(0, 30, 0, 999999999)],
   rRW 0x084 0xFFFFFFFF 0, rRW 0x088 0x8000FFFF 0, rRW 0x08C 0xFFFFFFFF 0, rRO 0x090]

end Sys2Proof.Machine
end

