-- ==== Sys2Proof/Machine/RegsSvc.lean ====
section
/-! DEFINITION. The registers of TALLY, MBX and SVC (R385, R396, R397). -/
namespace Sys2Proof.Machine

namespace Reg
abbrev TALLY_STATUS : Nat := 0x40070040
abbrev MBX_FULL : Nat := 0x40008040
abbrev MBX_DOORBELL : Nat := 0x40008044
abbrev MBX_ACK : Nat := 0x40008048
abbrev MBX_EMPTIED : Nat := 0x4000804C
abbrev MBX_COLL : Nat := 0x40008050
abbrev MBX_MSGS : Nat := 0x40008054
abbrev MBX_DATA (m w : Nat) : Nat := 0x40008800 + 0x40 * m + 4 * w
abbrev SVC_BOOT : Nat := 0x40009040
abbrev SVC_VERSION : Nat := 0x40009044
abbrev SVC_SEQ : Nat := 0x40009048
abbrev SVC_HB_PERIOD : Nat := 0x4000904C
abbrev SVC_STALE : Nat := 0x40009050
abbrev SVC_CMD : Nat := 0x40009054
abbrev SVC_CMD_STATUS : Nat := 0x40009058
abbrev SVC_CORE_STATE : Nat := 0x4000905C
abbrev SVC_RESTARTS : Nat := 0x40009060
abbrev SVC_HB (i : Nat) : Nat := 0x40009080 + 4 * i
end Reg

/-- TALLY: every register is read-only (R385). -/
def descTALLY : List RegDesc :=
  [rRO 0x040, rRO 0x044 0x544C5920, rRO 0x048 0x312E3030, rRO 0x04C 0x6B2ED417, rRO 0x050 0x00400000, (rRO 0x054).arr 5 4,
   (rRO 0x080).arr 10 4, (rRO 0x0C0).arr 10 4, (rRO 0x100).arr 16 0x30, (rRO 0x108).arr2 16 0x30 10 4]

def descMBX : List RegDesc :=
  [rRO 0x040, rWO 0x044, rWO 0x048, rW1 0x04C 0xFFFFFFFF, rW1 0x050 0xFFFFFFFF, rRO 0x054,
   (rRW 0x800 0xFFFFFFFF 0).arr 512 4]

def descSVC : List RegDesc :=
  [rRO 0x040, rRO 0x044, rRO 0x048, rRW 0x04C 0x1FFFF 0x3E8 [(0, 17, 100, 100000)], rRO 0x050, rWO 0x054, rRO 0x058, rRO 0x05C,
   rRO 0x060, (rRO 0x080).arr 11 4]

end Sys2Proof.Machine
end

