-- ==== Sys2Proof/Machine/RegsSys.lean ====
section
/-! DEFINITION. The page map (R29, R30), the page header (R31) and the registers of SYS, RST, OPT, PACE, FAB, IRQ, GPIO and
DEBUG (R39, R57, R76, R77, R403, R416, R417, R435, R437). -/
namespace Sys2Proof.Machine

/-- Address of an offset of a page (R27). -/
abbrev pg (p off : Nat) : Nat := 0x40000000 + p * 0x1000 + off

namespace Reg
abbrev pageCtrl (p : Nat) : Nat := pg p 0x004
abbrev pageStatus (p : Nat) : Nat := pg p 0x008
abbrev evtStatus (p : Nat) : Nat := pg p 0x00C
abbrev evtEnable (p : Nat) : Nat := pg p 0x010
abbrev evtRoute (p : Nat) : Nat := pg p 0x014
abbrev errCount (p k : Nat) : Nat := pg p (0x018 + 4 * k)
abbrev shadowCtrl (p : Nat) : Nat := pg p 0x028
abbrev pageLock (p : Nat) : Nat := pg p 0x02C
abbrev SYS_ID : Nat := 0x40000040
abbrev SYS_UPTIME_LO : Nat := 0x40000048
abbrev SYS_UPTIME_HI : Nat := 0x4000004C
abbrev SYS_RESET_CAUSE : Nat := 0x40000050
abbrev SYS_RESETS : Nat := 0x40000054
abbrev SYS_STRAPS : Nat := 0x40000058
abbrev RST_BUSY : Nat := 0x40001040
abbrev RST_LAST : Nat := 0x40001044
abbrev RST_LAST_TIME : Nat := 0x40001048
abbrev RST_BLK_RESETS : Nat := 0x4000104C
abbrev RST_BEAT_NS : Nat := 0x40001050
abbrev RST_QUIESCE_TIMEOUT (p : Nat) : Nat := 0x40001200 + 4 * p
abbrev OPT_STATUS : Nat := 0x40002040
abbrev OPT_CHECK : Nat := 0x40002044
abbrev OPT_CALC : Nat := 0x40002048
abbrev OPT_SERIAL_HI : Nat := 0x4000204C
abbrev OPT_SERIAL_LO : Nat := 0x40002050
abbrev OPT_KEY_HASH (w : Nat) : Nat := 0x40002060 + 4 * w
abbrev OPT_BLOCK (w : Nat) : Nat := 0x40002080 + 4 * w
abbrev PACE_CTRL : Nat := 0x40003040
abbrev PACE_SETPOINT : Nat := 0x40003044
abbrev PACE_RAMP_STATUS : Nat := 0x40003048
abbrev PACE_VOUT : Nat := 0x4000304C
abbrev PACE_VMIN : Nat := 0x40003050
abbrev PACE_TEMP : Nat := 0x40003054
abbrev PACE_LOAD : Nat := 0x40003058
abbrev PACE_WINDOW : Nat := 0x4000305C
abbrev PACE_THRESH : Nat := 0x40003060
abbrev PACE_STEP : Nat := 0x40003064
abbrev PACE_GUAR : Nat := 0x40003068
abbrev PACE_LAPSE_TIME : Nat := 0x4000306C
abbrev PACE_PMB_STATUS : Nat := 0x40003070
abbrev PACE_LAPSE_LINES : Nat := 0x40003074
abbrev PACE_SLACK (k : Nat) : Nat := 0x40003080 + 4 * k
abbrev PACE_TABLE (i : Nat) : Nat := 0x40003100 + 4 * i
abbrev FAB_AGE_LIMIT : Nat := 0x40004040
abbrev FAB_C0_LAT_MAX : Nat := 0x40004044
abbrev FAB_BEAD_PS : Nat := 0x40004048
abbrev FAB_PROMO (c : Nat) : Nat := 0x40004050 + 4 * (c - 1)
abbrev IRQ_PIN_PEND (n w : Nat) : Nat := 0x40005040 + 0x10 * n + 4 * w
abbrev IRQ_PIN_CTRL : Nat := 0x40005080
abbrev GPIO_IN : Nat := 0x4007E040
abbrev GPIO_OUT : Nat := 0x4007E044
abbrev GPIO_DIR : Nat := 0x4007E048
abbrev GPIO_SET : Nat := 0x4007E04C
abbrev GPIO_CLR : Nat := 0x4007E050
abbrev GPIO_RISE : Nat := 0x4007E054
abbrev GPIO_FALL : Nat := 0x4007E058
abbrev GPIO_EDGE : Nat := 0x4007E05C
abbrev GPIO_DEB : Nat := 0x4007E060
abbrev GPIO_USE : Nat := 0x4007E064
abbrev DEBUG_UART_CTRL : Nat := 0x4007F040
abbrev DEBUG_UART_STATUS : Nat := 0x4007F044
abbrev DEBUG_UART_TX : Nat := 0x4007F048
abbrev DEBUG_UART_RX : Nat := 0x4007F04C
abbrev DEBUG_TRACE_CTRL : Nat := 0x4007F050
abbrev DEBUG_TRACE_BASE : Nat := 0x4007F054
abbrev DEBUG_TRACE_SIZE : Nat := 0x4007F058
abbrev DEBUG_TRACE_WPTR : Nat := 0x4007F05C
abbrev DEBUG_TRACE_RPTR : Nat := 0x4007F060
abbrev DEBUG_TRACE_LOST : Nat := 0x4007F064
end Reg

/-- The pages of the page map (R29). -/
def pages : List Nat :=
  [0x00, 0x01, 0x02, 0x03, 0x04, 0x05, 0x08, 0x09, 0x10, 0x11, 0x14, 0x15, 0x16, 0x17, 0x18, 0x19, 0x1C, 0x20, 0x21, 0x22,
   0x23, 0x24, 0x25, 0x28, 0x30, 0x31, 0x32, 0x33, 0x34, 0x35, 0x36, 0x37, 0x38, 0x39, 0x3A, 0x3B, 0x3C, 0x40, 0x41, 0x42,
   0x48, 0x49, 0x4A, 0x50, 0x58, 0x59, 0x60, 0x68, 0x70, 0x7E, 0x7F]

/-- The reset domain of a page (R29); a page that is not listed counts to D2, whose release makes pages reachable. -/
def domainOf (p : Nat) : Nat :=
  if p = 0x02 then 1
  else if p = 0x08 ∨ p = 0x09 ∨ p = 0x50 then 4
  else if 0x10 ≤ p ∧ p ≤ 0x1C then 6
  else if 0x20 ≤ p ∧ p ≤ 0x28 then 7
  else if 0x30 ≤ p ∧ p ≤ 0x41 then 5
  else if p = 0x68 then 5
  else if 0x48 ≤ p ∧ p ≤ 0x4A then 3
  else if 0x58 ≤ p ∧ p ≤ 0x60 then 8
  else if p = 0x70 then 0
  else 2

/-- Pages whose ENABLE resets to 1 (R30). -/
def enabledAtReset : List Nat := [0x00, 0x01, 0x02, 0x03, 0x04, 0x05, 0x08, 0x09, 0x42, 0x48, 0x49, 0x4A, 0x50, 0x70, 0x7E, 0x7F]

/-- PAGE_ID (R30). -/
def pageId (p : Nat) : Nat :=
  let inst := if 0x20 ≤ p ∧ p ≤ 0x23 then p - 0x20 else if 0x30 ≤ p ∧ p ≤ 0x3B then p - 0x30 else 0
  (p - inst) * 65536 + inst * 256 + 1

/-- Reset value of a header word (R31). -/
def headerReset (p off : Nat) : Nat :=
  if off = 0x000 then pageId p
  else if off = 0x004 then (if p ∈ enabledAtReset then 1 else 0)
  else if off = 0x008 then 1
  else if off = 0x014 then (if p = 0x70 then 0 else 0x10)
  else 0

/-- The pages a block reset can name (R414), so that RST_QUIESCE_TIMEOUT holds a value. -/
def hasBlockReset (p : Nat) : Bool :=
  p ∈ pages && !(p ∈ [0x00, 0x01, 0x02, 0x03, 0x04, 0x05, 0x09, 0x42, 0x70])

/-- Pages reset together with a page (R414). -/
def blkGroup (p : Nat) : List Nat :=
  if p = 0x18 ∨ p = 0x19 then [0x18, 0x19]
  else if 0x48 ≤ p ∧ p ≤ 0x4A then [0x48, 0x49, 0x4A]
  else if p = 0x3C then (List.range 13).map (0x30 + ·)
  else if p = 0x58 ∨ p = 0x59 then [0x58, 0x59]
  else [p]

def descSYS : List RegDesc := [rRO 0x040 0x48100001, rRO 0x048, rRO 0x04C, rRO 0x050, rRO 0x054, rRO 0x058]

def descRST : List RegDesc :=
  [rRO 0x040, rRO 0x044, rRO 0x048, rRO 0x04C, rRO 0x050] ++
  ((List.range 128).filter hasBlockReset).map fun p => rRW (0x200 + 4 * p) 0xFFFF 0x3E8 [(0, 16, 1, 65535)]

def descOPT : List RegDesc :=
  [rRO 0x040, rRO 0x044, rRO 0x048, rRO 0x04C, rRO 0x050, (rRO 0x060).arr 8 4, (rRO 0x080).arr 64 4]

/-- The factory pace table (R66), in mV, by index. -/
def paceFactory : List Nat :=
  [650, 720, 760, 650, 720, 760, 690, 740, 780, 720, 760, 800, 650, 720, 760, 680, 740, 780, 730, 770, 810, 770, 800, 840]

def descPACE : List RegDesc :=
  [rRW 0x040 0x00FF7F07 0x00050002 [(16, 8, 0, 15)], rRW 0x044 0xFFF 0x352 [(0, 12, 650, 950)], rRO 0x048, rRO 0x04C,
   rRO 0x050 770, rRO 0x054, rRW 0x058 7 7, rRW 0x05C 0xFFFF 0x1000 [(0, 16, 256, 65535)],
   rRW 0x060 0x00FFFFFF 0x00046020 [(16, 8, 1, 255)],
   rRW 0x064 0xFFFFFF3F 0x00320F0A [(0, 6, 1, 25), (8, 8, 10, 50), (16, 16, 10, 1000)],
   rRO 0x068, rRO 0x06C, rRO 0x070, rRO 0x074, (rRO 0x080).arr 4 4] ++
  (List.range 24).map fun i => rRW (0x100 + 4 * i) 0xFFF ((paceFactory[i]?).getD 0)

def descFAB : List RegDesc :=
  [rRW 0x040 0x00FFFFFF 0x00804010 [(0, 8, 1, 255), (8, 8, 1, 255), (16, 8, 1, 255)], rRC 0x044, rRO 0x048,
   (rRO 0x050).arr 3 4]

def descIRQ : List RegDesc := [(rRO 0x040).arr2 4 0x10 4 4, rRW 0x080 0xFF 0]

def descGPIO : List RegDesc :=
  [rRO 0x040, rRW 0x044 0xFFFF 0, rRW 0x048 0xFFFF 0, rWO 0x04C, rWO 0x050, rRW 0x054 0xFFFF 0, rRW 0x058 0xFFFF 0,
   rW1 0x05C 0xFFFF, rRW 0x060 0xFF 0, rRO 0x064]

def descDEBUG : List RegDesc :=
  [rRW 0x040 0x00FFFF01 0x00036300 [(8, 16, 99, 65535)], rRO 0x044, rWO 0x048, rRC 0x04C, rRW 0x050 0xFF07 0,
   rRW 0x054 0x3FFFF 0, rRW 0x058 0xFFFF 1 [(0, 16, 1, 65535)], rRO 0x05C, rRW 0x060 0xFFFFFFFF 0, rCT 0x064]

end Sys2Proof.Machine
end

