-- ==== Sys2Proof/Machine/RegsAll.lean ====
section
/-! DEFINITION. Every register of every page by address, and the reset value of every register and table word (R9, R27, R31). -/
namespace Sys2Proof.Machine

/-- The registers of a page beyond its header. -/
def pageDescs (p : Nat) : List RegDesc :=
  match p with
  | 0x00 => descSYS | 0x01 => descRST | 0x02 => descOPT | 0x03 => descPACE | 0x04 => descFAB | 0x05 => descIRQ
  | 0x08 => descMBX | 0x09 => descSVC | 0x10 => descINTAKE | 0x11 => descINFL | 0x14 => descMAP | 0x15 => descSCREEN
  | 0x16 => descDELAY | 0x17 => descFIRE | 0x18 => descHLINK | 0x19 => descHEADS | 0x1C => descWEB
  | 0x20 => descCAM | 0x21 => descCAM | 0x22 => descCAM | 0x23 => descCAM
  | 0x24 => descISP | 0x25 => descINSPECT | 0x28 => descTRAV
  | 0x30 => descLANEQ | 0x31 => descLANEQ | 0x32 => descLANEQ | 0x33 => descLANEQ | 0x34 => descLANEQ | 0x35 => descLANEQ
  | 0x36 => descLANEQ | 0x37 => descLANEQ | 0x38 => descLANEQ | 0x39 => descLANEQ | 0x3A => descLANEQ | 0x3B => descLANEQ
  | 0x3C => descLANE | 0x40 => descCHAIN | 0x41 => descETH | 0x42 => descTIME
  | 0x48 => descDRAM | 0x49 => descDRAMTRN | 0x4A => descDRAMQOS | 0x50 => descDEFL
  | 0x58 => descLOOP | 0x59 => descLOOPCAP | 0x60 => descMOTION | 0x68 => descPAIR | 0x70 => descTALLY
  | 0x7E => descGPIO | 0x7F => descDEBUG
  | _ => []

/-- The header registers (R31). -/
def descHeader (p : Nat) : List RegDesc :=
  [rRO 0x000 (headerReset p 0), rRW 0x004 3 (headerReset p 4), rRO 0x008 (headerReset p 8), rW1 0x00C 0xFFFFFF7F,
   rRW 0x010 0xFFFFFF7F 0, rRW 0x014 0x3F3F (headerReset p 0x14), rCT 0x018, rCT 0x01C, rCT 0x020, rCT 0x024,
   rRW 0x028 1 0, rRW 0x02C 0 0]

/-- The register at an address of the register pages. -/
def descOf (a : Nat) : Option RegDesc :=
  let p := (a - 0x40000000) / 0x1000
  let o := (a - 0x40000000) % 0x1000
  if a < 0x40000000 ∨ 128 ≤ p ∨ !(p ∈ pages) then none
  else if o < 0x040 then (descHeader p).find? fun d => d.covers o
  else (pageDescs p).find? fun d => d.covers o

/-- What a register or table word holds after the release of its domain (R9). -/
def resetWord (a : Nat) : Word :=
  if a < 0x40100000 then
    match descOf a with
    | some d => BitVec.ofNat 32 d.reset
    | none => 0
  else if 0x51000000 ≤ a ∧ a < 0x51100000 then (if a % 0x80000 < 0x60000 then 0x0FFF0FFF else 0)
  else if 0x51100000 ≤ a ∧ a < 0x51110000 then (if a % 0x8000 < 0x2000 then BitVec.ofNat 32 (a / 4 % 4) else 0)
  else if 0x51300000 ≤ a ∧ a < 0x51340000 then BitVec.ofNat 32 (camTableReset (a % 0x8000))
  else 0

end Sys2Proof.Machine
end

