-- ==== Sys2Proof/Machine/State.lean ====
section
/-! DEFINITION. The state of the bar chip: the words of its registers and tables, what it holds behind them, its DRAM and boot
flash, the queue of waiting commands, and the state after reset. -/
namespace Sys2Proof.Machine

/-- Why a step stops with a fault: no command of this block does, so the type has no constructor.
Every illegal access, lost frame or bad parameter has an effect of its own in the spec (a status code, an event, a counter). -/
inductive Fault where
  deriving DecidableEq, Repr

/-- Why a command is refused. -/
inductive Refusal where
  /-- Raised only by an arm of `exec` whose command has no meaning yet (safe: the run stops). -/
  | notModelled (mnemonic : String)
  deriving DecidableEq, Repr

/-- One thing the chip drives towards a partner (the model's own record, newest first in `State.sent`). -/
inductive Out where
  /-- Bytes the quad-SPI target drives after its wait bytes (R53). -/
  | qspi (bytes : List Byte)
  /-- A frame sent on Chain port `port`: what each of its lanes carries between K27.7 and K29.7 (R270, R271). -/
  | chain (port : Nat) (lanes : List (List Byte))
  /-- An Ethernet frame sent (R278). -/
  | eth (frame : List Byte)
  /-- A Head Link line or command frame sent to head `h` (R167, R171). -/
  | head (h : Nat) (frame : List Byte)
  /-- A keepalive ordered set to head `h`: claim, sequence, CRC-8 (R164). -/
  | keepalive (h claim seq crc : Nat)
  /-- A trigger pair's edge: head, level, and the 250 ps tap of the present ns at which it leaves (R145, R282). -/
  | trig (h : Nat) (level : Bool) (tap : Nat)
  /-- A UDP datagram: destination MAC, IP and port, payload, UDP checksum (R279). -/
  | udp (mac ip port : Nat) (payload : List Byte) (sum : Nat)
  /-- One transmitted bit inverted on lane `l` (R265). -/
  | bitFlip (l : Nat)
  /-- A mode register write: channel, rank, mode register, data (R308). -/
  | mrw (ch rank mr data : Nat)
  /-- A PMBus transaction: command code, data word, write or read (R70). -/
  | pmbus (cmd data : Nat) (write pec : Bool)
  /-- A CCI transaction of a camera port (R213). -/
  | cci (port : Nat) (bytes : List Byte)
  /-- A Tally UART reply (R382). -/
  | tally (bytes : List Byte)
  /-- A compare output's level (R205). -/
  | cmp (o : Nat) (level : Bool)
  /-- A step pulse: axis, direction forward (R346). -/
  | stepPulse (axis : Nat) (fwd : Bool)
  /-- A word written on a sense SPI port: port, select, data (R331, R333). -/
  | lspi (port cs data : Nat)
  /-- A byte on DBG_TX (R438). -/
  | dbg (b : Byte)
  /-- A message the service firmware answers in a mailbox or a head command it issues (R393). -/
  | svc (what : Nat) (bytes : List Byte)
  deriving DecidableEq, Repr, Inhabited

/-- The access state of one path (R42, R51). -/
structure PathSt where
  /-- Access status of the last access (R51). -/
  status : Nat
  /-- Words the last read returned. -/
  data : List Word
  /-- Upper parts latched by low-word reads, by the low word's address (R42). -/
  latch : List (Nat × Option Word)
  /-- The last upper part latched on each page (R42). -/
  pageLatch : List (Nat × Word)
  /-- Register snapshots a latching read took, by register address (R199, R230, R283, R343, R385). -/
  snap : List (Nat × Word)
  deriving DecidableEq, Repr, Inhabited

/-- The quad-SPI target (R53 to R56). -/
structure QspiSt where
  /-- Status of the last WRITE. -/
  status : Nat
  /-- Write sequence byte. -/
  seq : Nat
  deriving DecidableEq, Repr, Inhabited

/-- One pending or running block reset (R414, R415). -/
structure BlkReset where
  /-- Lowest page of the group. -/
  group : Nat
  /-- Page the request was written to. -/
  page : Nat
  /-- Instant of the request, ns. -/
  at_ : Nat
  /-- The quiesce timeout passed (R414). -/
  forced : Bool
  /-- Instant the 16-beat hold began, ns; none while the group is quiescing. -/
  held : Option Nat
  deriving DecidableEq, Repr, Inhabited

/-- The option block and OTP values in force (R406 to R409, R417). -/
structure OptSt where
  valid : Bool
  defaulted : Bool
  otpValid : Bool
  fail : Nat
  check : Nat
  calcCrc : Nat
  /-- The 256 bytes in force. -/
  block : List Byte
  /-- Pace table entries as loaded from OTP, 24 of them (R67, R409). -/
  pace : List Nat
  /-- KEY_HASH as taken (R409). -/
  keyHash : List Byte
  /-- The OTP MAC as taken (R409). -/
  mac : List Byte
  deriving DecidableEq, Repr, Inhabited

/-- The OTP factory block as burnt (R409). -/
structure OtpSt where
  serial : List Byte
  mac : List Byte
  keyHash : List Byte
  pace : List Nat
  deriving DecidableEq, Repr, Inhabited

/-- The reset controller and the record it keeps in D0 (R400 to R411). -/
structure ChipSt where
  /-- Highest domain released, 0 to 8 (D1 to D8 are released in order, R404). -/
  rel : Nat
  /-- POR is asserted (R401). -/
  por : Bool
  /-- RESET_N holds the chip in reset (R402). -/
  rstLow : Bool
  /-- The island POR holds D0 (R401). -/
  island : Bool
  /-- Instant of the event the next gap is counted from, ns (R404). -/
  since : Nat
  /-- OPT_STATUS.LOADING (R406). -/
  loading : Bool
  /-- Instant of the loader's verdict (R410). -/
  verdictAt : Option Nat
  cause : Nat
  cold : Bool
  optCut : Bool
  resets : Nat
  /-- PAIR_RANK pins as sampled at D5 release (R411). -/
  straps : Nat
  opt : OptSt
  otp : OtpSt
  /-- Pending block resets (R415). -/
  pend : List BlkReset
  /-- The block reset in progress. -/
  run : Option BlkReset
  /-- Pages whose pad hold has been released (R413). -/
  padFree : List Nat
  /-- Instant of D2 release, from which SYS_UPTIME counts (R57). -/
  upSince : Nat
  /-- SYS_UPTIME wraps already reported. -/
  upWraps : Nat
  /-- When POR last released, ns (R403). -/
  porAt : Option Nat
  deriving DecidableEq, Repr, Inhabited

/-- A PMBus set-point ramp in progress (R70). -/
structure RampSt where
  target : Nat
  /-- The voltage the last step commanded, mV. -/
  cmd : Nat
  /-- Instant the last VOUT_COMMAND was sent, ns. -/
  sentAt : Nat
  deriving DecidableEq, Repr, Inhabited

/-- PACE's own state behind its registers (R65 to R74). -/
structure PaceSt where
  /-- VCORE at the balls as the comparator sees it, mV. -/
  vcore : Nat
  /-- mV the regulator last accepted (R70). -/
  last : Nat
  /-- Temperature column PACE_VMIN stands in, 0 to 2 (R67). -/
  col : Nat
  ramp : Option RampSt
  /-- Least slack of each pipeline in the open window, 1/256 line period (R65). -/
  slack : List Int
  /-- The last window was slow and the set-point has not been raised for it (R68). -/
  slow : Bool
  /-- Windows in a row with every slack above LOWER (R68). -/
  goodWins : Nat
  /-- Fired lines in the open window (R65). -/
  lines : Nat
  /-- LINEAR16 exponent as read from VOUT_MODE, five bits, signed (R70). -/
  expo : Int
  /-- After a lapse: instant GUAR_OK rose and L in ns (R74). -/
  rose : Option (Nat × Nat)
  /-- GUAR_OK has fallen and no GUARBACK has followed (R74). -/
  lapsed : Bool
  deriving DecidableEq, Repr, Inhabited

/-- PAIR behind its registers (R356 to R370). -/
structure PairSt where
  /-- 0 DETACHED, 1 ACTIVE, 2 STANDBY. -/
  role : Nat
  aligned : Bool
  peerAlive : Bool
  /-- Instant of the last PAIR_ALIVE_IN edge. -/
  edgeAt : Option Nat
  /-- Instant PEER_ALIVE rose. -/
  aliveSince : Nat
  yielding : Bool
  takeArmed : Bool
  lastUnaligned : Bool
  /-- PAIR_ALIVE_OUT level and its last toggle. -/
  out : Bool
  outAt : Nat
  mirrorOk : Bool
  mirrorAt : Nat
  /-- The peer's last MIRROR showed ACTIVE. -/
  peerActive : Bool
  mseq : Nat
  sentAt : Nat
  /-- FLAGS of the last MIRROR sent. -/
  sentFlags : Nat
  /-- Ticks committed since the last MIRROR. -/
  ticks : Nat
  /-- Records waiting to be sent, oldest first. -/
  recs : List (List Byte)
  /-- A JOIN waits for the next MIRROR with FIRE_RUN. -/
  joining : Bool
  /-- Ticks committed since the join, while not yet aligned. -/
  joined : Option Nat
  /-- A check has passed since the join, or since the page start after a fall, and none has failed since. -/
  checksOk : Bool
  /-- ALIGNED has fallen and waits for the next page start. -/
  held : Bool
  /-- A band of the current page has been blanked here. -/
  blanked : Bool
  /-- ERR_COUNT3 has counted the last takeover. -/
  gapCounted : Bool
  /-- Serials counted in PAIR_GAP_LINES since the last takeover (R367). -/
  gap : List Nat
  /-- The intake cursor at the latest committed ticks: serial, job, page, line (R363). -/
  cursors : List (Nat × Nat × Nat × Nat)
  deriving DecidableEq, Repr, Inhabited

/-- A PAGE descriptor (R79). -/
structure Desc where
  mode : Nat
  job : Nat
  page : Nat
  startPos : Nat
  length : Nat
  bands : Nat
  sep : Nat
  width : Nat
  cueOfs : Int
  deriving DecidableEq, Repr, Inhabited

/-- A band header as accepted (R84). -/
structure BandHdr where
  lines : Nat
  stored : Bool
  blank : Bool
  firstLine : Nat
  width : Nat
  stripPx : Nat
  strips : Nat
  compLen : Nat
  compCrc : Nat
  uncCrc : Nat
  stripLen : List Nat
  deriving DecidableEq, Repr, Inhabited

/-- Where a band stands (R91 to R98). -/
inductive BandState where
  | absent | receiving | stored | inflating | verified
  /-- Its due position has been reached and the rods map it. -/
  | mapping
  /-- Its due position has been reached: blanked, or every line mapped. -/
  | past
  deriving DecidableEq, Repr, Inhabited

/-- One band of a page (R84 to R98). -/
structure Band where
  no : Nat
  st : BandState
  /-- A segment has been handled under cases 4 to 7 of R91. -/
  begun : Bool
  /-- A record has been posted since the last OFFSET 0 segment, or ever when none has arrived. -/
  recorded : Bool
  /-- Header bytes held on chip while they arrive (R90). -/
  hdrBytes : List Byte
  /-- The next expected byte of the stream. -/
  next : Nat
  /-- CRC-32C register over the strip bytes so far. -/
  crc : Nat
  hdr : Option BandHdr
  /-- Store slot held (R90). -/
  slot : Option Nat
  /-- First line and lines, once its due position has fixed them (R98). -/
  extent : Option (Nat × Nat)
  /-- The band is blanked: its lines go to the ring as zero lines (R98). -/
  zero : Bool
  deriving DecidableEq, Repr, Inhabited

/-- States of a page in the sequencer (Page states). -/
inductive PageState where
  | armed | printing | done
  deriving DecidableEq, Repr, Inhabited

/-- A page in the sequencer (R81 to R83). -/
structure Page where
  d : Desc
  st : PageState
  /-- Start position in 1/`den` counts modulo 2³² counts, once fixed (R81). -/
  start : Option Nat
  /-- FIRE_PITCH_DEN at arming. -/
  den : Nat
  eligible : Bool
  /-- SEPARATION differed at the page boundary (R445). -/
  sepBad : Bool
  /-- The next band to fall due. -/
  nextBand : Nat
  /-- The next line to be mapped. -/
  nextLine : Nat
  /-- Line serial of line 0 and its grid tick, once the page boundary has fixed them (R132). -/
  serial0 : Option Nat
  bands : List Band
  deriving DecidableEq, Repr, Inhabited

/-- The last page armed for a job, kept for FOLLOW (R81). -/
structure LastArm where
  job : Nat
  /-- Start position, in 1/`den` counts. -/
  start : Nat
  den : Nat
  length : Nat
  deriving DecidableEq, Repr, Inhabited

/-- A failure record (R102). -/
structure FailRec where
  job : Nat
  page : Nat
  band : Nat
  first : Nat
  lines : Nat
  reason : Nat
  blanked : Bool
  strip : Nat
  time : Nat
  deriving DecidableEq, Repr, Inhabited

/-- INTAKE behind its registers. -/
structure IntakeSt where
  /-- Queued descriptors with the bands that have arrived for them (R80). -/
  queue : List (Desc × List Band)
  /-- The four sequencer slots, print order. -/
  seq : List Page
  last : List LastArm
  /-- Job, page, last line and DONE of the page that most recently entered PRINTING (R444). -/
  current : Option (Nat × Nat × Nat × Bool)
  fails : List FailRec
  /-- Jobs an END_JOB descriptor has closed. -/
  ended : List Nat
  /-- JOB payloads (true) and BAND segments (false) that arrived while QUIESCE_REQ is 1, oldest first (R442). -/
  hold : List (Bool × List Byte)
  /-- The job service has written a heavier PACE_LOAD and waits for its ramp (R69). -/
  loadWait : Bool
  deriving DecidableEq, Repr, Inhabited

/-- One inflate engine (R94, R95, R105). -/
structure Engine where
  st : Nat
  strip : Nat
  band : Option (Nat × Nat × Nat)
  since : Nat
  deriving DecidableEq, Repr, Inhabited

/-- A staging slot: its band, its strips, and the lines of a verified band with their line CRCs (R93, R96). -/
structure Staging where
  job : Nat
  page : Nat
  band : Nat
  /-- Instant of dispatch, ns. -/
  since : Nat
  /-- INFL_ENGINE_MASK at dispatch: the band keeps its engines (R105). -/
  mask : Nat
  /-- Next strip to hand to an engine. -/
  nextStrip : Nat
  /-- Finished strips: number, output, bytes read. -/
  outs : List (Nat × List Byte × List Byte)
  /-- Lines of the band once verified, and their CRC-32C. -/
  lines : List (List Byte)
  crcs : List Nat
  deriving DecidableEq, Repr, Inhabited

/-- INFL behind its registers. -/
structure InflSt where
  engines : List (Nat × Engine)
  staging : List (Option Staging)
  deriving DecidableEq, Repr, Inhabited

/-- MAP and SCREEN behind their registers and windows (R117 to R127). -/
structure MapSt where
  /-- Source window bases recorded with bank 0 and bank 1, by rod (R117). -/
  win0 : List (Nat × Option Nat)
  win1 : List (Nat × Option Nat)
  /-- Live and staged trim words by nozzle (R121). -/
  trimLive : List (Nat × Word)
  trimStaged : List (Nat × Word)
  /-- Staged words as they stood before the writes of the instant `heldAt`, which a boundary at that instant takes (R121). -/
  held : List (Nat × Word)
  heldAt : Nat
  /-- Opcode of the MAP_CMD in progress. -/
  op : Nat
  /-- Table words (window addresses), live trims (2^32 + nozzle) and staged trims (2^33 + nozzle) with an uncorrectable error (R127). -/
  bad : List Nat
  deriving DecidableEq, Repr, Inhabited

/-- The on-chip tag of a ring slot (R137). -/
structure Tag where
  /-- LINE_SERIAL of the slot's line, counted without wrap. -/
  serial : Nat
  zero : Bool
  part : Bool
  /-- The line's inspection read has been made (R185). -/
  inspected : Bool
  /-- Live map bank and COMMIT_SEQ when the line was mapped (R222). -/
  map : Word
  deriving DecidableEq, Repr, Inhabited

/-- DELAY behind its registers: the slot tags (R137), and the slots whose tag is uncorrectable (R159). -/
structure DelaySt where
  tags : List (Nat × Option Tag)
  bad : List Nat
  deriving DecidableEq, Repr, Inhabited

/-- A class 0 row read (R138, R141). -/
structure RowRead where
  tick : Nat
  h : Nat
  r : Nat
  /-- Line serial read, counted without wrap; `none` for a serial before the first. -/
  line : Option Nat
  /-- The row's levels once the read has returned. -/
  levels : Option (List Nat)
  /-- The read met an uncorrectable error (R140). -/
  bad : Bool
  deriving DecidableEq, Repr, Inhabited

/-- One head's part in a tick (R142). -/
structure HeadTick where
  h : Nat
  /-- The frame has been sent; otherwise the row reads are still pending. -/
  sent : Bool
  seq : Nat
  levels : List Nat
  /-- Committed trigger instant in 250 ps on TIME (R144). -/
  trig : Option Nat
  deriving DecidableEq, Repr, Inhabited

/-- A tick between its row reads and the last of its trigger edges (R141 to R145). -/
structure Tick where
  serial : Nat
  /-- Position in 1/DEN counts modulo 2³² counts (R131). -/
  pos : Nat
  /-- 0 row reads issued, 1 decided, 2 committed. -/
  st : Nat
  /-- Decided in INHIBIT, or its frames have been flushed: counted UNFIRED at its commit (R153). -/
  unfired : Bool
  heads : List HeadTick
  deriving DecidableEq, Repr, Inhabited

/-- A piece of the fire grid (R131, R132): first serial, its position in 1/`den` counts, and the pitch. -/
structure GridSeg where
  first : Nat
  pos : Nat
  den : Nat
  num : Nat
  deriving DecidableEq, Repr, Inhabited

/-- One head's tap chain (R147). -/
structure TapSt where
  mPrev : Nat
  set1 : Nat
  set2 : Nat
  set3 : Nat
  fails : Nat
  measured : Bool
  deriving DecidableEq, Repr, Inhabited

/-- FIRE behind its registers (R130 to R160). Serials are counted without wrap. -/
structure FireSt where
  /-- 0 DISABLED, 1 READY, 2 RUN, 3 INHIBIT. -/
  st : Nat
  latch : Bool
  pinLow : Bool
  /-- The position was invalid when FIRE last looked (R155). -/
  posInv : Bool
  anchored : Bool
  /-- Grid pieces, newest first. -/
  segs : List GridSeg
  nextRead : Nat
  nextDec : Nat
  /-- The next serial to commit. -/
  nextCom : Nat
  ticks : List Tick
  reads : List RowRead
  bench : Nat
  /-- LINE_SERIAL of the last tick committed, and its TIME. -/
  lastCom : Option (Nat × Nat)
  /-- Last scheduled instant in 250 ps (R151). -/
  lastSched : Option Int
  /-- Last committed trigger per head in 250 ps (R144). -/
  lastTrig : List (Nat × Option Nat)
  /-- Per head, the last four ticks decided: which nozzles fired (R143). -/
  hist : List (List (List Bool))
  /-- Serial of the last page line DELAY has assigned (R132). -/
  lastLine : Option Nat
  /-- Ticks and heads whose frames carried SUB_VALID (R235). -/
  subTicks : List (Nat × Nat)
  /-- Per head: the instant its trigger pair went active, in 250 ps of TIME, while active (R145). -/
  trigOn : List (Nat × Option Nat)
  taps : List (Nat × TapSt)
  /-- FIRE_PITCH_DEN as held for the next FIRE_PITCH_NUM, and whether it was written in RUN or INHIBIT (R130). -/
  denHeld : Option (Nat × Bool)
  deriving DecidableEq, Repr, Inhabited

/-- Who issued a head command, in the order of R187. -/
inductive CmdSrc where
  | flush | sub | heater | hcmd | mgmt
  deriving DecidableEq, Repr, Inhabited

/-- A head command waiting or sent (R171, R172). -/
structure HCmd where
  src : CmdSrc
  op : Nat
  params : List Byte
  deriving DecidableEq, Repr, Inhabited

/-- A command sent and not yet answered (R172). -/
structure HCmdRun where
  cmd : HCmd
  seq : Nat
  resends : Nat
  sentAt : Nat
  deriving DecidableEq, Repr, Inhabited

/-- HLINK's view of one head (R183 to R187). -/
structure HeadSt where
  /-- Number of the next trigger edge (R183). -/
  nextEdge : Nat
  /-- NEXT_SEQ of the last FLUSH sent. -/
  flushSeq : Nat
  /-- The last edges left: number and tick serial. -/
  edges : List (Nat × Nat)
  /-- Instant of the last valid telemetry, ns. -/
  telAt : Option Nat
  /-- Telemetry frames valid in a row (R186). -/
  telRun : Nat
  /-- HEAD_STATE, PORT_INFO, ACCEPTED_CLAIM, EDGE_SEQ, LAST_FIRED, CRC_FAILS, MISSED of the last valid telemetry. -/
  hstate : Nat
  port : Nat
  claim : Nat
  edgeSeq : Nat
  lastFired : Nat
  crcFails : Nat
  missed : Nat
  /-- HEATER_DUTY. -/
  duty : Nat
  ready : Bool
  shadow : Bool
  /-- HEADS_HOLD as it is in effect (R190). -/
  hold : Bool
  /-- Instant the rejoin in progress sent its FLUSH. -/
  rejoinAt : Option Nat
  cmdSeq : Nat
  queue : List HCmd
  run : Option HCmdRun
  frameNo : Nat
  kaSeq : Nat
  kaAt : Option Nat
  /-- TIME at which the lane is free of line frames, ps. -/
  laneFree : Nat
  /-- TIME at which the last command frame has sent its K29.7, ps. -/
  cmdFree : Nat
  /-- HOLD has been in effect, and no rejoin has been started since (R190). -/
  held : Bool
  /-- LAST_FIRED of the last telemetry with ACCEPTED 0, and the first tick fired from this port after a takeover (R367). -/
  gapFrom : Option Nat
  gapWait : Bool
  deriving DecidableEq, Repr, Inhabited

/-- One encoder and its speed estimator (R191 to R198). -/
structure EncSt where
  /-- Accepted levels of A and B. -/
  a : Bool
  b : Bool
  /-- Instants at which A, B and the index line last took a new level, ns (R191). -/
  aAt : Option Nat
  bAt : Option Nat
  iAt : Option Nat
  cnt : Nat
  /-- Direction: 1 forward, -1 backward, 0 before the first transition. -/
  dir : Int
  ext : Nat
  resync : Bool
  run : Nat
  /-- Times of the last accepted edges that count towards the speed, newest first. -/
  times : List Nat
  tCount : Nat
  valid : Bool
  /-- t_e of the estimator (R198). -/
  te : Nat
  /-- TIME of the last accepted transition. -/
  edgeT : Nat
  /-- The last accepted transition was forward. -/
  lastFwd : Bool
  seen : Bool
  still : Bool
  armed : Bool
  faulty : Bool
  /-- Times of the illegal transitions within the window, newest first. -/
  ills : List Nat
  deriving DecidableEq, Repr, Inhabited

/-- The stake receiver (R200 to R202). -/
structure StakeSt where
  xe : Nat
  te : Int
  tCount : Nat
  fwd : Bool
  spd : Bool
  /-- Last accepted SEQ; `none` after STAKE_RX_EN is set. -/
  seq : Option Nat
  /-- Instant of the last accepted word, ns. -/
  at_ : Option Nat
  err : Bool
  /-- STAKESTALE has been raised for the present age. -/
  stale : Bool
  txSeq : Nat
  txAt : Nat
  /-- Instant LEARN_OFS was written while it is BUSY. -/
  learn : Option Nat
  deriving DecidableEq, Repr, Inhabited

/-- One compare output (R203 to R206). -/
structure CmpSt where
  on : Bool
  entry : Nat
  pos : Nat
  period : Nat
  repeats : Nat
  left : Nat
  width : Nat
  delay : Nat
  wrap : Bool
  next : Nat
  /-- Start and end of the pulse active or scheduled, TIME ns. -/
  pulse : Option (Nat × Nat)
  /-- The pulse is active. -/
  active : Bool
  deriving DecidableEq, Repr, Inhabited

/-- The position source (R202). -/
inductive PosSrc where
  | enc | stakeFb | stake | none_ | noneS
  deriving DecidableEq, Repr, Inhabited

/-- WEB behind its registers. -/
structure WebSt where
  enc0 : EncSt
  enc1 : EncSt
  src : PosSrc
  stake : StakeSt
  cmp : List (Nat × CmpSt)
  /-- The extrapolated position the compare outputs were last judged on, while it comes from the stake (R206). -/
  judged : Option Nat
  /-- Accepted level of the cue input and when it was taken; when the splice input's last edge was accepted (R197). -/
  cueIn : Option (Bool × Nat)
  spliceAt : Option Nat
  deriving DecidableEq, Repr, Inhabited

/-- A frame window (R211): the hit's target, its edge time, and its limits in ns. -/
structure CamWin where
  x : Nat
  t : Nat
  opens : Nat
  closes : Nat
  /-- Instant of the hit. -/
  at_ : Nat
  deriving DecidableEq, Repr, Inhabited

/-- One row of a frame: valid pixels, whether it is flagged, its reflectance pixels (R212, R218). -/
structure CamRow where
  valid : Nat
  flagged : Bool
  px : List Nat
  deriving DecidableEq, Repr, Inhabited

/-- A frame accepted, with the settings in force at its start (R211 to R220). -/
structure CamFrame where
  idx : Nat
  setId : Nat
  unsettled : Bool
  x : Nat
  trig : Nat
  width : Nat
  height : Nat
  row0 : Nat
  step : Nat
  col0 : Int
  cstep : Nat
  /-- The 33 geometry knots (R219). -/
  knots : List Int
  /-- INSPECT words 0x040 to 0x06C in force for the port. -/
  model : List Word
  rows : List CamRow
  /-- The frame has ended. -/
  done : Bool
  /-- A table word with an uncorrectable error keeps it out of S0 and S1 (R223). -/
  withheld : Bool
  short : Bool
  long : Bool
  flagged : Nat
  sum : Nat
  count : Nat
  max : Nat
  clip : Nat
  dyn : Nat
  /-- Rows the comparator has judged: row, and D by column; a row not inspected has none (R228). -/
  judged : List (Nat × List (Option Int))
  /-- Cell rows reported. -/
  reported : List Nat
  deriving DecidableEq, Repr, Inhabited

/-- The coverage of a frame that never came: target, ROW0_DIST, ROW_STEP, HEIGHT (R222). -/
structure CamMiss where
  x : Nat
  row0 : Nat
  step : Nat
  height : Nat
  deriving DecidableEq, Repr, Inhabited

/-- A QUEUE_FS list that started at frame `f` (R215). -/
structure SetChange where
  setId : Nat
  f : Nat
  /-- Frame in which it completed. -/
  f' : Option Nat
  lag : Nat
  deriving DecidableEq, Repr, Inhabited

/-- The CCI command in progress (R214): opcode, SET_ID or register address, and whether it has started. -/
structure CciRun where
  op : Nat
  arg : Nat
  started : Bool
  /-- Instant the command was written. -/
  at_ : Nat
  deriving DecidableEq, Repr, Inhabited

/-- One camera port behind its registers. -/
structure CamSt where
  win : Option CamWin
  /-- Windows whose hit falls on the present instant: a frame start at that instant comes before them (R211). -/
  hits : List CamWin
  /-- Frame starts received (R217). -/
  idx : Nat
  /-- Last non-zero frame number. -/
  lastNum : Option Nat
  /-- The accepted frame being received. -/
  cur : Option CamFrame
  /-- A skipped frame is being received. -/
  skipping : Bool
  frames : List CamFrame
  misses : List CamMiss
  /-- Frames skipped or missing in a row. -/
  bad : Nat
  lost : Bool
  /-- SET_ID in force, the lists still within their lag, and R214's unsettled condition. -/
  setId : Nat
  changes : List SetChange
  failed : Bool
  cci : Option CciRun
  /-- Stamp of the last frame start. -/
  stamp : Nat × Bool
  /-- Frames S2 still leaves out before it writes one, for EVERY (R225). -/
  every : Nat
  /-- CAM_FSTAT_NO, TRIG, SET, MEAN, CLIP and DYN of the last completed frame. -/
  stats : List Word
  /-- INSPECT words in force for the port. -/
  model : List Word
  deriving DecidableEq, Repr, Inhabited

/-- A shadow commit that ports cross one by one (R224): checked valid, and the ports that have swapped. -/
structure PortCommit where
  checked : Bool
  swapped : List Nat
  deriving DecidableEq, Repr, Inhabited

/-- A band mapped: first LINE_SERIAL, lines, job, page and band (R229). -/
structure BandRec where
  first : Nat
  lines : Nat
  job : Nat
  page : Nat
  band : Nat
  deriving DecidableEq, Repr, Inhabited

/-- A line past its inspection read: whether it was inspected, and the levels it held (R222, R227). -/
structure LineRec where
  serial : Nat
  inspected : Bool
  levels : List Nat
  deriving DecidableEq, Repr, Inhabited

/-- INSPECT and ISP behind their registers. -/
structure InspSt where
  isp : Option PortCommit
  model : Option PortCommit
  /-- Port mask of an ISP COPY_LIVE in progress. -/
  mask : Nat
  /-- Next LINE_SERIAL to read for inspection. -/
  next : Nat
  /-- Reads issued and not returned. -/
  reads : List Nat
  lines : List LineRec
  bands : List BandRec
  /-- Pages placed on the grid: LINE_SERIAL of line 0, lines, job, page. -/
  pages : List (Nat × Nat × Nat × Nat)
  /-- Reports: the words of INSPECT_DEF_SRC to INSPECT_DEF_EVID. -/
  reports : List (List Word)
  /-- Number of the next report. -/
  defSeq : Nat
  deriving DecidableEq, Repr, Inhabited

/-- A nozzle's Traverse state (R247). STATE 1 IDLE, 2 FIRST, 3 PENDING, 4 MISSING; NOCAL is judged apart. -/
structure NozSt where
  st : Nat
  prevG : Option Nat
  prevD : Option Int
  lastG : Nat
  lastD : Int
  fail : Nat
  limD : Bool
  limP : Bool
  sub : Nat
  /-- Windows in FIRST without an estimate. -/
  idle : Nat
  /-- A trim, a missing mark or its removal waits for a page boundary; a sub-delay step waits for its response. -/
  trimWait : Bool
  subWait : Bool
  /-- The pending trim carries a missing mark. -/
  mark : Bool
  /-- First line, and first tick decided, that count (R244). -/
  fromLine : Nat
  fromTick : Nat
  deriving DecidableEq, Repr, Inhabited

/-- A nozzle's accumulators in the open window (R235). -/
structure NozAcc where
  n : Nat
  e : Nat
  o : Nat
  p : Int
  w : Nat
  np : Nat
  /-- The open window gives no estimate (R237). -/
  discard : Bool
  deriving DecidableEq, Repr, Inhabited

/-- A step agreed at a window close and not yet applied (R243). -/
inductive TravStep where
  /-- A density step of a nozzle. -/
  | trim (n : Nat) (d : Int)
  /-- A missing mark. -/
  | mark (n : Nat)
  /-- A sub-delay step of a nozzle. -/
  | sub (n : Nat) (d : Int)
  deriving DecidableEq, Repr, Inhabited

/-- A transfer of a head's sub-delay copy (R245): frames to answer, all OK so far, asked for by RESYNC_SUB. -/
structure SubSync where
  head : Nat
  left : Nat
  ok : Bool
  cmd : Bool
  deriving DecidableEq, Repr, Inhabited

/-- TRAV behind its registers. -/
structure TravSt where
  noz : List (Nat × NozSt)
  acc : List (Nat × NozAcc)
  /-- First LINE_SERIAL of the open window, and its number. -/
  win : Option Nat
  winNo : Nat
  /-- Next LINE_SERIAL to accumulate. -/
  next : Nat
  frozen : Bool
  lease : Bool
  leaseAt : Nat
  /-- Splice spans, first and last position in counts, oldest first. -/
  splices : List (Nat × Nat)
  wait : List TravStep
  syncs : List SubSync
  /-- SUBDELAY_WRITE frames sent and not answered, oldest first: head, and the nozzle of a step. -/
  inFlight : List (Nat × Option Nat)
  /-- The head of a RESYNC_SUB that waits for the lease and PLACE_APPLY (R245). -/
  resync : Option Nat
  deriving DecidableEq, Repr, Inhabited

/-- One lane behind its registers (R256 to R265). -/
structure LaneSt where
  /-- Receiver state: 0 OFF, 1 SQUELCH, 2 HUNT, 3 LOCKED. -/
  rx : Nat
  signal : Bool
  /-- EIDLE_TX. -/
  idle : Bool
  prbs : Bool
  phase : Nat
  width : Nat
  /-- The last sweep's estimate, in half positions. -/
  prev : Option Nat
  fail : Nat
  /-- A sweep has given a result since reset. -/
  swept : Bool
  ctle : Nat
  dfe : Nat
  /-- The transmitter is out of electrical idle. -/
  tx : Bool
  /-- Instants in ps at which the electrical-idle entry has been sent, and from which role traffic may start (R257). -/
  idleAt : Nat
  roleAt : Nat
  /-- Fill of the elastic buffer, symbols (R259). -/
  fill : Nat
  /-- Instant of the last error symbol passed to the role, ns (R256, R260). -/
  errAt : Option Nat
  /-- Instant from which the eye monitor's period counts, ns (R262). -/
  eyeAt : Nat
  /-- Instant from which PRBS bits have not been counted yet, ns (R265). -/
  prbsAt : Nat
  deriving DecidableEq, Repr, Inhabited

/-- What a waiting Chain frame carries; fields that are written as it leaves are filled in then (R38, R277, R284). -/
inductive TxBody where
  | bytes (payload : List Byte)
  | sync (seq : Nat)
  | dlyreq (seq : Nat)
  | dlyrsp (seq t4 : Nat)
  | keep
  | event (page : Nat)
  /-- A launched frame: header and payload as they stand. -/
  | raw (bytes : List Byte)
  deriving DecidableEq, Repr, Inhabited

/-- A frame waiting on a Chain port (R273, R274). -/
structure TxFrame where
  port : Nat
  level : Nat
  fwd : Bool
  /-- TYPE, DST, SRC, HOPS and SEQ. -/
  ty : Nat
  dst : Nat
  src : Nat
  hops : Nat
  seq : Nat
  body : TxBody
  /-- Number, TAG and LATE of a launch, for the stamp that its first symbol posts (R288). -/
  stamp : Option (Nat × Nat × Bool)
  deriving DecidableEq, Repr, Inhabited

/-- A launch queue entry (R288). -/
structure LqEntry where
  addr : Nat
  len : Nat
  tag : Nat
  atTime : Bool
  time : Nat
  /-- It was judged not late when it came to the head. -/
  armed : Bool
  /-- The frame, once it has been read from DRAM at the head of the queue (R289). -/
  bytes : Option (List Byte)
  deriving DecidableEq, Repr, Inhabited

/-- A launch stamp (R288, R289). -/
structure LqStamp where
  tag : Nat
  late : Bool
  notSent : Bool
  time : Nat
  deriving DecidableEq, Repr, Inhabited

/-- A launch queue. -/
structure LqSt where
  q : List LqEntry
  stamps : List LqStamp
  lost : Bool
  /-- Launches so far (the model's own number). -/
  no : Nat
  deriving DecidableEq, Repr, Inhabited

/-- CHAIN behind its registers. -/
structure ChainSt where
  /-- Port codes that are up. -/
  up : List Nat
  /-- Ports with a frame in transmission. -/
  busy : List Nat
  queue : List TxFrame
  /-- SEQ of the next originated frame. -/
  seq : Nat
  lq : LqSt
  /-- Instant of the last KEEP of each node, and the nodes marked lost. -/
  seenAt : List (Nat × Nat)
  lost : List Nat
  /-- Instant CHAIN was enabled, ns. -/
  since : Nat
  keepAt : Option Nat
  deriving DecidableEq, Repr, Inhabited

/-- A kept UDP reply: source IP, source port, TAG and payload (R280). -/
structure UdpReply where
  ip : Nat
  port : Nat
  tag : Nat
  bytes : List Byte
  deriving DecidableEq, Repr, Inhabited

/-- A frame or datagram waiting to leave on ETH, and of a PTP event message its messageType and sequenceId, for its transmit
time-stamp (R281). -/
structure EthTx where
  out : Out
  ev : Option (Nat × Nat)
  deriving DecidableEq, Repr, Inhabited

/-- A foreign master the ordinary clock has heard (R281): its port identity, the fields of its last Announce that the best master clock
algorithm compares, and the instants of its last Announces, newest first. -/
structure PtpMaster where
  port : List Byte
  data : List Nat
  heard : List Nat
  deriving DecidableEq, Repr, Inhabited

/-- The ordinary clock the time service runs while PTP_EN is set (R281). -/
structure PtpSt where
  /-- 0 LISTENING, 1 SLAVE, 2 MASTER. -/
  st : Nat
  /-- Instant LISTENING began, ns of the time base; none while the clock has not run. -/
  since : Option Nat
  masters : List PtpMaster
  /-- Port identity of the master followed. -/
  parent : List Byte
  /-- The Sync of the exchange in progress: sequenceId and TIME at its arrival; then the master's time of it, ns. -/
  sync : Option (Nat × Nat)
  t1 : Option Nat
  /-- The Delay_Req of the exchange in progress: sequenceId, then TIME at its leaving. -/
  req : Option Nat
  t3 : Option Nat
  /-- sequenceId of the next Announce, Sync and Delay_Req. -/
  annSeq : Nat
  syncSeq : Nat
  reqSeq : Nat
  /-- Instants the last Announce and Sync were sent, as master. -/
  annAt : Option Nat
  syncAt : Option Nat
  deriving DecidableEq, Repr, Inhabited

/-- ETH behind its registers. -/
structure EthSt where
  lq : LqSt
  /-- Kept replies, most recently used first, 8 at most. -/
  replies : List UdpReply
  /-- What waits for a launch or a quiesce to end (R288, R442). -/
  txq : List EthTx
  /-- The partner advertises full duplex (R278). -/
  full : Bool
  ptp : PtpSt
  deriving DecidableEq, Repr, Inhabited

/-- A Chain time exchange in progress (R284). -/
structure Exch where
  seq : Nat
  t1 : Nat
  t2 : Nat
  t3 : Nat
  /-- The master's press time at T1, ns, where its SEC_VALID says it has one. -/
  press : Option Nat
  deriving DecidableEq, Repr, Inhabited

/-- TIME behind its registers (R282 to R286). -/
structure TimeSt where
  /-- TIME in 2⁻³² ns since TIME_WRAP 0, modulo 2⁹⁶. -/
  acc : Nat
  rate : Int
  integ : Int
  good : Nat
  bad : Nat
  locked : Bool
  hold : Bool
  /-- TIME at which the last offset reached the servo. -/
  ofsAt : Option Nat
  /-- Wraps of TIME_NS reported. -/
  wraps : Nat
  syncSeq : Nat
  syncAt : Option Nat
  exch : Option Exch
  lastSeq : Nat
  /-- The four epoch registers as applied: NS, SEC_LO, SEC_HI, WRAP. -/
  epoch : List Word
  /-- What the time service keeps the epoch in step with (R283): a value of TIME and the master's press time there, ns. -/
  ref : Option (Nat × Nat)
  deriving DecidableEq, Repr, Inhabited

/-- A DRAM request waiting at its port (R297 to R300). -/
structure DReq where
  id : Nat
  port : Nat
  write : Bool
  addr : Nat
  bytes : Nat
  /-- Instant it entered the port queue, ns. -/
  at_ : Nat
  /-- 64-byte blocks not yet issued. -/
  left : List Nat
  /-- Blocks issued and not complete. -/
  out : Nat
  held : Bool
  promoted : Bool
  /-- A block of it has been issued in excess, without tokens (R300). -/
  excess : Bool
  deriving DecidableEq, Repr, Inhabited

/-- A request in the fabric that its DRAM port has not yet taken (R62, R63): instant it entered, promotion, port, direction, address
and bytes. Its class is its port's (R20, R297). -/
structure FabReq where
  at_ : Nat
  promoted : Bool
  port : Nat
  write : Bool
  addr : Nat
  bytes : Nat
  deriving DecidableEq, Repr, Inhabited

/-- A block issued on a channel: request, port, block, write, and whether it covers a whole block. -/
structure DBlock where
  ch : Nat
  id : Nat
  port : Nat
  block : Nat
  write : Bool
  whole : Bool
  deriving DecidableEq, Repr, Inhabited

/-- One byte lane's read-eye tracker (R307): the read delay, the last estimate in half taps, the disagreements in a row, the width of the
last widest run, whether FINISH has set it up, and the instant of its last sweep. -/
structure RdEye where
  delay : Nat
  prev : Option Nat
  fail : Nat
  width : Nat
  on : Bool
  at_ : Nat
  deriving DecidableEq, Repr, Inhabited

/-- The DRAM controller behind its registers. -/
structure DramSt where
  queue : List DReq
  issued : List DBlock
  nextId : Nat
  /-- Token buckets in 1/1,000 byte, by port (R300). -/
  tokens : List (Nat × Int)
  /-- Channel-ranks with a forced burst pending (R305). -/
  forced : List Nat
  /-- Trackers by 2 k + lane. -/
  eyes : List (Nat × RdEye)
  /-- Instant of the last token update (R300). -/
  tokAt : Nat
  /-- Per port: instant of its last DRAMQOS_REG write and the tokens it held under the old setting (R300). -/
  oldQos : List (Nat × (Nat × Int))
  /-- Per channel-rank: instant of its last refresh due (R303), and the instant until which a refresh keeps it busy. -/
  refAt : List (Nat × Option Nat)
  refBusy : List (Nat × Nat)
  /-- Instant of the last MR4 reading, and an ECCUNCORR asks for one (R306). -/
  mr4At : Nat
  mr4Want : Bool
  /-- Instant of the scrubber's last read (R296). -/
  scrubAt : Option Nat
  /-- FIRST and LAST of the SWEEP in progress (R309). -/
  sweep : Nat × Nat
  /-- Per port: the access status its last transfer ended with, OK or ADDRESS (R294). -/
  status : List (Nat × Nat)
  /-- The trace ring's write pointer as far as its writes have entered port 11 (R439). -/
  traced : Nat
  deriving DecidableEq, Repr, Inhabited

/-- A DEFLATE job as latched (R314, R320). -/
structure DeflJob where
  mode : Word
  src : Nat
  srcLen : Nat
  dst : Nat
  dstLen : Nat
  /-- Output written by the job so far, and into the present destination. -/
  out : List Byte
  bufOut : Nat
  inDone : Nat
  /-- Input consumed at each flush (R318). -/
  flushes : List Nat
  deriving DecidableEq, Repr, Inhabited

/-- One DEFLATE engine. -/
structure DeflEng where
  job : Option DeflJob
  /-- The job stopped OUTFULL and can be resumed. -/
  stopped : Bool
  /-- Input and output of the stream a CONTINUE job goes on with; none where R314 refuses it. -/
  chain : Option (List Byte × List Byte)
  deriving DecidableEq, Repr, Inhabited

/-- A loop slot behind its registers (R329, R334, R337). -/
structure SlotSt where
  y : Int
  e : Int
  p : Int
  /-- The integrator, Q16. -/
  i : Int
  d : Int
  f : Int
  u : Int
  /-- y of the last update, while have_prev is 1. -/
  yPrev : Option Int
  /-- EN was written 1 and the group has not ticked since. -/
  fresh : Bool
  /-- An oscillation's ACTION holds u: at a value (FREEZE), or at LOOP_SAFE (SAFE, none) (R337). -/
  held : Option (Option Int)
  /-- The last bound e lay beyond: 1 above, −1 below, 0 neither yet. -/
  side : Int
  /-- Which of the last updates were crossings, newest first. -/
  record : List Bool
  /-- The last heater set-point the head answered OK. -/
  heatOk : Option Int
  /-- The last HEATER_SET failed. -/
  retry : Bool
  /-- Updates since the last 64th. -/
  upd : Nat
  deriving DecidableEq, Repr, Inhabited

/-- A loop group: its last tick, whether that tick's updates are still due, and whether it has applied the pending commit. -/
structure LoopGroup where
  tickAt : Option Nat
  due : Bool
  applied : Bool
  deriving DecidableEq, Repr, Inhabited

/-- A capture in progress (R340, R341). -/
structure CapSt where
  /-- Updates (INJECT) or ticks (TRACE) recorded. -/
  n : Nat
  lfsr : Nat
  /-- A TRIGGER waits for the next tick. -/
  trig : Bool
  /-- Ticks still to write after the trigger. -/
  post : Option Nat
  /-- Offset of the first word of the last tick written. -/
  last : Nat
  deriving DecidableEq, Repr, Inhabited

/-- LOOP and LOOPCAP behind their registers. -/
structure LoopSt where
  slots : List (Nat × SlotSt)
  groups : List (Nat × LoopGroup)
  /-- The latest acquisition of channel c of port k, item 4 k + c: its value where valid. -/
  acq : List (Nat × Option Int)
  /-- The pending commit has been checked (R338). -/
  checked : Bool
  /-- Active time of the present PWM period of each pin, ns. -/
  pwm : List (Nat × Nat)
  /-- When the present PWM period of each pin started, ns. -/
  pwmAt : List (Nat × Option Nat)
  /-- The capture memory. -/
  cap : List (Nat × Word)
  caps : List (Nat × CapSt)
  deriving DecidableEq, Repr, Inhabited

/-- One axis (R345 to R354). -/
structure AxisSt where
  /-- 0 OFF, 1 REINDEX, 2 STILL, 3 MOVING, 4 RUN, 5 HOMING. -/
  st : Nat
  lost : Bool
  homed : Bool
  drvEn : Bool
  pos : Int
  v : Nat
  fwd : Bool
  /-- Acceleration in force, V per µs. -/
  acc : Nat
  /-- The phase accumulator, with the carries not yet taken above bit 31, and the instant it stands at, ns. -/
  phase : Nat
  phaseAt : Nat
  /-- 0 none, 1 MOVE, 2 SPEED, 3 HOME. -/
  mode : Nat
  target : Int
  halting : Bool
  /-- A reversal waits for this instant to restart at VSTART. -/
  restart : Option Nat
  updAt : Nat
  latched : Option Int
  homeLatch : Int
  /-- The home source is confirmed and the axis is stopping. -/
  confirmed : Bool
  /-- EN_WAIT runs since this instant. -/
  waitAt : Option Nat
  /-- Re-index steps left. -/
  reSteps : Nat
  indexPos : Int
  homeIn : Bool
  limN : Bool
  limP : Bool
  /-- Load term of the current demand, the last load value, and that value where the demand was 256. -/
  term : Nat
  loadVal : Int
  full : Option Int
  /-- When the last command started, ns. -/
  cmdAt : Option Nat
  deriving DecidableEq, Repr, Inhabited

/-- A job as Tally counts it: JOB_ID, VALID and the five quantities LEN, AREA, DROPS_S, DROPS_M, DROPS_L (R371). -/
structure TallyJob where
  job : Nat
  valid : Bool
  cnt : List (Nat × Nat)
  deriving DecidableEq, Repr, Inhabited

/-- Tally's sealed parameters (R378). -/
structure TallyParams where
  cpm : Nat
  cell : Nat
  filt : Nat
  invert : Bool
  deriving DecidableEq, Repr, Inhabited

/-- Tally (R371 to R385). -/
structure TallySt where
  life : List (Nat × Nat)
  open_ : TallyJob
  /-- Closed jobs, newest first, 16 of them. -/
  hist : List TallyJob
  ill : Nat
  /-- Tally's own levels of A and B, its count, and the high-water count. -/
  a : Bool
  b : Bool
  /-- Instants of the last accepted change of A and B (R191, R372). -/
  aAt : Option Nat
  bAt : Option Nat
  cnt : Int
  high : Int
  /-- Remainders in 1/COUNTS_PER_M µm and 1/256 µm². -/
  lenRem : Nat
  areaRem : Nat
  params : TallyParams
  /-- The audit records burnt, oldest first, 32 bytes each. -/
  audit : List (List Byte)
  /-- The record being burnt, and whether a PARAM_WRITE reply waits for it. -/
  burn : Option (List Byte × Bool)
  sealOpen : Bool
  retLost : Bool
  romOk : Bool
  /-- VIO18 is present. -/
  live : Bool
  deriving DecidableEq, Repr, Inhabited

/-- A firmware slot being staged: slot, announced length, bytes written (R393). -/
structure FwStage where
  slot : Nat
  length : Nat
  written : Nat
  deriving DecidableEq, Repr, Inhabited

/-- The service cores and their firmware behind SVC and MBX (R386 to R397). -/
structure SvcSt where
  /-- Instant each heartbeat last changed, ns. -/
  hbAt : List (Nat × Nat)
  /-- The booted image: slot (0 A, 1 B). -/
  slot : Option Nat
  /-- Log records kept, newest first, and the number of the next. -/
  log : List (List Byte)
  logNext : Nat
  stage : Option FwStage
  /-- A DISCOVER whose IDENT is outstanding: head and SEQ. -/
  disc : Option (Nat × Nat)
  /-- Replies that wait for the external side's ACK, by service, oldest first. -/
  replies : List (Nat × List Byte)
  /-- LOSS_US of each head's last IDENT (R174, R368). -/
  lossUs : List (Nat × Nat)
  /-- When each mailbox was last acknowledged, ns (R391). -/
  acked : List (Nat × Option Nat)
  /-- The last doorbell on each FULL mailbox: instant, and COLLISION and MBCOLL as they stood before it (R391). -/
  rang : List (Nat × Option (Nat × Bool × Bool))
  deriving DecidableEq, Repr, Inhabited

/-- The debug UART's FIFOs, oldest byte first (R438). -/
structure DebugSt where
  tx : List Byte
  rx : List Byte
  deriving DecidableEq, Repr, Inhabited

/-- The states of the test access port's controller (R434, IEEE 1149.1; log entry 51). -/
inductive TapPhase
  | logicReset | runIdle | selectDr | captureDr | shiftDr | exit1Dr | pauseDr | exit2Dr | updateDr
  | selectIr | captureIr | shiftIr | exit1Ir | pauseIr | exit2Ir | updateIr
  deriving DecidableEq, Repr, Inhabited

/-- The instructions of the test access port (R434). -/
inductive TapOp
  | bypass | idcode | sample | extest | clamp | highz
  deriving DecidableEq, Repr, Inhabited

/-- The test access port (R434). -/
structure JtagSt where
  phase : TapPhase
  op : TapOp
  /-- The shift stages of the instruction register and of the selected data register, the bit next to TDO first. -/
  ir : List Bool
  dr : List Bool
  /-- The boundary register's update stage, which EXTEST and CLAMP drive. -/
  boundary : List Bool
  deriving DecidableEq, Repr, Inhabited

/-- The machine. -/
structure State where
  /-- The commands that are waiting, first in, first out. -/
  pending : List Instr
  /-- ns of the 1 GHz time base since power-on (R3). -/
  now : Nat
  /-- Register and table words: the stored, and for shadowed registers the shadow, copy (R43). -/
  words : List (Nat × Word)
  /-- The live copy of shadowed registers (R43). -/
  live : List (Nat × Word)
  /-- Pages that have gained a pending bit routed to Chain since the last step's end (R38). -/
  evtOut : List Nat
  /-- IRQ_N[3:0] asserted (R37). -/
  irqN : List Bool
  /-- Pages whose pending events stand before the service firmware (R36). -/
  svcEvt : List Nat
  /-- How often each error counter has counted at the present instant, by its address (R41). -/
  incs : List (Nat × Nat)
  /-- Status registers of the commands in progress that an ABORT has found past their commit point (R47). -/
  committed : List Nat
  /-- DRAM bytes (R293). -/
  dram : List Host.Cell
  /-- DRAM 64-byte blocks whose code word is uncorrectable (R295). -/
  badBlocks : List Nat
  /-- Boot flash bytes (R394, R406). -/
  flash : List Host.Cell
  /-- Index of the next free value (the model's own field). -/
  freeIdx : Nat
  /-- What the chip has driven, newest first (the model's own record). -/
  sent : List Out
  pQspi : PathSt
  pChain : PathSt
  pUdp : PathSt
  pSvc : PathSt
  qspi : QspiSt
  chip : ChipSt
  time : TimeSt
  pace : PaceSt
  intake : IntakeSt
  infl : InflSt
  map : MapSt
  delay : DelaySt
  fire : FireSt
  /-- The heads, 0 to 31; like every table of this state, an unlisted item is as at reset. -/
  heads : List (Nat × HeadSt)
  /-- Head commands of TRAV, LOOP and the services that have ended without a response: head, command, code (R172, R187). -/
  failed : List (Nat × HCmd × Nat)
  web : WebSt
  pair : PairSt
  cams : List (Nat × CamSt)
  insp : InspSt
  trav : TravSt
  lanes : List (Nat × LaneSt)
  chain : ChainSt
  eth : EthSt
  /-- The requests waiting in the fabric, oldest first (R62, R63). -/
  fab : List FabReq
  dramc : DramSt
  deflE : List (Nat × DeflEng)
  loop : LoopSt
  axes : List (Nat × AxisSt)
  tally : TallySt
  svc : SvcSt
  dbg : DebugSt
  jtag : JtagSt
  deriving DecidableEq, Repr, Inhabited

/-! ## The state after reset: every domain released and every register at its reset value (log entries 2 and 5) -/

namespace Reset

def path : PathSt := ⟨0, [], [], [], []⟩

def opt : OptSt :=
  ⟨true, true, true, 1, 0xFFFFFFFF, 0x975FE682, List.replicate 256 0xFF, paceFactory, List.replicate 32 0, List.replicate 6 0⟩

def otp : OtpSt := ⟨[0x48, 0x10, 0x01, 0, 0, 0, 0, 0], List.replicate 6 0, List.replicate 32 0, paceFactory⟩

def chip : ChipSt :=
  { rel := 8, por := false, rstLow := false, island := false, since := 0, loading := false, verdictAt := none, cause := 1,
    cold := true, optCut := false, resets := 1, straps := 0, opt := opt, otp := otp, pend := [], run := none, padFree := [],
    upSince := 0, upWraps := 0, porAt := none }

def time : TimeSt :=
  { acc := 0, rate := 0, integ := 0, good := 0, bad := 0, locked := false, hold := false, ofsAt := none, wraps := 0, syncSeq := 0,
    syncAt := none, exch := none, lastSeq := 0, epoch := [0, 0, 0, 0], ref := none }

def pace : PaceSt :=
  { vcore := 850, last := 850, col := 0, ramp := none, slack := List.replicate 4 32767, slow := false, goodWins := 0, lines := 0, expo := 0, rose := none,
    lapsed := false }

def intake : IntakeSt :=
  { queue := [], seq := [], last := [], current := none, fails := [], ended := [], hold := [], loadWait := false }

def engine : Engine := ⟨0, 0, none, 0⟩

def infl : InflSt := { engines := [], staging := [none, none] }

def map : MapSt := { win0 := [], win1 := [], trimLive := [], trimStaged := [], held := [], heldAt := 0, op := 0, bad := [] }

def tap : TapSt := { mPrev := 0, set1 := 0, set2 := 0, set3 := 0, fails := 0, measured := false }

def fire : FireSt :=
  { st := 0, latch := false, pinLow := false, posInv := false, anchored := false, segs := [], nextRead := 0, nextDec := 0,
    nextCom := 0, ticks := [], reads := [], bench := 0, lastCom := none, lastSched := none, lastTrig := [],
    hist := List.replicate 32 (List.replicate 4 []), lastLine := none, subTicks := [], trigOn := [],
    taps := [], denHeld := none }

def head : HeadSt :=
  { nextEdge := 0, flushSeq := 0, edges := [], telAt := none, telRun := 0, hstate := 0, port := 0, claim := 0, edgeSeq := 0,
    lastFired := 0, crcFails := 0, missed := 0, duty := 0, ready := false, shadow := false, hold := true, rejoinAt := none, cmdSeq := 0,
    queue := [], run := none, frameNo := 0, kaSeq := 0, kaAt := none, laneFree := 0, cmdFree := 0, held := true, gapFrom := none, gapWait := false }

def enc : EncSt :=
  { a := false, b := false, aAt := none, bAt := none, iAt := none, cnt := 0, dir := 0, ext := 0, resync := false, run := 0, times := [], tCount := 0, valid := false,
    te := 0, edgeT := 0, lastFwd := false, seen := false, still := false, armed := false, faulty := false, ills := [] }

def stake : StakeSt :=
  { xe := 0, te := 0, tCount := 0, fwd := false, spd := false, seq := none, at_ := none, err := false, stale := false,
    txSeq := 0, txAt := 0, learn := none }

def cmp : CmpSt :=
  { on := false, entry := 0, pos := 0, period := 0, repeats := 0, left := 0, width := 0, delay := 0, wrap := false, next := 0,
    pulse := none, active := false }

def web : WebSt := { enc0 := enc, enc1 := enc, src := .enc, stake := stake, cmp := [], judged := none, cueIn := none, spliceAt := none }

def pair : PairSt :=
  { role := 0, aligned := false, peerAlive := false, edgeAt := none, aliveSince := 0, yielding := false, takeArmed := false,
    lastUnaligned := false, out := false, outAt := 0, mirrorOk := false, mirrorAt := 0, peerActive := false, mseq := 0,
    sentAt := 0, sentFlags := 0, ticks := 0, recs := [], joining := false, joined := none, checksOk := false, held := false, blanked := false,
    gapCounted := false, gap := [], cursors := [] }

def cam : CamSt :=
  { win := none, hits := [], idx := 0, lastNum := none, cur := none, skipping := false, frames := [], misses := [], bad := 0, lost := false,
    setId := 0, changes := [], failed := false, cci := none, stamp := (0, false), every := 0, stats := List.replicate 6 0,
    model := (List.range 12).map fun i => resetWord (0x40025040 + 4 * i) }

def insp : InspSt :=
  { isp := none, model := none, mask := 0, next := 0, reads := [], lines := [], bands := [], pages := [], reports := [],
    defSeq := 0 }

def trav : TravSt :=
  { noz := [], acc := [], win := none, winNo := 0, next := 0, frozen := false, lease := false, leaseAt := 0, splices := [],
    wait := [], syncs := [], inFlight := [], resync := none }

def lane : LaneSt :=
  { rx := 0, signal := false, idle := false, prbs := false, phase := 0, width := 0, prev := none, fail := 0, swept := false,
    ctle := 0, dfe := 0, tx := false, idleAt := 0, roleAt := 0, fill := 8, errAt := none, eyeAt := 0, prbsAt := 0 }

def lq : LqSt := { q := [], stamps := [], lost := false, no := 0 }

def ptp : PtpSt :=
  { st := 0, since := none, masters := [], parent := [], sync := none, t1 := none, req := none, t3 := none, annSeq := 0, syncSeq := 0,
    reqSeq := 0, annAt := none, syncAt := none }

def eth : EthSt := { lq := lq, replies := [], txq := [], full := false, ptp := ptp }

def chain : ChainSt :=
  { up := [], busy := [], queue := [], seq := 0, lq := lq, seenAt := [], lost := [], since := 0, keepAt := none }

def eye : RdEye := { delay := 0, prev := none, fail := 0, width := 0, on := false, at_ := 0 }

def dramc : DramSt :=
  { queue := [], issued := [], nextId := 0, tokens := [], forced := [], eyes := [], tokAt := 0, oldQos := [], refAt := [], refBusy := [],
    mr4At := 0, mr4Want := false, scrubAt := none, sweep := (0, 127), status := [], traced := 0 }

def slot : SlotSt :=
  { y := 0, e := 0, p := 0, i := 0, d := 0, f := 0, u := 0, yPrev := none, fresh := false, held := none, side := 0, record := [],
    heatOk := none, retry := false, upd := 0 }

def group : LoopGroup := ⟨none, false, false⟩

def cap : CapSt := ⟨0, 0, false, none, 0⟩

def loop : LoopSt :=
  { slots := [], groups := [], acq := [], checked := false, pwm := [], pwmAt := [], cap := [], caps := [] }

def defl : DeflEng := ⟨none, false, none⟩

def axis : AxisSt :=
  { st := 0, lost := false, homed := false, drvEn := false, pos := 0, v := 0, fwd := false, acc := 0, phase := 0, phaseAt := 0,
    mode := 0, target := 0, halting := false, restart := none, updAt := 0, latched := none, homeLatch := 0, confirmed := false,
    waitAt := none, reSteps := 0, indexPos := 0, homeIn := false, limN := false, limP := false, term := 0, loadVal := 0,
    full := none, cmdAt := none }

/-- The factory audit record (R379). -/
def audit0 : List Byte :=
  [0, 0, 0, 0, 0, 0, 0, 0, 0, 0, 0, 0, 0x00, 0x00, 0xC3, 0x50, 0x00, 0x00, 0xE0, 0x04, 0x04, 0x00, 0, 0, 0, 0, 0, 0,
   0x75, 0x1E, 0xA0, 0x22]

def tallyJob : TallyJob := ⟨0, false, []⟩

def tally : TallySt :=
  { life := [], open_ := tallyJob, hist := List.replicate 16 tallyJob, ill := 0, a := false, b := false, aAt := none, bAt := none, cnt := 0,
    high := 0, lenRem := 0, areaRem := 0, params := ⟨50000, 57348, 4, false⟩, audit := [audit0], burn := none, sealOpen := false,
    retLost := false, romOk := true, live := true }

def svc : SvcSt :=
  { hbAt := [], slot := none, log := [], logNext := 0, stage := none, disc := none, replies := [], lossUs := [], acked := [],
    rang := [] }

def jtag : JtagSt := ⟨.logicReset, .idcode, [], [], []⟩

end Reset

/-- The machine right after reset (log entry 2). -/
def State.reset : State :=
  { pending := [], now := 0, words := [(Reg.evtStatus 2, 0x100)], live := [], evtOut := [], irqN := [false, false, false, false],
    svcEvt := [], incs := [], committed := [],
    dram := [], badBlocks := [], flash := [], freeIdx := 0, sent := [], pQspi := Reset.path, pChain := Reset.path,
    pUdp := Reset.path, pSvc := Reset.path, qspi := ⟨0, 0⟩, chip := Reset.chip, time := Reset.time, pace := Reset.pace,
    intake := Reset.intake, infl := Reset.infl, map := Reset.map, delay := ⟨[], []⟩, fire := Reset.fire,
    heads := [], failed := [], web := Reset.web, pair := Reset.pair,
    cams := [], insp := Reset.insp, trav := Reset.trav, lanes := [],
    chain := Reset.chain, eth := Reset.eth, fab := [], dramc := Reset.dramc, deflE := [],
    loop := Reset.loop, axes := [], tally := Reset.tally, svc := Reset.svc, dbg := ⟨[], []⟩, jtag := Reset.jtag }

end Sys2Proof.Machine
end

