-- ==== Sys2Proof/Machine/Ops.lean ====
section
/-! DEFINITION. The named operations over registers, events, counters, commands, free values and DRAM. -/
namespace Sys2Proof.Machine

/-! ## Register words -/

/-- The stored word of a register: the shadow copy of a shadowed register (R43). -/
def State.reg (s : State) (a : Nat) : Word := mget resetWord s.words a

/-- Store a word. -/
def State.setReg (s : State) (a : Nat) (w : Word) : State := { s with words := mset resetWord a w s.words }

/-- A field of a stored register. -/
def State.rf (s : State) (a lo n : Nat) : Nat := fld (s.reg a) lo n

/-- A bit of a stored register. -/
def State.rb (s : State) (a i : Nat) : Bool := bit (s.reg a) i

/-- Replace a field of a stored register. -/
def State.setF (s : State) (a lo n v : Nat) : State := s.setReg a (put (s.reg a) lo n v)

/-- Replace a bit of a stored register. -/
def State.setB (s : State) (a i : Nat) (b : Bool) : State := s.setReg a (putBit (s.reg a) i b)

/-- The shadowed bits of a register (R43). -/
def shadowMask (a : Nat) : Nat :=
  match descOf a with
  | some d => d.shadow
  | none => 0

/-- The word the block uses: the live copy of the shadowed bits, the stored value of the others (R43, R44). -/
def State.inForce (s : State) (a : Nat) : Word :=
  let m := W (shadowMask a)
  (mget resetWord s.live a &&& m) ||| (s.reg a &&& ~~~m)

/-- A field in force. -/
def State.lf (s : State) (a lo n : Nat) : Nat := fld (s.inForce a) lo n

/-- A bit in force. -/
def State.lb (s : State) (a i : Nat) : Bool := bit (s.inForce a) i

/-! ## Pages -/

/-- The page's group is held in a block reset (R414). -/
def State.heldInReset (s : State) (p : Nat) : Bool :=
  match s.chip.run with
  | some r => r.held.isSome && p ∈ blkGroup r.page
  | none => false

/-- The page's domain is out of reset, and D2 with it (R29), and its group is in no block reset (R414). -/
def State.released (s : State) (p : Nat) : Bool := 2 ≤ s.chip.rel && domainOf p ≤ s.chip.rel && !s.heldInReset p

/-- PAGE_CTRL.ENABLE of a page whose domain is released (R32). -/
def State.enabled (s : State) (p : Nat) : Bool := s.released p && s.rb (Reg.pageCtrl p) 0

/-- PAGE_CTRL.QUIESCE_REQ (R32). -/
def State.quiescing (s : State) (p : Nat) : Bool := s.rb (Reg.pageCtrl p) 1

/-- The page runs and may start a unit of work (R32, R442). -/
def State.running (s : State) (p : Nat) : Bool := s.enabled p && !s.quiescing p

/-- PAGE_STATUS.SHADOW_PENDING (R43). -/
def State.shadowPending (s : State) (p : Nat) : Bool := s.rb (Reg.pageStatus p) 4

/-! ## Time -/

/-- TIME in 2⁻³² ns since TIME_WRAP 0: the 64-bit ns count and its fraction (R282). -/
def State.timeNs64 (s : State) : Nat := s.time.acc / 2 ^ 32

/-- TIME_NS (R282). -/
def State.timeNs (s : State) : Nat := s.timeNs64 % 2 ^ 32

/-- `dt` ns of the 1 GHz time base pass (log entry 1). TIME runs at its rate (R282); no register word changes. What counted at
the instant before is no longer of the present instant (R41). -/
def State.elapse (s : State) (dt : Nat) : State :=
  { s with
    now := s.now + dt
    incs := if dt = 0 then s.incs else []
    time := if s.chip.rel < 2 then s.time else
      { s.time with acc := (((s.time.acc : Int) + dt * ((2 ^ 32 : Nat) + s.time.rate)) % ((2 ^ 96 : Nat) : Int)).toNat } }

/-! ## DRAM and flash -/

/-- What a byte of DRAM that nothing has written reads as (log entry 6). -/
def dramDefault (_ : Nat) : Byte := 0

/-- What an erased byte of boot flash reads as. -/
def flashDefault (_ : Nat) : Byte := 0xFF

/-- Read `n` bytes of DRAM. -/
def State.dramRead (s : State) (a n : Nat) : List Byte := mread dramDefault a n s.dram

/-- DRAM_SIZE in bytes (R294). -/
def dramBytes (s : State) : Nat := 2 ^ 20 * s.rf Reg.DRAM_SIZE 0 16

/-- A transfer lies below DRAM_SIZE, or training has not set it yet (R294, R308). -/
def dramFits (a n : Nat) (s : State) : Bool := dramBytes s == 0 || decide (a + n ≤ dramBytes s)

/-- Write bytes to DRAM; the 64-byte blocks written whole lose their uncorrectable mark (R295). An access that reaches DRAM_SIZE writes
nothing (R294). -/
def State.dramWrite (s : State) (a : Nat) (l : List Byte) : State :=
  { s with dram := if dramFits a l.length s then mwrite dramDefault a l s.dram else s.dram,
           badBlocks := if dramFits a l.length s then
               s.badBlocks.filter fun b => !(a ≤ b * 64 && b * 64 + 64 ≤ a + l.length) else s.badBlocks }

/-- Does a read of `n` bytes at `a` meet an uncorrectable block (R295)? -/
def State.dramBad (s : State) (a n : Nat) : Bool :=
  s.badBlocks.any fun b => a < b * 64 + 64 && b * 64 < a + n

/-- Memory wf: the canonical form of DRAM. -/
def dramWf (l : List Host.Cell) : Bool := mwf dramDefault l

/-! ## The trace ring (R439) and events (R36) -/

/-- Set an EVT_STATUS bit and note the page where a pending bit is gained that is routed to Chain (R36, R38). -/
def raiseBit (p b : Nat) (s : State) : State :=
  let a := Reg.evtStatus p
  let old := s.reg a
  let s' := s.setReg a (putBit old b true)
  if !bit old b && s.rb (Reg.evtEnable p) b && s.rb (Reg.evtRoute p) 5 then { s' with evtOut := s'.evtOut ++ [p] } else s'

/-- How often the error counter at `a` has counted at the present instant (R41). -/
def State.incsAt (s : State) (a : Nat) : Nat := ((s.incs.find? fun e => e.1 == a).map (·.2)).getD 0

/-- The error counter at `a` counts once more at the present instant (R41). -/
def noteInc (a : Nat) (s : State) : State :=
  { s with incs := (a, s.incsAt a + 1) :: s.incs.filter fun e => e.1 != a }

/-- A 16-bit error counter counts (R40). -/
def cntInc (p a : Nat) (s : State) : State :=
  let s := noteInc a s
  let v := s.rf a 0 16
  if v = 0xFFFF then s
  else
    let s := s.setReg a (W (v + 1))
    if v + 1 = 0xFFFF then raiseBit p 1 s else s

/-- Is a page selected for the trace (R439)? -/
def traceSel (p : Nat) (s : State) : Bool :=
  p != 0x70 && p != 0x7F && (s.rb Reg.DEBUG_TRACE_CTRL 15 || s.rf Reg.DEBUG_TRACE_CTRL 8 7 == p)

/-- Post one 16-byte trace record, or discard it with TRACEFULL (R439). -/
def tracePut (page kind path bitNo addr data : Nat) (s : State) : State :=
  let size := s.rf Reg.DEBUG_TRACE_SIZE 0 16 * 65536
  let w := (s.reg Reg.DEBUG_TRACE_WPTR).toNat
  let r := (s.reg Reg.DEBUG_TRACE_RPTR).toNat
  let used := (((w : Int) - r) % (size : Int)).toNat
  if used + 1024 + 16 ≤ size then
    let rec_ := leBytes 4 s.timeNs ++ leBytes 1 page ++ leBytes 1 kind ++ leBytes 1 path ++ leBytes 1 bitNo ++
      leBytes 4 addr ++ leBytes 4 data
    (s.dramWrite (s.rf Reg.DEBUG_TRACE_BASE 0 18 * 65536 + w) rec_).setReg Reg.DEBUG_TRACE_WPTR (W ((w + 16) % size))
  else cntInc 0x7F Reg.DEBUG_TRACE_LOST (raiseBit 0x7F 8 s)

/-- The trace runs (R439). -/
def traceOn (s : State) (item : Nat) : Bool := s.enabled 0x7F && s.rb Reg.DEBUG_TRACE_CTRL 0 && s.rb Reg.DEBUG_TRACE_CTRL item

/-- An event occurs on a page: its EVT_STATUS bit is set whatever EVT_ENABLE holds (R36), and the trace records a bit that
becomes 1 (R439). -/
def raise (p b : Nat) (s : State) : State :=
  if s.released p then
    let was := s.rb (Reg.evtStatus p) b
    let s := raiseBit p b s
    if !was && traceOn s 1 && traceSel p s then tracePut p 0 0xFF b (s.reg (Reg.evtStatus p)).toNat 0 s else s
  else s

/-- CONFIG: a write or commit is refused as invalid (R35). -/
def config (p : Nat) (s : State) : State := raise p 0 s

/-- An error counter of the block counts, CNT_SAT as it saturates (R40). -/
def count (p a : Nat) (s : State) : State :=
  let s := noteInc a s
  let v := s.rf a 0 16
  if v = 0xFFFF then s
  else
    let s := s.setReg a (W (v + 1))
    if v + 1 = 0xFFFF then raise p 1 s else s

/-- A word is written to an error counter: the counts of the same instant are added to it (R40, R41). Only counting raises
CNT_SAT: a written 0xFFFF raises nothing, and written counts that the instant's counting takes to 0xFFFF do (log entry 85). -/
def countSet (p a v : Nat) (s : State) : State :=
  let n := s.incsAt a
  let s := s.setReg a (W (min 0xFFFF (v + n)))
  if v < 0xFFFF ∧ 0xFFFF ≤ v + n then raise p 1 s else s

/-- ERR_COUNTk of a page counts (R40). -/
def errInc (p k : Nat) (s : State) : State := count p (Reg.errCount p k) s

/-- An error counter of the block counts `n` (R40). -/
def countN (p a n : Nat) (s : State) : State :=
  if n = 0 then s
  else
    let s := { s with incs := (a, s.incsAt a + n) :: s.incs.filter fun e => e.1 != a }
    let v := s.rf a 0 16
    if v = 0xFFFF then s
    else
      let s := s.setReg a (W (min 0xFFFF (v + n)))
      if 0xFFFF ≤ v + n then raise p 1 s else s

/-- A counter in a 16-bit half of a register counts (R40). -/
def countHalf (p a lo : Nat) (s : State) : State :=
  let v := s.rf a lo 16
  if v = 0xFFFF then s
  else
    let s := s.setF a lo 16 (v + 1)
    if v + 1 = 0xFFFF then raise p 1 s else s

/-- A 32-bit statistics counter counts `n` (R40). -/
def stat (p a n : Nat) (s : State) : State :=
  let v := (s.reg a).toNat + n
  let s := s.setReg a (W v)
  if v < 2 ^ 32 then s else raise p 2 s

/-- A 48-bit statistics counter counts `n` (R40, R42). -/
def stat48 (p a n : Nat) (s : State) : State :=
  let v := (s.reg a).toNat + 2 ^ 32 * s.rf (a + 4) 0 16 + n
  let s := (s.setReg a (W v)).setReg (a + 4) (W (v / 2 ^ 32 % 2 ^ 16))
  if v < 2 ^ 48 then s else raise p 2 s

/-- PAGE_STATUS.FAULT of a released page follows its fault condition `held`: it becomes 1 with the FAULT event, and 0 once the
condition has gone and EVT_STATUS.FAULT is clear (R34, R35). -/
def faultShow (p : Nat) (held : Bool) (s : State) : State :=
  let shown := s.rb (Reg.pageStatus p) 3
  if !s.released p then s
  else if held && !shown then raise p 5 (s.setB (Reg.pageStatus p) 3 true)
  else if !held && shown && !s.rb (Reg.evtStatus p) 5 then s.setB (Reg.pageStatus p) 3 false
  else s

/-! ## Commands (R46, R47) -/

/-- STATE of a command status register. -/
def State.cmdState (s : State) (a : Nat) : Nat := s.rf a 0 3

/-- A command is BUSY. -/
def State.cmdBusy (s : State) (a : Nat) : Bool := s.cmdState a == 1

/-- A command status word: STATE, CODE and progress (R46). -/
def cmdWord (st code prog : Nat) : Word := W (st + code * 256 + prog * 65536)

/-- A command starts: BUSY, before its commit point. -/
def cmdStart (a : Nat) (s : State) : State :=
  { s.setReg a (cmdWord 1 0 0) with committed := s.committed.filter (· != a) }

/-- A command leaves BUSY with a final state (R46), CMDDONE. -/
def cmdEnd (p a st code prog : Nat) (s : State) : State := raise p 4 (s.setReg a (cmdWord st code prog))

/-- A command ends DONE. -/
def cmdDone (p a : Nat) (s : State) : State := cmdEnd p a 2 0 0 s

/-- A command ends ERROR with a code. -/
def cmdError (p a code : Nat) (s : State) : State := cmdEnd p a 4 code 0 s

/-- A command written: refused while BUSY (R46), else handed to `f`. -/
def cmdIssue (p a : Nat) (f : State → State) (s : State) : State := if s.cmdBusy a then config p s else f s

/-- A command written to a page: refused while BUSY, ERROR 0x06 while the page is disabled or quiesced (R46), else `f`. -/
def cmdGate (p a : Nat) (f : State → State) (s : State) : State :=
  cmdIssue p a (fun s => if s.running p then f s else cmdError p a 6 s) s

/-- A command that acts on tables and set-up, which a page takes while it is disabled (R32, R418, R443; log entry 7): refused
while BUSY, ERROR 0x06 while the page is quiesced (R46), else `f`. -/
def cmdGateSet (p a : Nat) (f : State → State) (s : State) : State :=
  cmdIssue p a (fun s => if s.released p && !s.quiescing p then f s else cmdError p a 6 s) s

/-- A command is before its commit point and is aborted (R47). -/
def cmdAbort (p a : Nat) (s : State) : State := if s.cmdBusy a then cmdEnd p a 3 0 0 s else s

/-- An ABORT reaches a command whose commit point lies at an instant the spec does not give: the command ends ABORTED by `f`, or it
is past its commit point, and stays so (R47, log entry 59). -/
def abortFree (a : Nat) (f : State → State) (s : State) : State :=
  if !s.cmdBusy a ∨ a ∈ s.committed then s
  else
    let x : Bool × State := (Config.freeBool s.freeIdx, { s with freeIdx := s.freeIdx + 1 })
    if x.1 then f x.2 else { x.2 with committed := a :: x.2.committed }

/-! ## Free values -/

/-- Take a free truth value. -/
def State.freeB (s : State) : Bool × State := (Config.freeBool s.freeIdx, { s with freeIdx := s.freeIdx + 1 })

/-- Take a free word. -/
def State.freeW (s : State) : Word × State := (Config.freeWord s.freeIdx, { s with freeIdx := s.freeIdx + 1 })

/-- Of runs of passing positions, each with its first position and its length, the widest; which of several of the same length is free
(R262, R307; log entry 86). -/
def widestRun (runs : List (Nat × Nat)) (s : State) : Option (Nat × Nat) × State :=
  let w := (runs.map (·.2)).foldl max 0
  match runs.filter fun r => r.2 == w with
  | [] => (none, s)
  | [r] => (some r, s)
  | l =>
    let f := s.freeW
    (some (at' (0, 0) l (f.1.toNat % l.length)), f.2)

/-- Drive something out of the chip. -/
def emit (o : Out) (s : State) : State := { s with sent := o :: s.sent }

/-! ## Latches of the access paths (R42) -/

/-- The access state of a path. -/
def State.path (s : State) : Path → PathSt
  | .qspi => s.pQspi
  | .chain => s.pChain
  | .udp => s.pUdp
  | .svc => s.pSvc

/-- Replace the access state of a path. -/
def State.setPath (s : State) (p : Path) (x : PathSt) : State :=
  match p with
  | .qspi => { s with pQspi := x }
  | .chain => { s with pChain := x }
  | .udp => { s with pUdp := x }
  | .svc => { s with pSvc := x }

/-- The default of the latch of a page: nothing latched. -/
def noLatch (_ : Nat) : Word := 0

/-- The default of a latch map: nothing latched. -/
def noLatchO (_ : Nat) : Option Word := none

/-- A read of a wide counter's low word latches its upper part for the path (R42). -/
def latchHi (p : Path) (a : Nat) (hi : Word) (s : State) : State :=
  let x := s.path p
  s.setPath p { x with latch := mset noLatchO a (some hi) x.latch, pageLatch := mset noLatch (a / 4096) hi x.pageLatch }

/-- What a read of the upper word of the counter whose low word is at `a` returns on a path (R42): the latch of its own low
word where that path has read it, else the last latch of the page. That another counter's low word read in between leaves the latch as it
is is the model's choice: R42 can also be read as one latch for the path (log entry 9). -/
def latchedHi (p : Path) (a : Nat) (s : State) : Word :=
  let x := s.path p
  (mget noLatchO x.latch a).getD (mget noLatch x.pageLatch (a / 4096))

/-- Take a snapshot of a register for a path. -/
def snapPut (p : Path) (a : Nat) (w : Word) (s : State) : State :=
  let x := s.path p
  s.setPath p { x with snap := mset resetWord a w x.snap }

/-- The snapshot of a register on a path; before the path's first latching read it is the register's reset value (R9; log entry 9). -/
def snapGet (p : Path) (a : Nat) (s : State) : Word := mget resetWord (s.path p).snap a

end Sys2Proof.Machine
end

