-- ==== Sys2Proof/Machine/DramOps.lean ====
section
/-! DEFINITION. The DRAM controller: ports, classes, token buckets, refresh and training (R293 to R312). -/
namespace Sys2Proof.Machine

/-- DRAM_STATUS.READY. -/
def dramReady (s : State) : Bool := s.rb Reg.DRAM_STATUS 0

/-- Class of a port (R297). -/
def portClass (p : Nat) : Nat := at' 3 [0, 0, 1, 1, 2, 2, 2, 3, 3, 3, 3, 3] p

/-- Largest request of a port in bytes (R297). -/
def portMax (p : Nat) : Nat := at' 64 [512, 2048, 2048, 4096, 4096, 4096, 1024, 256, 4096, 4096, 64, 1024] p

/-- RATE and BURST of a port. -/
def qosRate (p : Nat) (s : State) : Nat := s.rf (Reg.DRAMQOS_REG p) 0 12
def qosBurst (p : Nat) (s : State) : Nat := s.rf (Reg.DRAMQOS_REG p) 16 12

/-- Tokens of a port in 1/1,000 byte. -/
def tokensOf (p : Nat) (s : State) : Int := tget 0 s.dramc.tokens p

/-- Set a port's tokens, held to its burst. -/
def setTokens (p : Nat) (v : Int) (s : State) : State :=
  let top : Int := (qosBurst p s * 64000 : Nat)
  { s with dramc := { s.dramc with tokens := tset 0 s.dramc.tokens p (clampI (-top) top v) } }

/-- Tokens a request arriving now is judged by: at the instant of a DRAMQOS_REG write the old setting counts (R300). -/
def tokensJudged (p : Nat) (s : State) : Int :=
  match s.dramc.oldQos.find? fun e => e.1 == p with
  | some (_, t, v) => if t = s.now then v else tokensOf p s
  | none => tokensOf p s

/-- A request takes its tokens. -/
def takeTokens (p : Nat) (size : Int) (s : State) : State :=
  let s := setTokens p (tokensOf p s - size) s
  { s with dramc := { s.dramc with oldQos := s.dramc.oldQos.map fun e => if e.1 = p then (p, (e.2.1, e.2.2 - size)) else e } }

/-- A request enters its port queue and is judged by its regulator (R300). -/
def dramEnter (p : Nat) (write : Bool) (a n : Nat) (s : State) : State :=
  let left := (List.range ((a + n - 1) / 64 + 1 - a / 64)).map fun i => a / 64 + i
  let size : Int := (n * 1000 : Nat)
  let r : DReq := ⟨s.dramc.nextId, p, write, a, n, s.now, left, 0, false, false, false⟩
  let add := fun (held : Bool) (s : State) =>
    { s with dramc := { s.dramc with queue := s.dramc.queue ++ [{ r with held := held }], nextId := s.dramc.nextId + 1 } }
  let had := tokensJudged p s
  if portClass p = 0 then
    let s := takeTokens p size s
    let s := if had - size < 0 then raise 0x4A 8 (errInc 0x4A 0 (stat 0x4A (Reg.DRAMQOS_OVER p) 1 s)) else s
    add false s
  else if size ≤ had then add false (takeTokens p size s)
  else add true (stat 0x4A (Reg.DRAMQOS_HELD p) 1 s)

/-- A request reaches its port: one at or above DRAM_SIZE ends with ADDRESS (R294), any other enters the port queue. -/
def portTake (x : FabReq) (s : State) : State :=
  let ok := dramFits x.addr x.bytes s
  let s := { s with dramc := { s.dramc with status := tset 0 s.dramc.status x.port (if ok then 0 else 1) } }
  if ok then dramEnter x.port x.write x.addr x.bytes s else s

/-- A transfer of `n` bytes at `a` for port `p` enters the fabric in requests of at most the port's largest size (R62, R297). The ports take
them at once, or as READY rises (R308; log entry 93). -/
def dramReq (p : Nat) (write : Bool) (a n : Nat) (s : State) : State :=
  let m := portMax p
  each (List.range ((n + m - 1) / m)) (fun i s =>
    let x : FabReq := ⟨s.now, false, p, write, a + i * m, min m (n - i * m)⟩
    if dramReady s then portTake x s else { s with fab := s.fab ++ [x] }) s

/-- Order of a fabric request at a merge point (R21): class 0, the promoted, then classes 1 to 3. -/
def fabLevel (x : FabReq) : Nat :=
  if portClass x.port = 0 then 0 else if x.promoted then 1 else 1 + portClass x.port

/-- The ports take the waiting requests, by level and oldest first (R21, R62). -/
def fabDrain (s : State) : State :=
  each ((List.range 5).flatMap fun l => s.fab.filter fun x => fabLevel x == l) portTake { s with fab := [] }

/-- FAB_PROMOTE: of the requests of class `c` at least `age` 64 ns steps old, those whose age has reached the class limit move to the head of classes 1 to 3
(R21, R63). -/
def fabPromote (c age : Nat) (s : State) : State :=
  let old := fun (x : FabReq) => portClass x.port == c && !x.promoted && decide (max age (s.rf Reg.FAB_AGE_LIMIT (8 * (c - 1)) 8) ≤ (s.now - x.at_) / 64)
  stat 4 (Reg.FAB_PROMO c) (s.fab.filter old).length
    { s with fab := s.fab.map fun x => if old x then { x with promoted := true } else x }

/-- Channel of a 64-byte block (R294). -/
def blockCh (b : Nat) : Nat := b / 4 % 4

/-- Level of a request in R298's order; none while its regulator holds it and another eligible request waits. -/
def reqLevel (r : DReq) (s : State) : Nat :=
  if portClass r.port = 0 then 0
  else if r.excess then 5
  else if r.held then (if s.rb (Reg.DRAMQOS_REG r.port) 12 then 5 else 9)
  else if r.promoted then 1
  else 1 + portClass r.port

/-- Rank of a 64-byte block: with one rank 0; with two the placement within a channel is internal (R294), so it is free (log entry 94). -/
def blockRank (b : Nat) (s : State) : Nat := if s.rb Reg.DRAM_CTRL 8 then (Config.blockRank b).toNat else 0

/-- A refresh keeps a channel-rank busy (R303). -/
def rankBusy (k : Nat) (s : State) : Bool := decide (s.now < tget 0 s.dramc.refBusy k)

/-- A block of `r` may be issued on a channel: it is the channel's, its rank is not being refreshed, and no request that arrived earlier has
the same block still to issue (R297, R299). -/
def blockFree (ch : Nat) (r : DReq) (b : Nat) (s : State) : Bool :=
  blockCh b == ch && !rankBusy (2 * ch + blockRank b s) s &&
    !((s.dramc.queue.takeWhile fun q => q.id != r.id).any fun q => q.left.contains b)

/-- A channel with no block in progress picks its next one (R298, R299, R305, R308). -/
def blockIssue (ch : Nat) (s : State) : State :=
  if !dramReady s || s.quiescing 0x48 || s.quiescing 0x49 || s.quiescing 0x4A || s.dramc.forced.any (fun k => k / 2 == ch) ||
      (s.dramc.issued.any fun b => b.ch == ch) then s
  else
    let mine := s.dramc.queue.filter fun r => (r.left.any fun b => blockFree ch r b s) && decide (reqLevel r s < 9)
    let best := mine.foldl (fun m r => min m (reqLevel r s)) 9
    match mine.find? fun r => reqLevel r s == best with
    | none => s
    | some r =>
      match r.left.find? fun b => blockFree ch r b s with
      | none => s
      | some b =>
        let whole := decide (r.addr ≤ 64 * b) && decide (64 * b + 64 ≤ r.addr + r.bytes)
        { s with dramc := { s.dramc with
            queue := s.dramc.queue.map fun q => if q.id = r.id then
              { q with left := q.left.erase b, out := q.out + 1, excess := q.excess || q.held } else q,
            issued := s.dramc.issued ++ [⟨ch, r.id, r.port, b, r.write, whole⟩] } }

/-- A fire-class request has been served after `ns` (R75). -/
def c0Served (ns : Nat) (s : State) : State :=
  let s := if s.rf Reg.FAB_C0_LAT_MAX 0 16 < ns then s.setReg Reg.FAB_C0_LAT_MAX (W (min ns 0xFFFF)) else s
  if 1600 < ns then errInc 0x04 0 (raise 0x04 8 s) else s

/-- What the ECC check of a block finds: a block stored with the uncorrectable pattern reports it at every read (R295). -/
def eccOf (b : Nat) (ecc : Ecc) (s : State) : Ecc := if b ∈ s.badBlocks then .bad else ecc

/-- Corrected words count (R295). -/
def eccCorrected (n : Nat) (s : State) : State := countN 0x48 (Reg.errCount 0x48 0) n s

/-- A read block has been ECC-checked (R295); an uncorrectable word asks for a reading of MR4 (R306). -/
def eccRead (port b : Nat) (ecc : Ecc) (s : State) : State :=
  if !s.rb Reg.DRAM_CTRL 2 then s
  else match eccOf b ecc s with
  | .clean => s
  | .corrected n => dramReq 10 true (64 * b) 64 (eccCorrected n s)
  | .bad =>
    let s := { s with badBlocks := if b ∈ s.badBlocks then s.badBlocks else b :: s.badBlocks, dramc := { s.dramc with mr4Want := true } }
    let s := errInc 0x48 1 (raise 0x48 8 s)
    s.setReg Reg.DRAM_ECC_ADDR (W (b % 2 ^ 28 + 2 ^ 28 * port))

/-- A partial write has read its block first (R295): corrected words count, and over an uncorrectable word the block is stored with the
uncorrectable pattern. -/
def eccMerge (b : Nat) (ecc : Ecc) (s : State) : State :=
  if !s.rb Reg.DRAM_CTRL 2 then s
  else match eccOf b ecc s with
  | .clean => s
  | .corrected n => eccCorrected n s
  | .bad => errInc 0x48 1 { s with badBlocks := if b ∈ s.badBlocks then s.badBlocks else b :: s.badBlocks }

/-- Of port `p`'s requests those that are complete leave, read data in issue order (R297): behind a read that is not complete (`wait`) a
later one stays. -/
def portReturn (p : Nat) (wait : Bool) : List DReq → State → State
  | [], s => s
  | r :: t, s =>
    if r.port ≠ p ∨ (wait && !r.write) then portReturn p wait t s
    else if r.left.isEmpty && r.out == 0 then
      let s := { s with dramc := { s.dramc with queue := s.dramc.queue.filter fun q => q.id != r.id } }
      portReturn p wait t (if portClass p = 0 then c0Served (s.now - r.at_) s else s)
    else portReturn p (wait || !r.write) t s

/-- The oldest issued block of a channel completes (R295, R297). -/
def blockDone (ch : Nat) (ecc : Ecc) (s : State) : State :=
  match s.dramc.issued.find? fun b => b.ch == ch with
  | none => s
  | some b =>
    let s := { s with dramc := { s.dramc with
      issued := s.dramc.issued.erase b
      queue := s.dramc.queue.map fun q => if q.id = b.id then { q with out := q.out - 1 } else q } }
    let s := stat 0x4A (Reg.DRAMQOS_BYTES b.port) 1 (stat48 0x48 (if b.write then Reg.DRAM_WR else Reg.DRAM_RD) 64 s)
    let s := if !b.write then eccRead b.port b.block ecc s else if b.whole then s else eccMerge b.block ecc s
    portReturn b.port false s.dramc.queue s

/-- Every 64 ns tokens accrue, and held requests that they cover become eligible, but for one served in excess (R300). -/
def tokenAccrue (s : State) : State :=
  let n := (s.now - s.dramc.tokAt) / 64
  if n = 0 then s
  else
    let s := { s with dramc := { s.dramc with tokAt := s.dramc.tokAt + 64 * n } }
    let s := each (List.range 12) (fun p s => setTokens p (tokensOf p s + ((n * qosRate p s * 1024 : Nat) : Int)) s) s
    each s.dramc.queue (fun r s =>
      let size : Int := (r.bytes * 1000 : Nat)
      if r.held && !r.excess && decide (size ≤ tokensOf r.port s) then
        let s := setTokens r.port (tokensOf r.port s - size) s
        { s with dramc := { s.dramc with queue := s.dramc.queue.map fun q => if q.id = r.id then { q with held := false } else q } }
      else s) s

/-- Eligible requests of class 1 to 3 that have reached their age limit are promoted (R298). -/
def dramPromote (s : State) : State :=
  each s.dramc.queue (fun r s =>
    let c := portClass r.port
    if c != 0 && !r.held && !r.promoted && !r.left.isEmpty &&
        decide (s.rf Reg.DRAMQOS_AGE (8 * (c - 1)) 8 ≤ (s.now - r.at_) / 64) then
      stat 0x4A (Reg.DRAMQOS_PROMO c) 1 { s with dramc := { s.dramc with
        queue := s.dramc.queue.map fun q => if q.id = r.id then { q with promoted := true } else q } }
    else s) s

/-- DRAMQOS_CAP (R301). -/
def qosCap (s : State) : Nat := at' 2375 [1187, 1583, 2041, 2375] (s.rf Reg.DRAM_CTRL 0 2)

/-- DRAMQOS_RESV for given rates (R301). -/
def qosResv (rate : Nat → Nat) : Nat := (9 * ((List.range 12).map rate).foldl (· + ·) 0 + 7) / 8

/-- DRAMQOS_DEMAND (R302). -/
def qosDemand (s : State) : Nat :=
  let t := s.lf Reg.FIRE_MIN_PERIOD 0 16 * 16000000
  (s.rf Reg.MAP_LINE_BYTES 0 16 * 1000000000 + t - 1) / max 1 t

/-- RESERVE_OK (R302). -/
def reserveOk (s : State) : Bool := decide (qosDemand s ≤ qosRate 0 s) && decide (qosDemand s ≤ qosRate 1 s)

/-- A write of DRAMQOS_REG (R300, R301). -/
def qosWrite (p : Nat) (w : Word) (s : State) : State :=
  let w := w &&& 0x0FFF1FFF
  let rate := fun q => if q = p then fld w 0 12 else qosRate q s
  let up := decide (qosRate p s < fld w 0 12)
  if fld w 16 12 * 64 < portMax p ∨ (up ∧ qosCap s < qosResv rate) then config 0x4A s
  else
    let s := { s with dramc := { s.dramc with
      oldQos := (p, (s.now, tokensJudged p s)) :: s.dramc.oldQos.filter fun e => e.1 != p } }
    let s := s.setReg (Reg.DRAMQOS_REG p) w
    setTokens p (tokensOf p s) s

/-! ## Refresh (R303 to R306) -/

/-- A class 0 request is queued on a channel. -/
def c0Queued (ch : Nat) (s : State) : Bool :=
  s.dramc.queue.any fun r => portClass r.port == 0 && r.left.any fun b => blockCh b == ch

/-- A class 0 request is queued or in progress on a channel. -/
def c0OnCh (ch : Nat) (s : State) : Bool := c0Queued ch s || s.dramc.issued.any fun b => b.ch == ch && portClass b.port == 0

/-- DRAM_REF_CNT of a channel-rank. -/
def refCnt (k : Nat) (s : State) : Nat := s.rf Reg.DRAM_REF_CNT (4 * k) 4

/-- tREFI of a channel in ps: 3.906 µs, halved or quartered by its refresh code (R303, R306). -/
def refiPs (ch : Nat) (s : State) : Nat :=
  let code := s.rf Reg.DRAM_TEMP (4 * ch) 4
  3906000 / (if code = 0 then 1 else if code = 1 then 2 else 4)

/-- tRFCab in ns: JESD209-5B's value for the density (R293, R303; log entry 94). -/
def rfcNs (s : State) : Nat := at' 280 [180, 210, 280, 280] (s.rf Reg.DRAM_CTRL 12 2)

/-- A refresh is issued: its rank is busy for tRFCab (R303). -/
def refreshIssue (k : Nat) (s : State) : State :=
  { s with dramc := { s.dramc with refBusy := tset 0 s.dramc.refBusy k (s.now + rfcNs s) } }

/-- A refresh of a channel-rank falls due, tREFI after the one before (R303, R305). -/
def refreshDue (k : Nat) (s : State) : State :=
  if k % 2 = 1 ∧ !s.rb Reg.DRAM_CTRL 8 then s
  else if (tget none s.dramc.refAt k).any fun t => decide ((s.now - t) * 1000 < refiPs (k / 2) s) then s
  else
    let s := { s with dramc := { s.dramc with refAt := tset none s.dramc.refAt k (some s.now) } }
    if k ∈ s.dramc.forced then s.setF Reg.DRAM_REF_CNT (4 * k) 4 (min 15 (refCnt k s + 1))
    else if c0OnCh (k / 2) s && decide (refCnt k s < s.rf Reg.DRAM_REF 0 4) then
      let s := s.setF Reg.DRAM_REF_CNT (4 * k) 4 (refCnt k s + 1)
      if s.rf Reg.DRAM_REF 0 4 ≤ refCnt k s then
        errInc 0x48 2 (raise 0x48 9 { s with dramc := { s.dramc with forced := k :: s.dramc.forced } })
      else s
    else refreshIssue k s

/-- A postponed refresh is made up, or one of a forced burst is done, as the rank is free of the refresh before (R304, R305). -/
def refreshMakeup (k : Nat) (s : State) : State :=
  if rankBusy k s then s
  else if k ∈ s.dramc.forced then
    let s := refreshIssue k (s.setF Reg.DRAM_REF_CNT (4 * k) 4 (refCnt k s - 1))
    if refCnt k s = 0 then { s with dramc := { s.dramc with forced := s.dramc.forced.filter (· != k) } } else s
  else if 0 < refCnt k s ∧ !(c0Queued (k / 2) s) then
    refreshIssue k (stat 0x48 Reg.DRAM_MAKEUP 1 (s.setF Reg.DRAM_REF_CNT (4 * k) 4 (refCnt k s - 1)))
  else s

/-- The devices' refresh-rate status is read, every MR4_MS ms and after an ECCUNCORR (R306): `codes` are those of rank 0 and rank 1 of each
channel, of which the hotter counts. -/
def mr4Poll (codes : List (Nat × Nat)) (s : State) : State :=
  if !s.dramc.mr4Want && decide (s.now < s.dramc.mr4At + s.rf Reg.DRAM_REF 16 8 * 1000000) then s
  else
    (List.range 4).foldl (fun s c =>
      let x := at' (0, 0) codes c
      let new := if s.rb Reg.DRAM_CTRL 8 then max x.1 x.2 else x.1
      let old := s.rf Reg.DRAM_TEMP (4 * c) 4
      let s := s.setF Reg.DRAM_TEMP (4 * c) 4 new
      let s := if new ≠ old then raise 0x48 10 s else s
      if new = 4 then raise 0x48 11 s else s) { s with dramc := { s.dramc with mr4At := s.now, mr4Want := false } }

/-- REFRESH_OK (R306). -/
def refreshOk (s : State) : Bool := (List.range 4).all fun c => decide (s.rf Reg.DRAM_TEMP (4 * c) 4 ≤ 1)

/-- The runs of passing taps of a read-delay sweep: first tap and length (R307). -/
def tapRuns (pass : List Bool) : List (Nat × Nat) :=
  ((List.range pass.length).filter fun i => at' false pass i && (i == 0 || !at' false pass (i - 1))).map fun i =>
    (i, ((pass.drop i).takeWhile id).length)

/-- A byte lane has an estimate of its read eye, in half taps, and the width of its run (R239, R307). -/
def rdEyeTake (i : Nat) (mid : Option Nat) (width : Nat) (s : State) : State :=
  let x := { tget Reset.eye s.dramc.eyes i with at_ := s.now, width := width }
  let tol := s.rf Reg.DRAM_EYE_CFG 16 4
  let agree := match mid, x.prev with
    | some m, some q => decide (max m q - min m q ≤ 2 * tol)
    | _, _ => false
  let x' : RdEye :=
    if agree then
      let t := mid.getD 0 + x.prev.getD 0
      { x with delay := if 4 * x.delay < t then x.delay + 1 else if t < 4 * x.delay then x.delay - 1 else x.delay, prev := mid, fail := 0 }
    else { x with fail := x.fail + 1, prev := if mid.isSome then mid else x.prev }
  let s := { s with dramc := { s.dramc with eyes := tset Reset.eye s.dramc.eyes i x' } }
  if !agree ∧ x'.fail = 16 then errInc 0x48 3 (raise 0x48 12 s) else s

/-- A byte lane sweeps its read eye, every DRAM_EYE_CFG.PERIOD µs: the estimate is the midpoint of the widest run of passing taps (R307). -/
def rdEyeSweep (i : Nat) (pass : List Bool) (s : State) : State :=
  if s.now < (tget Reset.eye s.dramc.eyes i).at_ + s.rf Reg.DRAM_EYE_CFG 0 10 * 1000 then s
  else
    let r := widestRun (tapRuns pass) s
    match r.1 with
    | some x => rdEyeTake i (some (2 * x.1 + x.2 - 1)) x.2 r.2
    | none => rdEyeTake i none 0 r.2

/-- DRAM_EYE(k) as it stands (R307, R310). -/
def dramEyeWord (k : Nat) (s : State) : Word :=
  let a := tget Reset.eye s.dramc.eyes (2 * k)
  let b := tget Reset.eye s.dramc.eyes (2 * k + 1)
  let ok := fun (x : RdEye) => x.on && decide (x.fail < 16)
  W (a.delay + 128 * (ok a).toNat + 256 * b.delay + 32768 * (ok b).toNat + 65536 * a.width + 16777216 * b.width)

/-! ## Training (R308, R309) -/

/-- Payload MiB of the configured layout (R293, R295). -/
def payloadMiB (s : State) : Nat :=
  let gb := at' 4 [4, 8, 12, 16] (s.rf Reg.DRAM_CTRL 12 2)
  let pop := gb * 128 * 4 * (1 + s.rf Reg.DRAM_CTRL 8 1)
  if s.rb Reg.DRAM_CTRL 2 then pop * 7 / 8 else pop

/-- FINISH (R308): DRAM_SIZE is computed, the trackers of the ranks fitted start from the trained delays, and the requests that have waited
enter their ports. -/
def dramFinish (s : State) : State :=
  let eyes := ((List.range 16).filter fun i => i / 2 % 2 == 0 || s.rb Reg.DRAM_CTRL 8).foldl (fun l i =>
    tset Reset.eye l i { Reset.eye with delay := s.rf (Reg.DRAMTRN_DLY_RD (i / 2)) (8 * (i % 2)) 7, on := true, at_ := s.now }) []
  let s := if dramReady s then s else { s with dramc := { s.dramc with eyes := eyes, scrubAt := none } }
  fabDrain (cmdDone 0x49 Reg.DRAMTRN_CMD_STATUS ((s.setReg Reg.DRAM_SIZE (W (payloadMiB s))).setB Reg.DRAM_STATUS 0 true))

/-- RETRAIN (R308). -/
def dramRetrain (s : State) : State := cmdDone 0x49 Reg.DRAMTRN_CMD_STATUS (s.setB Reg.DRAM_STATUS 0 false)

/-- MODE and TARGET of R309 go together. -/
def sweepPair (mode target : Nat) : Bool :=
  (mode == 0 && decide (target ≤ 1)) || (mode == 1 && target == 2) || (mode == 2 && target == 3) || (mode == 3 && target == 4) ||
  (mode == 4 && (target == 3 || target == 4))

/-- SWEEP (R309). -/
def dramSweep (w : Word) (s : State) : State :=
  if dramReady s then cmdError 0x49 Reg.DRAMTRN_CMD_STATUS 0x80 s
  else if !sweepPair (fld w 12 3) (fld w 8 4) || (fld w 12 3 == 4 && !s.rb Reg.DRAM_CTRL 2) then
    cmdError 0x49 Reg.DRAMTRN_CMD_STATUS 1 (config 0x49 s)
  else
    let s := { s with dramc := { s.dramc with sweep := (s.rf Reg.DRAMTRN_RANGE 0 7, s.rf Reg.DRAMTRN_RANGE 8 7) } }
    (cmdStart Reg.DRAMTRN_CMD_STATUS s).setReg Reg.DRAMTRN_CMD w

/-- SWEEP finishes its last tap (R309). -/
def dramSweepDone (map0 map1 : Nat) (s : State) : State :=
  if !s.cmdBusy Reg.DRAMTRN_CMD_STATUS then s
  else
    let first := s.dramc.sweep.1
    let last := s.dramc.sweep.2
    let target := s.rf Reg.DRAMTRN_CMD 8 4
    let cut := fun m => (m / 2 ^ first * 2 ^ first) % 2 ^ (last + 1)
    let m0 := cut map0
    let m1 := if target ≤ 1 then m0 else cut map1
    let s := each [0, 1, 2, 3] (fun w s =>
      (s.setReg (Reg.DRAMTRN_MAP 0 w) (W (m0 / 2 ^ (32 * w)))).setReg (Reg.DRAMTRN_MAP 1 w) (W (m1 / 2 ^ (32 * w)))) s
    cmdEnd 0x49 Reg.DRAMTRN_CMD_STATUS 2 0 ((last + 1 - first) % 128) (s.setReg Reg.DRAMTRN_CMD 0)

/-- The scrubber may read its next block: it reads the payload space once every HOURS (R296). -/
def scrubDue (s : State) : Bool :=
  match s.dramc.scrubAt with
  | some t => decide (s.rf Reg.DRAM_SCRUB 16 8 * 3600000000000 ≤ (s.now - t) * (dramBytes s / 64))
  | none => true

/-- The scrubber reads its next block (R296). -/
def dramScrub (ecc : Ecc) (s : State) : State :=
  if dramReady s && s.rb Reg.DRAM_CTRL 3 && scrubDue s then
    let b := s.rf Reg.DRAM_SCRUB_POS 0 28
    let next := if dramBytes s ≤ (b + 1) * 64 then 0 else b + 1
    let s := { s with dramc := { s.dramc with scrubAt := some s.now } }
    eccRead 10 b ecc (dramReq 10 false (64 * b) 64 (s.setReg Reg.DRAM_SCRUB_POS (W next)))
  else s

/-- What the trace has written to its ring since the last time enters port 11 (R297, R439). -/
def traceDrain (s : State) : State :=
  let w := (s.reg Reg.DEBUG_TRACE_WPTR).toNat
  let base := s.rf Reg.DEBUG_TRACE_BASE 0 18 * 65536
  let size := s.rf Reg.DEBUG_TRACE_SIZE 0 16 * 65536
  let t := s.dramc.traced
  if w = t then s
  else
    let s := { s with dramc := { s.dramc with traced := w } }
    if t < w then dramReq 11 true (base + t) (w - t) s
    else dramReq 11 true base w (dramReq 11 true (base + t) (size - t) s)

end Sys2Proof.Machine
end

