-- ==== Sys2Proof/Machine/Crc.lean ====
section
/-! DEFINITION. The checks of the frames and streams: CRC-32C (R87), CRC-32 (R166, R272), CRC-16 (R53) and CRC-8 (R164). -/
namespace Sys2Proof.Machine

/-- One bit of a reflected CRC. -/
def crcBitR (poly c : Nat) : Nat := if c % 2 = 1 then c / 2 ^^^ poly else c / 2

/-- One byte of a reflected CRC. -/
def crcByteR (poly c b : Nat) : Nat := Nat.repeat (crcBitR poly) 8 (c ^^^ b)

/-- A reflected CRC register after more bytes. -/
def crcRunR (poly c : Nat) (l : List Byte) : Nat := l.foldl (fun c b => crcByteR poly c b.toNat) c

/-- The CRC-32C register over more bytes (R87). -/
def crc32cRun (c : Nat) (l : List Byte) : Nat := crcRunR 0x82F63B78 c l

/-- The CRC-32C of a register value. -/
def crc32cEnd (c : Nat) : Nat := c ^^^ 0xFFFFFFFF

/-- CRC-32C (R87). -/
def crc32c (l : List Byte) : Nat := crc32cEnd (crc32cRun 0xFFFFFFFF l)

/-- CRC-32, IEEE 802.3 polynomial (R166). -/
def crc32 (l : List Byte) : Nat := crcRunR 0xEDB88320 0xFFFFFFFF l ^^^ 0xFFFFFFFF

/-- One bit of a CRC of `n` bits, most significant bit first. -/
def crcBitF (n poly c : Nat) : Nat := if 2 ^ (n - 1) ≤ c then (c * 2 % 2 ^ n) ^^^ poly else c * 2

/-- CRC-16, polynomial 0x1021, initial value 0xFFFF (R53). -/
def crc16 (l : List Byte) : Nat :=
  l.foldl (fun c b => Nat.repeat (crcBitF 16 0x1021) 8 (c ^^^ (b.toNat * 256))) 0xFFFF

/-- CRC-8, polynomial 0x07, initial value 0 (R164). -/
def crc8 (l : List Byte) : Nat := l.foldl (fun c b => Nat.repeat (crcBitF 8 0x07) 8 (c ^^^ b.toNat)) 0

/-- Adler-32 of RFC 1950. -/
def adler32 (l : List Byte) : Nat :=
  let r := l.foldl (fun (p : Nat × Nat) b => let a := (p.1 + b.toNat) % 65521; (a, (p.2 + a) % 65521)) (1, 0)
  r.2 * 65536 + r.1

end Sys2Proof.Machine
end

