-- ==== Sys2Proof/Machine/WebOps.lean ====
section
/-! DEFINITION. WEB: encoders, the speed estimator, the position source and the compare outputs (R191 to R208). -/
namespace Sys2Proof.Machine

/-- Signed difference of two positions modulo 2³² (R81). -/
def dpos (x y : Nat) : Int := sgn 32 ((x + 2 ^ 32 - y % 2 ^ 32) % 2 ^ 32)

/-- The encoder. -/
def State.enc (s : State) (e : Nat) : EncSt := if e = 0 then s.web.enc0 else s.web.enc1

/-- Replace an encoder. -/
def State.setEnc (s : State) (e : Nat) (x : EncSt) : State :=
  if e = 0 then { s with web := { s.web with enc0 := x } } else { s with web := { s.web with enc1 := x } }

/-- The time stamp of an edge accepted now (R192). -/
def encStamp (e : Nat) (s : State) : Nat := s.timeNs64 / 2 * 2 - 2 * s.rf (Reg.WEB_ENC_CFG e) 8 5

/-- `n` filter lengths of an encoder have passed since an instant: a line keeps a level at least one of them (R191, R195, R197). -/
def filtered (e n : Nat) (at_ : Option Nat) (s : State) : Bool :=
  match at_ with
  | some t => decide (t + 2 * n * s.rf (Reg.WEB_ENC_CFG e) 8 5 ≤ s.now)
  | none => true

/-- The stake may be used (R201). -/
def stakeFresh (s : State) : Bool :=
  match s.web.stake.at_ with
  | none => false
  | some t => decide (s.now - t ≤ s.rf Reg.WEB_STAKE_FRESH 0 10 * 1000) && !s.web.stake.err

/-- The position is valid (R155, R202). -/
def posValid (s : State) : Bool := s.web.src != .none_ && s.web.src != .noneS

/-- x_e of the position source (R199); a source that is lost shows where it stood. -/
def srcX (s : State) : Nat :=
  match s.web.src with
  | .enc | .none_ => s.web.enc0.cnt
  | _ => s.web.stake.xe

/-- t_e of the position source. -/
def srcT (s : State) : Int :=
  match s.web.src with
  | .enc | .none_ => s.web.enc0.te
  | _ => s.web.stake.te

/-- t_count of the position source in 1/256 ns, 0 while not valid. -/
def srcTc (s : State) : Nat :=
  match s.web.src with
  | .enc | .none_ => if s.web.enc0.valid then s.web.enc0.tCount else 0
  | _ => if s.web.stake.spd then s.web.stake.tCount else 0

/-- The source moves forward. -/
def srcFwd (s : State) : Bool :=
  match s.web.src with
  | .enc | .none_ => decide (s.web.enc0.dir = 1)
  | _ => s.web.stake.fwd

/-- The last accepted edge of the source was forward (R144). -/
def srcLastFwd (s : State) : Bool :=
  match s.web.src with
  | .enc | .none_ => s.web.enc0.lastFwd
  | _ => s.web.stake.fwd

/-- A valid forward speed from the source (R199). -/
def fwdValid (s : State) : Bool := posValid s && decide (0 < srcTc s) && srcFwd s

/-- Counts per second from a period in 1/256 ns, rounded towards zero (R198). -/
def speedOf (fwd : Bool) (tc : Nat) : Int :=
  if tc = 0 then 0 else let v : Int := (256000000000 / tc : Nat); if fwd then v else -v

/-- A raise of the compare events, counted (R205, R206). -/
def cmpEvent (b : Nat) (s : State) : State := errInc 0x1C 3 (raise 0x1C b s)

/-- Latch entry `i` of compare output `c` (R204); a VALID of 0 stops the output. -/
def cmpLatch (c i : Nat) (s : State) : State :=
  let w0 := s.reg (Reg.CMP_ENTRY c i 0)
  let w1 := s.reg (Reg.CMP_ENTRY c i 1)
  let w2 := s.reg (Reg.CMP_ENTRY c i 2)
  let w3 := s.reg (Reg.CMP_ENTRY c i 3)
  let o := tget Reset.cmp s.web.cmp c
  if bit w3 16 then
    let o := { o with on := true, entry := i, pos := w0.toNat, period := fld w1 0 24, repeats := fld w2 0 16,
                      left := fld w2 0 16, width := fld w2 16 16, delay := fld w3 0 16, wrap := bit w3 17, next := w0.toNat }
    { s with web := { s.web with cmp := tset Reset.cmp s.web.cmp c o } }
  else
    raise 0x1C 21 { s with web := { s.web with cmp := tset Reset.cmp s.web.cmp c { o with on := false, entry := i } } }

/-- The output moves on to its next target (R204). -/
def cmpAdvance (c : Nat) (s : State) : State :=
  let o := tget Reset.cmp s.web.cmp c
  if 0 < o.left ∧ 0 < o.period then
    let o := { o with next := (o.next + o.period) % 2 ^ 32, left := o.left - 1 }
    { s with web := { s.web with cmp := tset Reset.cmp s.web.cmp c o } }
  else if o.wrap then cmpLatch c (s.rf (Reg.WEB_CMP_CFG c) 8 9) s
  else if o.entry + 1 < 512 then cmpLatch c (o.entry + 1) s
  else raise 0x1C 21 { s with web := { s.web with cmp := tset Reset.cmp s.web.cmp c { o with on := false } } }

/-- Pulse width in ns, rounded up to even; 0 and 2 give 4 (R203). -/
def cmpWidth (w : Nat) : Nat := max 4 ((w + 1) / 2 * 2)

/-- The level of a compare ball (R205). -/
def cmpLevel (c : Nat) (active : Bool) (s : State) : Bool :=
  let cfg := s.reg (Reg.WEB_CMP_CFG c)
  s.enabled 0x1C && bit cfg 0 && (active != bit cfg 1)

/-- The ball of a compare output stands high where the page is enabled. -/
def cmpHigh (c : Nat) (s : State) : Bool :=
  let cfg := s.reg (Reg.WEB_CMP_CFG c)
  bit cfg 0 && ((tget Reset.cmp s.web.cmp c).active != bit cfg 1)

/-- WEB_CMP_CFG of an output has changed from `old`: the ball takes its new level (R205). -/
def cmpShow (c : Nat) (old : Word) (s : State) : State :=
  let a := (tget Reset.cmp s.web.cmp c).active
  let was := s.enabled 0x1C && bit old 0 && (a != bit old 1)
  if cmpLevel c a s == was then s else emit (.cmp c (!was)) s

/-- A hit: start, schedule or merge the pulse (R205). The immediate path starts at the accepting sample. -/
def cmpPulse (c t : Nat) (s : State) : State :=
  let o := tget Reset.cmp s.web.cmp c
  let b := if o.delay = 0 then s.timeNs64 else t + max 64 o.delay
  let e := b + cmpWidth o.width
  match o.pulse with
  | some (b0, e0) =>
    cmpEvent 20 { s with web := { s.web with cmp := tset Reset.cmp s.web.cmp c { o with pulse := some (b0, max e0 e) } } }
  | none =>
    let s := { s with web := { s.web with cmp := tset Reset.cmp s.web.cmp c { o with pulse := some (b, e), active := o.delay = 0 } } }
    if o.delay = 0 then emit (.cmp c (cmpLevel c true s)) s else s

/-- The clock of a compare output comes from ENC1 (R203). -/
def cmpOnEnc1 (c : Nat) (s : State) : Bool := s.rb (Reg.WEB_CMP_CFG c) 2

/-- A forward transition brings the position of a source to `x`: hits of the outputs that follow it (R204). The list of outputs
hit is returned so that routed camera windows open (R211). -/
def cmpHits (enc1 : Bool) (x t : Nat) (s : State) : State × List (Nat × Nat) :=
  (List.range 8).foldl (fun (p : State × List (Nat × Nat)) c =>
    let s := p.1
    let o := tget Reset.cmp s.web.cmp c
    if s.enabled 0x1C && s.rb (Reg.WEB_CMP_CFG c) 0 && o.on && (cmpOnEnc1 c s == enc1) && o.next == x then
      (cmpAdvance c (stat 0x1C (Reg.WEB_CMP_HITS c) 1 (cmpPulse c t s)), p.2 ++ [(c, o.next)])
    else p) (s, [])

/-- Hits of output `c` as the extrapolated position moves forward from `y` to `x`: the next target, the one after it and so on while they
lie between (R204, R206). -/
def cmpRun (c x t : Nat) : Nat → Nat → State × List (Nat × Nat) → State × List (Nat × Nat)
  | 0, _, r => r
  | f + 1, y, r =>
    let o := tget Reset.cmp r.1.web.cmp c
    if o.on && decide (0 < dpos o.next y) && decide (0 ≤ dpos x o.next) then
      cmpRun c x t f o.next (cmpAdvance c (stat 0x1C (Reg.WEB_CMP_HITS c) 1 (cmpPulse c t r.1)), r.2 ++ [(c, o.next)])
    else r

/-- Hits judged on the extrapolated position `x` while ENC_POS comes from the stake (R206): targets that its forward motion since the last
judging has brought it to. -/
def cmpHitsTo (x t : Nat) (s : State) : State × List (Nat × Nat) :=
  let u := { s with web := { s.web with judged := some x } }
  match s.web.judged with
  | some y =>
    if dpos x y ≤ 0 then (u, [])
    else (List.range 8).foldl (fun p c =>
      if s.enabled 0x1C && s.rb (Reg.WEB_CMP_CFG c) 0 && !cmpOnEnc1 c s then cmpRun c x t (dpos x y).toNat y p else p) (u, [])
  | none => (u, [])

/-- Skip the targets of output `c` that do not lie ahead of `x`, entry by entry (R206). A list of which no target ever lies ahead is given
up after 1,024 entries (log entry 101). -/
def cmpSkipTo (c x : Nat) : Nat → State → State
  | 0, s => s
  | f + 1, s =>
    let o := tget Reset.cmp s.web.cmp c
    let behind := (dpos x o.next).toNat
    if !o.on || decide (0 < dpos o.next x) then s
    else
      let n := if o.period = 0 then o.left + 1 else behind / o.period + 1
      let skip := fun k (s : State) => countN 0x1C (Reg.errCount 0x1C 3) k (raise 0x1C 19 s)
      if 0 < o.period ∧ n ≤ o.left then
        let o := { o with next := (o.next + n * o.period) % 2 ^ 32, left := o.left - n }
        skip n { s with web := { s.web with cmp := tset Reset.cmp s.web.cmp c o } }
      else
        let gone := if o.period = 0 then 1 else o.left + 1
        let o := { o with left := 0 }
        cmpSkipTo c x f (cmpAdvance c (skip gone { s with web := { s.web with cmp := tset Reset.cmp s.web.cmp c o } }))

/-- The source position jumps to `x`: targets that no longer lie ahead are skipped (R206). -/
def cmpSkip (enc1 : Bool) (x : Nat) (s : State) : State :=
  each (List.range 8) (fun c s => if cmpOnEnc1 c s == enc1 then cmpSkipTo c x 1024 s else s) s

/-- The speed estimator after an accepted transition (R198): the encoder and whether a reversal is declared. -/
def estimate (t : Nat) (fwd : Bool) (span revTol : Nat) (x : EncSt) : EncSt × Bool :=
  let d : Int := if fwd then 1 else -1
  let cnt := wrapN 32 (x.cnt + d)
  let x := { x with cnt := cnt, te := t, edgeT := t, still := false, lastFwd := fwd }
  if !x.seen then
    ({ x with seen := true, dir := d, ext := cnt, run := 1, times := [t], valid := false, resync := false }, false)
  else if d = x.dir then
    let beyond := dpos cnt x.ext
    if (0 < d ∧ 0 < beyond) ∨ (d < 0 ∧ beyond < 0) then
      let run0 := if x.resync then 0 else x.run
      let times := ((t :: (if run0 = 0 then [] else x.times)).take 17)
      let run := min (run0 + 1) 17
      let x := { x with ext := cnt, resync := false, run := run, times := times }
      if 2 ≤ run then
        let k := min (run - 1) span
        let tk := at' t times k
        ({ x with tCount := ((t - tk) * 256 * 2 + k) / (2 * k), valid := true }, false)
      else (x, false)
    else (x, false)
  else if (revTol : Int) < (dpos cnt x.ext).natAbs then
    ({ x with dir := d, ext := cnt, run := 1, times := [t], valid := false }, true)
  else ({ x with valid := false, resync := true }, false)

/-- The count jumps to `v` (R198). -/
def encJump (v t : Nat) (x : EncSt) : EncSt :=
  { x with cnt := v, ext := v, te := t, resync := false, run := 0, times := [], valid := false }

/-- The direction of a transition of line A or B (R192). -/
def quadFwd (x : EncSt) (lineB invert : Bool) : Bool :=
  let a' := if lineB then x.a else !x.a
  let b' := if lineB then !x.b else x.b
  -- forward: (A, B) steps 00, 10, 11, 01, 00
  let f := if lineB then (b' == x.a) else (a' != x.b)
  f != invert

/-- The line of a transition has held its level for a filter length: a shorter pulse is rejected (R191). -/
def lineOk (e : Nat) (lineB : Bool) (s : State) : Bool := filtered e 1 (if lineB then (s.enc e).bAt else (s.enc e).aAt) s

/-- An accepted transition on encoder `e` (R192, R198). -/
def encStep (e : Nat) (lineB : Bool) (s : State) : State :=
  let x := s.enc e
  let cfg := s.reg (Reg.WEB_ENC_CFG e)
  let fwd := quadFwd x lineB (bit cfg 1)
  let x := if lineB then { x with b := !x.b, bAt := some s.now } else { x with a := !x.a, aAt := some s.now }
  let r := estimate (encStamp e s) fwd (fld cfg 16 5) (s.rf Reg.WEB_REV_TOL 0 8) x
  let s := s.setEnc e r.1
  if r.2 then stat 0x1C (Reg.WEB_REVS e) 1 (raise 0x1C 11 s) else s

/-- The source changes (R202). -/
def setSrc (x : PosSrc) (chg : Bool) (s : State) : State :=
  let s := { s with web := { s.web with src := x, judged := none } }
  if chg then raise 0x1C 18 s else s

/-- ENC0 is declared faulty: the source change of R202. -/
def encFaultSrc (s : State) : State :=
  match s.web.src with
  | .enc => if s.rb Reg.WEB_CTRL 1 && stakeFresh s then setSrc .stakeFb true s else setSrc .none_ false s
  | _ => s

/-- An illegal transition on encoder `e` (R193, R194). -/
def encIllegal (e : Nat) (s : State) : State :=
  let x := s.enc e
  let t := s.now
  if !lineOk e false s || !lineOk e true s then s else
  let win := s.rf Reg.WEB_FAULT_CFG 16 16 * 1000
  let ills := (t :: x.ills).filter fun u => t - u ≤ win
  let faulty := decide (s.rf Reg.WEB_FAULT_CFG 0 8 ≤ ills.length)
  let x' := { x with a := !x.a, b := !x.b, aAt := some t, bAt := some t, valid := false, resync := true, ills := ills, faulty := x.faulty || faulty }
  let s := errInc 0x1C e (raise 0x1C 10 (s.setEnc e x'))
  if faulty && !x.faulty then
    if e = 0 then encFaultSrc (raise 0x1C 8 s) else raise 0x1C 9 s
  else s

/-- An accepted index on encoder `e` (R195, R196). -/
def encIndex (e : Nat) (s : State) : State :=
  let x := s.enc e
  let cfg := s.reg (Reg.WEB_ENC_CFG e)
  -- the line has been low, and then high, for a filter length each
  if !filtered e 2 x.iAt s then s
  else
    let x := { x with iAt := some s.now }
    let s := s.setEnc e x
    if bit cfg 2 && !(x.a && x.b) then s else
    let t := encStamp e s
    let s := ((s.setReg (Reg.WEB_DATUM e) (W x.cnt)).setReg (Reg.WEB_DATUM_T e) (W t))
    let s := raise 0x1C 13 (stat 0x1C (Reg.WEB_IDXCNT e) 1 s)
    let mode := fld cfg 3 2
    let act := mode = 1 ∨ (mode = 2 ∧ x.armed)
    if ¬ act then s
    else if e = 0 ∧ 2 ≤ s.fire.st then raise 0x1C 14 s
    else
      let v := (s.reg (Reg.WEB_IDX_LOAD e)).toNat
      let s := s.setEnc e { encJump v s.timeNs64 x with armed := if mode = 2 then false else x.armed }
      if e = 1 then cmpSkip true v s else if s.web.src = .enc then cmpSkip false v s else s

/-- The standstill test of encoder `e` (R198). -/
def encStill (e : Nat) (s : State) : State :=
  let x := s.enc e
  if x.seen && !x.still && decide (s.rf Reg.WEB_STANDSTILL 0 14 * 1000 < s.timeNs64 - x.te) then
    raise 0x1C 12 (s.setEnc e { x with valid := false, run := 0, times := [], still := true })
  else s

/-- A word of 18 bytes is taken or dropped (R200, R201). -/
def stakeWordOk (w : List Byte) (s : State) : Bool :=
  w.length == 18 && crc16 (w.take 16) == beAt w 16 2 && beAt w 0 1 == 1 && beAt w 2 1 == s.rf Reg.WEB_CTRL 8 6 &&
  (match s.web.stake.seq with
   | none => true
   | some q => let d := (beAt w 3 1 + 256 - q) % 256; 1 ≤ d && d ≤ 127)

/-- The extrapolated ENC_POS at a time, whole counts rounded to nearest (R141, R202). -/
def posAt (t : Int) (s : State) : Int :=
  let x : Int := srcX s
  if fwdValid s then x + divRound ((t - srcT s) * 256) (srcTc s) else x

/-- The source after an accepted word, or after a change of the stake's health (R202). -/
def stakeSrc (s : State) : State :=
  let ok := stakeFresh s
  match s.web.src with
  | .stakeFb => if ok then s else setSrc .none_ false s
  | .none_ => if ok && s.rb Reg.WEB_CTRL 1 then setSrc .stakeFb true s else s
  | .stake => if ok then s else setSrc .noneS false s
  | .noneS => if ok then setSrc .stake false s else s
  | .enc => s

/-- The stake age passes WEB_STAKE_FRESH (R201, R202). -/
def stakeStale (s : State) : State :=
  match s.web.stake.at_ with
  | some t =>
    if !s.web.stake.stale && decide (t + s.rf Reg.WEB_STAKE_FRESH 0 10 * 1000 < s.now) then
      stakeSrc (raise 0x1C 15 { s with web := { s.web with stake := { s.web.stake with stale := true } } })
    else s
  | none => s

/-- WEB_STAKE_FRESH has been written: the stake's age is judged by the new limit (R201, R202). -/
def stakeFreshDone (s : State) : State :=
  let k := s.web.stake
  let young := match k.at_ with
    | some t => decide (s.now ≤ t + s.rf Reg.WEB_STAKE_FRESH 0 10 * 1000)
    | none => false
  stakeStale (stakeSrc { s with web := { s.web with stake := { k with stale := k.stale && !young } } })

/-- No word has been accepted within WEB_STAKE_FRESH of a LEARN_OFS, or ENC0 is no longer healthy (R208). -/
def learnExpire (s : State) : State :=
  match s.web.stake.learn with
  | some t =>
    if s.web.enc0.faulty || decide (t + s.rf Reg.WEB_STAKE_FRESH 0 10 * 1000 < s.now) then
      cmdError 0x1C Reg.WEB_CMD_STATUS 0x80 { s with web := { s.web with stake := { s.web.stake with learn := none } } }
    else s
  | none => s

/-- A received stake word (R201, R202, R208). -/
def stakeReceive (w : List Byte) (s : State) : State :=
  if !(s.enabled 0x1C && s.rb Reg.WEB_CTRL 2) then s
  else if !stakeWordOk w s then errInc 0x1C 2 (raise 0x1C 17 s)
  else
    let fl := beAt w 1 1
    let err := fl % 2 == 1
    let pos := beAt w 4 4
    -- the difference at T_EDGE, with T_EDGE read nearest to the present TIME
    let te : Int := s.timeNs64 + dpos (beAt w 8 4) s.timeNs
    let s := learnExpire s
    let s := if !err && !s.web.enc0.faulty then
        let ofs := (s.reg Reg.WEB_STAKE_OFS).toNat
        let diff := wrapN 32 (posAt te s - ((pos + ofs : Nat) : Int))
        match s.web.stake.learn with
        | some _ =>
          let s := s.setReg Reg.WEB_STAKE_OFS (W (wrapN 32 (posAt te s - (pos : Int))))
          let s := { s with web := { s.web with stake := { s.web.stake with learn := none } } }
          cmdDone 0x1C Reg.WEB_CMD_STATUS (s.setReg Reg.WEB_STAKE_DIFF 0)
        | none => s.setReg Reg.WEB_STAKE_DIFF (W diff)
      else s
    let k := s.web.stake
    let k := { k with seq := some (beAt w 3 1), at_ := some s.now, err := err, stale := false }
    let k := if err then k else
      { k with xe := (pos + (s.reg Reg.WEB_STAKE_OFS).toNat) % 2 ^ 32, te := te, tCount := beAt w 12 4, spd := fl / 2 % 2 == 1, fwd := fl / 4 % 2 == 1 }
    let s := stat 0x1C Reg.WEB_STAKE_RX 1 { s with web := { s.web with stake := k } }
    stakeSrc (if err then raise 0x1C 16 s else s)

/-- The stake word WEB sends from ENC0 (R200, R201). -/
def stakeWord (s : State) : List Byte :=
  let x := s.web.enc0
  let fl := (if x.faulty then 1 else 0) + (if x.valid then 2 else 0) + (if x.dir = 1 then 4 else 0)
  let body := beBytes 1 1 ++ beBytes 1 fl ++ beBytes 1 (fld (s.reg 0x40040040) 0 6) ++ beBytes 1 s.web.stake.txSeq ++
    beBytes 4 x.cnt ++ beBytes 4 x.te ++ beBytes 4 (if x.valid then x.tCount else 0)
  body ++ beBytes 2 (crc16 body)

/-- ENC_RESUME (R202). -/
def encResume (s : State) : State :=
  let x := s.web.enc0
  let clr := fun (x : EncSt) => { x with faulty := false, ills := [], run := 0, times := [], valid := false }
  match s.web.src with
  | .stakeFb =>
    let v := srcX s
    let s := s.setEnc 0 (clr (encJump v s.timeNs64 x))
    cmpSkip false v (setSrc .enc true s)
  | .none_ => cmpSkip false x.cnt (setSrc .enc false (s.setEnc 0 (clr x)))
  | _ => s.setEnc 0 (clr x)

/-- WEB_STATE as it stands (R207). Once D6 is released it follows the position as R198 and R202 start it, valid and at standstill, where
R207's reset column says 0: which of the two holds then is the model's choice (log entry 41). -/
def webStateWord (s : State) : Word :=
  let src := match s.web.src with | .enc => 0 | .stakeFb => 1 | .stake => 2 | .none_ | .noneS => 3
  let fromEnc := s.web.src == .enc || s.web.src == .none_
  W (src + 4 * (posValid s).toNat + 8 * (fwdValid s).toNat +
     16 * (if fromEnc then decide (s.web.enc0.dir = -1) else s.web.stake.at_.isSome && !s.web.stake.fwd).toNat +
     32 * (if fromEnc then (s.web.enc0.still || !s.web.enc0.seen) else s.web.stake.at_.isSome && !s.web.stake.spd).toNat +
     64 * s.web.enc0.faulty.toNat + 128 * s.web.enc1.faulty.toNat + 256 * (stakeFresh s).toNat +
     512 * s.web.enc0.armed.toNat + 1024 * s.web.enc1.armed.toNat)

end Sys2Proof.Machine
end

