-- ==== Sys2Proof/Machine/DelayOps.lean ====
section
/-! DEFINITION. The delay ring: slots, tags, rod check words and row reads (R133 to R140, R447). -/
namespace Sys2Proof.Machine

/-- DELAY_RING_LINES. -/
def ringLines (s : State) : Nat := max 1 (s.rf Reg.DELAY_RING_LINES 0 17)

/-- Bytes of a screened line (R107). -/
def lineBytes (s : State) : Nat := s.rf Reg.MAP_LINE_BYTES 0 16

/-- The slot of a line (R133). -/
def slotOf (serial : Nat) (s : State) : Nat := serial % 2 ^ 32 % ringLines s

/-- DRAM address of a line's slot (R133). -/
def lineAddr (serial : Nat) (s : State) : Nat := s.rf Reg.DELAY_RING_BASE 0 18 * 65536 + slotOf serial s * lineBytes s

/-- The default of the tag map: no tag. -/
def noTag (_ : Nat) : Option Tag := none

/-- The tag of a line, if its slot holds that line (R137); an uncorrectable tag reads as a serial mismatch (R159). -/
def tagOf (serial : Nat) (s : State) : Option Tag :=
  if slotOf serial s ∈ s.delay.bad then none
  else match mget noTag s.delay.tags (slotOf serial s) with
  | some t => if t.serial = serial then some t else none
  | none => none

/-- Write a line's tag. -/
def setTag (serial : Nat) (t : Tag) (s : State) : State :=
  { s with delay := { tags := mset noTag (slotOf serial s) (some t) s.delay.tags, bad := s.delay.bad.filter (· != slotOf serial s) } }

/-- Mark a line PARTIAL (R137, R146). -/
def markPartial (serial : Nat) (s : State) : State :=
  match tagOf serial s with
  | some t => setTag serial { t with part := true } s
  | none => s

/-- Mark a line PARTIAL from telemetry: a mark after its inspection read is not made and is counted (R185). -/
def markLate (serial : Nat) (s : State) : State :=
  match tagOf serial s with
  | some t => if t.inspected then errInc 0x18 3 s else setTag serial { t with part := true } s
  | none => s

/-- Which nozzle map a line is mapped under: the live bank and MAP's COMMIT_SEQ (R222). -/
def mapStamp (s : State) : Word := W (s.rf Reg.MAP_BANK 0 1 + 2 * s.rf (Reg.shadowCtrl 0x14) 8 8)

/-- Record a line as ZERO (R137). -/
def recordZero (serial : Nat) (s : State) : State :=
  stat 0x16 Reg.DELAY_ZERO_LINES 1 (setTag serial ⟨serial, true, false, false, mapStamp s⟩ s)

/-- A rod's check word: LINE_SERIAL, most significant byte first, then its 512 level bytes (R125). -/
def rodCheck (serial : Nat) (seg : List Byte) : Nat := crc32c (beBytes 4 serial ++ seg)

/-- The 512-byte segment of rod `r`. -/
def rodSeg (l : List Byte) (r : Nat) : List Byte := (l.drop (512 * r)).take 512

/-- A segment as an upset on its way to DELAY leaves it: its first bit differs. -/
def upsetSeg : List Byte → List Byte
  | [] => []
  | b :: t => (b ^^^ 1) :: t

/-- A rod posts its segment with its check word; DELAY checks it (R139). -/
def rodPost (serial r : Nat) (sent arrived : List Byte) (s : State) : List Byte × State :=
  if rodCheck serial arrived = rodCheck serial sent then (arrived, s)
  else
    let s := errInc 0x16 0 (raise 0x16 8 s)
    let s := (s.setReg Reg.DELAY_CHK_FAIL (W r)).setReg Reg.DELAY_CHK_SERIAL (W serial)
    (List.replicate arrived.length 0, s)

/-- The line as DELAY takes it from the rods: every rod's segment checked (R126, R139). -/
def rodCollect (serial : Nat) (line : List Byte) (upset : List Nat) (s : State) : List Byte × State :=
  (List.range (line.length / 512)).foldl (fun (p : List Byte × State) r =>
    let seg := rodSeg line r
    let q := rodPost serial r seg (if r ∈ upset then upsetSeg seg else seg) p.2
    (p.1 ++ q.1, q.2)) ([], s)

/-- A line is handed to DELAY (R137 to R139, R447): `none` is a whole-line zero. -/
def ringWrite (serial : Nat) (line : Option (List Byte)) (upset : List Nat) (s : State) : State :=
  if !s.enabled 0x16 then s
  else
    let late := (tagOf serial s).isSome
    match line with
    | none => if late then s else (recordZero serial s).setReg Reg.DELAY_SERIAL (W serial)
    | some l =>
      let q := rodCollect serial l upset s
      if late then q.2
      else
        let s := q.2.dramWrite (lineAddr serial q.2) q.1
        let s := stat 0x16 Reg.DELAY_LINES 1 (setTag serial ⟨serial, false, false, false, mapStamp s⟩ s)
        s.setReg Reg.DELAY_SERIAL (W serial)

/-- IN_USE of a head, as committed (R189). -/
def headCfg (h : Nat) (s : State) : Bool := s.lb (Reg.HEADS_CFG h) 0

/-- A head in use while HLINK and HEADS run. -/
def headInUse (h : Nat) (s : State) : Bool := headCfg h s && s.enabled 0x18 && s.enabled 0x19

/-- The head numbers. -/
def heads32 : List Nat := List.range 32

/-- ROW_EN of a row, as committed. -/
def rowEn (h r : Nat) (s : State) : Bool := s.lb (Reg.DELAY_ROW h r) 16

/-- Row delay, as committed. -/
def rowDelay (h r : Nat) (s : State) : Nat := s.lf (Reg.DELAY_ROW h r) 0 13

/-- R, the number of enabled rows of a head (R134). -/
def rowCount (h : Nat) (s : State) : Nat := ((List.range 8).filter fun r => rowEn h r s).length

/-- HEADS_COUNT in force. -/
def headCount (h : Nat) (s : State) : Nat := s.lf (Reg.HEADS_COUNT h) 0 14

/-- First nozzle of a head in force. -/
def headFirst (h : Nat) (s : State) : Nat := s.lf (Reg.HEADS_RANGE h) 0 17

/-- The lines with a share in tick `k` at head `h` (R134). -/
def shares (k h : Nat) (s : State) : List Nat :=
  (List.range (rowCount h s)).filterMap fun r => if rowDelay h r s ≤ k then some (k - rowDelay h r s) else none

/-- Mark every line with a share in tick `k` at the heads `hs` PARTIAL (R146). -/
def markShares (k : Nat) (hs : List Nat) (s : State) : State :=
  each hs (fun h s => each (shares k h s) markPartial s) s

/-- The level of a nozzle in a screened line (R107). -/
def levelIn (l : List Byte) (n : Nat) : Nat := (at' 0 l (n / 4)).toNat / 4 ^ (n % 4) % 4

/-- Is serial `k` a line of a page in the sequencer? -/
def inPage (k : Nat) (s : State) : Bool :=
  s.intake.seq.any fun p => match p.serial0 with
    | some s0 => s0 ≤ k && decide (k < s0 + p.d.length)
    | none => false

/-- PAIR_CTRL.PAIR_EN. -/
def pairEn (s : State) : Bool := s.enabled 0x68 && s.rb Reg.PAIR_CTRL 0

/-- An ACTIVE unit yields for a cause enabled in YIELD_MASK (R359). -/
def yieldCause (b : Nat) (s : State) : State :=
  if pairEn s && s.rb Reg.PAIR_CTRL b && s.pair.role == 1 then { s with pair := { s.pair with yielding := true, out := false } }
  else s

/-- First byte of head `h`'s nozzles in a line of the ring, and how many bytes hold them (R107, R134). -/
def headSeg (h : Nat) (s : State) : Nat × Nat :=
  let f := headFirst h s
  (f / 4, (f + headCount h s + 3) / 4 - f / 4)

/-- The line of an idle tick is recorded as ZERO (R132, R137). -/
def idleLine (k : Nat) (s : State) : State :=
  if s.enabled 0x16 && !inPage k s && (tagOf k s).isNone then recordZero k s else s

/-- A row read of line `k` returns: its levels, and whether it met an uncorrectable error (R137, R138, R140, R447). -/
def rowFetch (k : Nat) (h r : Nat) (s : State) : (List Nat × Bool) × State :=
  let n := headCount h s
  let rr := max 1 (rowCount h s)
  let cnt := (n + rr - 1 - r) / rr
  let zeros := List.replicate cnt 0
  match tagOf k s with
  | some t =>
    if t.zero then ((zeros, false), s)
    else if !s.enabled 0x16 then ((zeros, false), errInc 0x16 2 (raise 0x16 10 (recordZero k s)))
    else
      let a := lineAddr k s
      let f := headFirst h s
      if s.dramBad (a + (headSeg h s).1) (headSeg h s).2 then ((zeros, true), yieldCause 10 (errInc 0x16 1 (raise 0x16 9 s)))
      else
        let l := s.dramRead a (lineBytes s)
        (((List.range cnt).map fun i => levelIn l (f + r + i * rr), false), s)
  | none =>
    if inPage k s || decide (slotOf k s ∈ s.delay.bad) then ((zeros, false), errInc 0x16 2 (raise 0x16 10 (recordZero k s)))
    else ((zeros, false), recordZero k s)

/-- A line is read from DRAM: its slot holds it and it is not ZERO (R137, R138). -/
def lineStored (k : Nat) (s : State) : Bool :=
  match tagOf k s with
  | some t => !t.zero
  | none => false

end Sys2Proof.Machine
end

