-- ==== Sys2Proof/Machine/HeadOps.lean ====
section
/-! DEFINITION. Head Link: the command queue of each head, FLUSH, the READY judgement and rejoins (R161 to R190, R361). -/
namespace Sys2Proof.Machine

/-- HLINK's view of a head. -/
def State.head (s : State) (h : Nat) : HeadSt := tget Reset.head s.heads h

/-- Replace it. -/
def State.setHead (s : State) (h : Nat) (x : HeadSt) : State := { s with heads := tset Reset.head s.heads h x }

/-- Lane state. -/
def State.lane (s : State) (l : Nat) : LaneSt := tget Reset.lane s.lanes l

/-- Replace a lane's state. -/
def State.setLane (s : State) (l : Nat) (x : LaneSt) : State := { s with lanes := tset Reset.lane s.lanes l x }

/-- How long role traffic of a lane still waits for the fast exit, ps; none while the transmitter is idle (R257). -/
def laneWait (l : Nat) (s : State) : Option Nat := if (s.lane l).tx then some ((s.lane l).roleAt - s.now * 1000) else none

/-- The lane of a head in force (R161). -/
def headLane (h : Nat) (s : State) : Nat := s.lf (Reg.HEADS_CFG h) 8 6

/-- A command frame may start on a head's lane: it is out of electrical idle and its fast exit, and no line frame is on it (R167,
R187, R257). -/
def cmdMayStart (h : Nat) (s : State) : Bool :=
  laneWait (headLane h s) s == some 0 && decide ((s.head h).laneFree ≤ s.timeNs64 * 1000)

/-- HLINK_CLAIM: the claim PAIR keeps (R358). -/
def claim (s : State) : Nat := s.rf Reg.PAIR_CLAIM 4 12 * 16 + s.chip.straps

/-- A frame: its body and CRC-32 (R166). -/
def frame (body : List Byte) : List Byte := body ++ beBytes 4 (crc32 body)

/-- Valid telemetry has arrived within HLINK_LOSS_TIME (R184). -/
def telOk (h : Nat) (s : State) : Bool :=
  match (s.head h).telAt with
  | some t => decide (s.now - t < s.rf Reg.HLINK_LOSS_TIME 0 7 * 1000)
  | none => false

/-- HEADS_HOLD of a head is set: no rejoin starts (R186, R190). -/
def holdSet (h : Nat) (s : State) : Bool := s.rb (Reg.HEADS_HOLD h) 0

/-- HOLD of a head, as it is in effect (R190). -/
def headHold (h : Nat) (s : State) : Bool := (s.head h).hold

/-- EDGE_SEQ is one of the last 16 edge numbers sent, or NEXT_SEQ − 1 of the last FLUSH (R184). -/
def edgeOk (x : HeadSt) : Bool :=
  ((x.edges.take 16).any fun e => e.1 == x.edgeSeq) || x.edgeSeq == (x.flushSeq + 65535) % 65536

/-- The conditions of R184, those of SHADOW in R361 set apart. -/
def readyBase (h : Nat) (s : State) : Bool :=
  let x := s.head h
  headInUse h s && !headHold h s && telOk h s && x.hstate == 2 && x.port / 8 % 2 == 1 && edgeOk x

/-- READY (R184). -/
def readyCond (h : Nat) (s : State) : Bool :=
  let x := s.head h
  readyBase h s && x.port / 2 % 2 == 1 && x.claim == claim s

/-- SHADOW (R361). -/
def shadowCond (h : Nat) (s : State) : Bool :=
  let x := s.head h
  pairEn s && readyBase h s && x.port / 2 % 2 == 0 && decide (claim s < x.claim)

/-- FIRE treats the head as ready (R184, R361). -/
def headUp (h : Nat) (s : State) : Bool := (s.head h).ready || (s.head h).shadow

/-- Rank of a source in the order of R187. -/
def srcRank : CmdSrc → Nat
  | .flush => 0 | .sub => 1 | .heater => 2 | .hcmd => 3 | .mgmt => 4

/-- Rank of a command in the order of R187: FLUSH and SAFE go first, whoever issues them. -/
def cmdRank (c : HCmd) : Nat := if c.op = 1 ∨ c.op = 2 then 0 else srcRank c.src

/-- Insert a command behind every waiting command of its rank or a lower one (R187). -/
def insertCmd (c : HCmd) (l : List HCmd) : List HCmd :=
  l.filter (fun x => cmdRank x ≤ cmdRank c) ++ c :: l.filter (fun x => cmdRank c < cmdRank x)

/-- A command ends without being sent or answered. -/
def cmdFailed (h : Nat) (c : HCmd) (code : Nat) (s : State) : State :=
  match c.src with
  | .hcmd => cmdError 0x18 Reg.HLINK_HCMD_STATUS code s
  | _ => { s with failed := s.failed ++ [(h, c, code)] }

/-- Symbol time of a rate code in ps (R161). -/
def symbolPs (rate : Nat) : Nat := at' 800 [8000, 4000, 3200, 2000, 1600, 1333, 1000, 800] rate

/-- TIME in ps at which a command frame of `n` body bytes that starts at `t` ns of TIME has sent its K29.7 (R166). -/
def cmdEnds (h n t : Nat) (s : State) : Nat := t * 1000 + (n + 6) * symbolPs (s.lf (Reg.HEADS_CFG h) 1 3)

/-- Send the next waiting command of a head, when none is in progress and its lane is free for it (R167, R171, R172, R187). -/
def pumpHead (h : Nat) : Nat → State → State
  | 0, s => s
  | f + 1, s =>
    let x := s.head h
    match x.run, x.queue with
    | some _, _ => s
    | none, [] => s
    | none, c :: q =>
      -- a quiesced HLINK starts no frame (R442)
      if s.quiescing 0x18 || s.quiescing 0x19 then s
      else if headInUse h s && telOk h s && !cmdMayStart h s then s
      else if headInUse h s && telOk h s then
        let seq := (x.cmdSeq + 1) % 256
        let params := if c.src = .flush ∧ c.op = 1 then beBytes 2 x.nextEdge else c.params
        let body := beBytes 1 2 ++ beBytes 1 seq ++ beBytes 1 c.op ++ beBytes 2 params.length ++ params
        let x := { x with queue := q, cmdSeq := seq, run := some ⟨{ c with params := params }, seq, 0, s.now⟩,
                          flushSeq := if c.op = 1 then beAt params 0 2 else x.flushSeq,
                          cmdFree := cmdEnds h body.length s.timeNs64 s }
        stat 0x18 Reg.HLINK_CMDS 1 (emit (.head h (frame body)) (s.setHead h x))
      else pumpHead h f (cmdFailed h c 0x80 (s.setHead h { x with queue := q }))

/-- Issue a command to a head. -/
def headCommand (h : Nat) (c : HCmd) (s : State) : State :=
  let x := s.head h
  pumpHead h (x.queue.length + 2) (s.setHead h { x with queue := insertCmd c x.queue })

/-- Clear the history bits of head `h` for tick `k` (R143). -/
def histClear (h k : Nat) (s : State) : State :=
  let i := s.fire.nextDec - 1 - k
  { s with fire := { s.fire with hist := modAt s.fire.hist h fun l => setAt l i [] } }

/-- Every frame head `h` still holds, and every committed edge that has not left, is given up: its lines are PARTIAL, and its
history reads as not fired (R143, R146, R183). -/
def dropFrames (h : Nat) (s : State) : State :=
  each s.fire.ticks (fun t s =>
    if t.heads.any fun x => x.h == h && x.sent then
      let s := histClear h t.serial (markShares t.serial [h] s)
      { s with fire := { s.fire with ticks := s.fire.ticks.map fun u =>
          if u.serial = t.serial then { u with heads := u.heads.filter fun x => !(x.h == h && x.sent) } else u } }
    else s) s

/-- FLUSH to a head (R149, R171). -/
def flushHead (h : Nat) (s : State) : State :=
  if headInUse h s then headCommand h ⟨.flush, 1, []⟩ (dropFrames h s) else dropFrames h s

/-- FLUSH to every head in use. -/
def flushAll (s : State) : State := each heads32 flushHead s

/-- A rejoin: FLUSH with the head's next edge number (R186). -/
def rejoin (h : Nat) (s : State) : State :=
  let s := flushHead h s
  s.setHead h { s.head h with rejoinAt := some s.now, held := false }

/-- HLINK_READY and HEADS_STATE follow the head's view (R188, R189). -/
def showHead (h : Nat) (s : State) : State :=
  let x := s.head h
  let s := s.setB Reg.HLINK_READY h (headUp h s)
  let a := Reg.HEADS_STATE h
  s.setF a 0 2 (if headUp h s then 2 else if telOk h s then 1 else 0) |>.setF a 4 4 x.hstate |>.setF a 8 4 x.port

/-- The head leaves READY (R184): HEADLOST with its causes. A port that is not synced counts no edges, so its EDGE_SEQ is no
mismatch (log entry 8). -/
def headLeaves (h : Nat) (s : State) : State :=
  let x := s.head h
  let s := s.setHead h { x with ready := false, shadow := false, telRun := 0 }
  let s := count 0x19 (Reg.HEADS_LOSTCNT h) (errInc 0x18 0 (raise 0x18 8 s))
  let s := if telOk h s && x.port / 8 % 2 == 1 && !edgeOk x then raise 0x18 11 s else s
  let s := if claim s < x.claim then raise 0x18 12 s else s
  let s := yieldCause 9 s
  showHead h s

/-- Judge a head again; only telemetry makes one READY or SHADOW, and one that HOLD has held back only after a rejoin (R184, R186,
R190, R361). -/
def judgeHead (tel : Bool) (h : Nat) (s : State) : State :=
  let x := s.head h
  let rdy := readyCond h s
  let shd := shadowCond h s
  if x.ready || x.shadow then
    if rdy then showHead h (s.setHead h { x with ready := true, shadow := false })
    else if shd then
      let s := s.setHead h { x with ready := false, shadow := true }
      showHead h (if x.ready then raise 0x18 12 s else s)
    else headLeaves h s
  else if tel && !x.held && (rdy || shd) then
    let s := s.setHead h { x with ready := rdy, shadow := !rdy && shd, rejoinAt := none }
    showHead h (if x.rejoinAt.isSome then raise 0x18 9 s else s)
  else showHead h s

/-- The head may be rejoined (R186, R361). -/
def mayRejoin (h : Nat) (s : State) : Bool :=
  let x := s.head h
  headInUse h s && !headUp h s && !holdSet h s && telOk h s && (x.claim ≤ claim s || pairEn s)

/-- AUTO_REJOIN starts a rejoin after four valid telemetry frames in a row, where none is in progress (R186). -/
def autoRejoin (h : Nat) (s : State) : State :=
  if s.rb Reg.HLINK_CTRL 0 && decide (4 ≤ (s.head h).telRun) && (s.head h).rejoinAt.isNone && mayRejoin h s then rejoin h s else s

/-- Lane rate of a rate code in Mb/s (R161). -/
def rateMbps (rate : Nat) : Nat := at' 12500 [1250, 2500, 3125, 5000, 6250, 7500, 10000, 12500] rate

/-- Payload of a line frame of `n` nozzles (R162). -/
def payloadBytes (n : Nat) : Nat := 3 * ((n + 7) / 8)

/-- The rate rule of R162 for `n` nozzles, a rate code and FIRE_MIN_PERIOD `t` ns. -/
def rateOk (n rate t : Nat) : Bool := decide (106 * (payloadBytes n + 24) * 8 * 1000 ≤ rateMbps rate * t * 80)

/-- Waveform indices packed eight to three bytes (R169). -/
def packWaves : Nat → List Nat → List Byte
  | 0, _ => []
  | g + 1, l =>
    let v := ((List.range 8).foldl (fun a m => a * 8 + at' 0 l m) 0)
    beBytes 3 v ++ packWaves g (l.drop 8)

/-- The body of a line frame (R168). -/
def lineBody (sub claim serial seq subUnit n h no : Nat) (waves : List Nat) : List Byte :=
  beBytes 1 1 ++ beBytes 1 sub ++ beBytes 2 claim ++ beBytes 4 serial ++ beBytes 2 seq ++ beBytes 2 subUnit ++ beBytes 2 n ++
    beBytes 1 h ++ beBytes 1 no ++ beBytes 2 (payloadBytes n) ++ packWaves ((n + 7) / 8) waves

end Sys2Proof.Machine
end

