-- ==== Sys2Proof/Machine/LaneOps.lean ====
section
/-! DEFINITION. Serial lanes: roles, PLLs, receiver states, Chain ports up and down (R250 to R269). -/
namespace Sys2Proof.Machine

/-- The lanes. -/
def lanes48 : List Nat := List.range 48

/-- LANEQ page of a lane. -/
abbrev lanePage (l : Nat) : Nat := 0x30 + l / 4

/-- LANE_CFG.ROLE. -/
def laneRole (l : Nat) (s : State) : Nat := s.rf (Reg.LANE_CFG l) 0 3

/-- The PLL a lane takes is locked. -/
def lanePllLock (l : Nat) (s : State) : Bool := s.rb (Reg.LANEQ_STATUS (l / 4)) (1 + s.rf (Reg.LANE_CFG l) 3 1)

/-- Rate code of a base and a divider code (R250, R161): none where it is no standard rate. -/
def rateOf (base div : Nat) : Option Nat :=
  match base, div with
  | 1, 3 => some 0
  | 1, 2 => some 1
  | 2, 2 => some 2
  | 1, 1 => some 3
  | 2, 1 => some 4
  | 0, 0 => some 5
  | 1, 0 => some 6
  | 2, 0 => some 7
  | _, _ => none

/-- Rate code a LANE_CFG word gives its lane (R250). -/
def cfgRate (l : Nat) (w : Word) (s : State) : Option Nat :=
  rateOf (s.rf (Reg.LANEQ_PLL (l / 4) (fld w 3 1)) 1 2) (fld w 4 2)

/-- Rate code of a lane. -/
def laneRate (l : Nat) (s : State) : Option Nat := cfgRate l (s.reg (Reg.LANE_CFG l)) s

/-- The head in use that names a lane. -/
def laneHead (l : Nat) (s : State) : Option Nat := heads32.find? fun h => headCfg h s && s.lf (Reg.HEADS_CFG h) 8 6 == l

/-- The lane is in use by the owner of its role (R252). -/
def laneInUse (l : Nat) (s : State) : Bool :=
  (laneHead l s).isSome || ((laneRole l s == 2 || laneRole l s == 3) && s.enabled 0x40) || (laneRole l s == 4 && s.enabled 0x41)

/-- The receiver goes to a state. -/
def setRx (l rx : Nat) (s : State) : State := s.setLane l { s.lane l with rx := rx }

/-- Lanes of a quad's trunk group. -/
def trunkLanes (q : Nat) (s : State) : List Nat := ([0, 1, 2, 3].map fun i => 4 * q + i).filter fun l => laneRole l s == 2

/-- The lanes of a Chain port code (R268). -/
def portLanes (code : Nat) (s : State) : List Nat :=
  if 1 ≤ code ∧ code ≤ 12 then trunkLanes (code - 1) s
  else if 0x10 ≤ code ∧ code ≤ 0x3F then (if laneRole (code - 0x10) s = 3 then [code - 0x10] else [])
  else []

/-- A Chain port is up (R269). -/
def portUp (code : Nat) (s : State) : Bool :=
  s.enabled 0x40 && !(portLanes code s).isEmpty && (portLanes code s).all fun l => (s.lane l).rx == 3

/-- A frame is in transmission on a lane. -/
def laneSending (l : Nat) (s : State) : Bool :=
  (match laneHead l s with
   | some h => decide (s.timeNs64 * 1000 < max (s.head h).laneFree (s.head h).cmdFree)
   | none => false) ||
  s.chain.busy.any fun c => l ∈ portLanes c s

/-- HLINK or HEADS is quiesced: its lanes are in electrical idle (R414). -/
def linkQuiesced (s : State) : Bool := s.rb (Reg.pageStatus 0x18) 1 || s.rb (Reg.pageStatus 0x19) 1

/-- The transmitter is to be out of electrical idle (R252, R257, R258, R264, R414): EI_REQ waits for the frame in transmission. -/
def txOn (l : Nat) (s : State) : Bool :=
  let ctl := s.reg (Reg.LANE_CTRL l)
  lanePllLock l s &&
  (match laneRole l s with
   | 1 => (laneHead l s).isSome && !linkQuiesced s
   | 2 | 3 => !bit ctl 0 || laneSending l s
   | 4 => s.enabled 0x41 && s.rb Reg.ETH_CTRL 0
   | 5 => !bit ctl 0 && fld ctl 1 3 != 1 && fld ctl 1 3 != 2
   | _ => false)

/-- Symbol time of a lane, ps (R250). -/
def laneSymbolPs (l : Nat) (s : State) : Nat := symbolPs ((laneRate l s).getD 7)

/-- The transmitter enters electrical idle by the entry of four symbols, or at once where its PLL has no lock (R251, R257). It leaves
it, once an entry is complete, by the fast exit: 64 symbols, SKIP for LANE_EXIT_HOLD, then role traffic (R257, R258). -/
def showTx (l : Nat) (s : State) : State :=
  let x := s.lane l
  let on := txOn l s
  let now := s.now * 1000
  let x := { x with idle := !on }
  s.setLane l (if on == x.tx then x
    else if on then
      { x with tx := true, roleAt := max now x.idleAt + 64 * laneSymbolPs l s + s.rf Reg.LANE_EXIT_HOLD 0 11 * 1000 }
    else { x with tx := false, idleAt := if lanePllLock l s then now + 4 * laneSymbolPs l s else 0 })

/-- A Chain port may start a frame: every lane is out of electrical idle, past its fast exit, and asked for no entry (R257, R258). -/
def portReady (code : Nat) (s : State) : Bool :=
  (portLanes code s).all fun l => laneWait l s == some 0 && !s.rb (Reg.LANE_CTRL l) 0

/-- A frame of `n` symbols that has just ended on a lane holds an error symbol (R256, R260). -/
def frameBroken (l n : Nat) (s : State) : Bool :=
  match (s.lane l).errAt with
  | some t => decide (s.now * 1000 < t * 1000 + n * laneSymbolPs l s)
  | none => false

/-- Post a launch stamp (R288). -/
def lqPost (st : LqStamp) (q : LqSt) : LqSt :=
  if 8 ≤ q.stamps.length then { q with lost := true } else { q with stamps := q.stamps ++ [st] }

/-- A launched frame has been dropped with its port: unless it has left or still waits on another one, its stamp carries NOTSENT (R288). -/
def launchGone (f : TxFrame) (s : State) : State :=
  match f.stamp with
  | some (_, tag, late) =>
    if s.chain.queue.any fun g => g.stamp == f.stamp then s
    else { s with chain := { s.chain with lq := lqPost ⟨tag, late, true, s.timeNs⟩ s.chain.lq } }
  | none => s

/-- LINKUP and LINKDOWN as ports come and go; frames waiting on a port that is down are dropped and counted (R269). -/
def chainLinks (s : State) : State :=
  let new := (List.range 64).filter fun c => portUp c s
  let up := new.filter fun c => !(c ∈ s.chain.up)
  let down := s.chain.up.filter fun c => !(c ∈ new)
  let gone := s.chain.queue.filter fun f => f.port ∈ down
  let s := { s with chain := { s.chain with
    up := new, busy := s.chain.busy.filter fun c => c ∈ new, queue := s.chain.queue.filter fun f => !(f.port ∈ down) } }
  let s := each gone (fun f s => launchGone f (errInc 0x40 2 s)) s
  let s := if down.isEmpty then s else raise 0x40 10 s
  if up.isEmpty then s else raise 0x40 11 s

/-- The receiver of a lane leaves LOCKED, or HUNT, without lock loss. -/
def rxSquelch (l : Nat) (s : State) : State :=
  if laneRole l s = 0 ∨ laneRole l s = 4 then s.setLane l { s.lane l with rx := 0 }
  else setRx l 1 s

/-- A lock loss (R256): both counters count. -/
def lockLoss (l rx : Nat) (s : State) : State :=
  let p := lanePage l
  let s := setRx l rx s
  chainLinks (count p (Reg.LANE_LOCKLOSS l) (errInc p 0 (raise p 9 s)))

/-- A lane's transmitter and receiver fall with its PLL (R251). -/
def pllDrop (q j : Nat) (s : State) : State :=
  let s := s.setB (Reg.LANEQ_STATUS q) (1 + j) false
  chainLinks (each [0, 1, 2, 3] (fun i s =>
    let l := 4 * q + i
    if laneRole l s != 0 && s.rf (Reg.LANE_CFG l) 3 1 == j then showTx l (rxSquelch l s) else s) s)

/-- Trunk positions of a group stand 0 to n − 1 with no gap (R252). -/
def trunkOk (pos : List Nat) : Bool := (List.range pos.length).all fun i => i ∈ pos

/-- A LANE_CFG word is legal for a lane (R250, R252). -/
def laneCfgOk (l : Nat) (w : Word) (s : State) : Bool :=
  let role := fld w 0 3
  let others := lanes48.filter (· != l)
  let q := l / 4
  !laneInUse l s && (cfgRate l w s).isSome &&
  (role != 1 || decide ((others.filter fun m => laneRole m s == 1).length < 32)) &&
  (role != 2 || (trunkOk (fld w 8 2 :: ((trunkLanes q s).filter (· != l)).map fun m => s.rf (Reg.LANE_CFG m) 8 2) &&
    ((trunkLanes q s).filter (· != l)).all fun m => s.rf (Reg.LANE_CFG m) 3 3 == fld w 3 3)) &&
  (laneRole l s != 2 || role == 2 || trunkOk (((trunkLanes q s).filter (· != l)).map fun m => s.rf (Reg.LANE_CFG m) 8 2)) &&
  (role != 4 || (q == 11 && cfgRate l w s == some 0 && (others.filter fun m => laneRole m s == 4).isEmpty))

/-- PRBS_LOCK is lost or its test ends, or is reported: the bits compared since are counted (R265). -/
def prbsFold (l : Nat) (lock : Bool) (s : State) : State :=
  let x := s.lane l
  if x.prbs then
    let bits := (s.now - x.prbsAt) * rateMbps ((laneRate l s).getD 7) / 1000
    stat48 (lanePage l) (Reg.LANE_PRBS_BITS l) bits (s.setLane l { x with prbs := lock, prbsAt := s.now })
  else s

/-- LANE_PRBS_BITS as it stands (R265). -/
def prbsBits (l : Nat) (s : State) : Nat :=
  let x := s.lane l
  (s.reg (Reg.LANE_PRBS_BITS l)).toNat + 2 ^ 32 * s.rf (Reg.LANE_PRBS_BITS l + 4) 0 16 +
    (if x.prbs then (s.now - x.prbsAt) * rateMbps ((laneRate l s).getD 7) / 1000 else 0)

/-- A write of LANE_CFG (R252): a reserved ROLE keeps the role (R11). -/
def laneCfgWrite (l : Nat) (w : Word) (s : State) : State :=
  let bad := decide (5 < fld w 0 3)
  let s := if bad then config (lanePage l) s else s
  let w := if bad then put (w &&& 0x333F) 0 3 (laneRole l s) else w &&& 0x333F
  if !laneCfgOk l w s then config (lanePage l) s
  else
    let old := laneRole l s
    let role := fld w 0 3
    let s := (prbsFold l true s).setReg (Reg.LANE_CFG l) w
    let x := s.lane l
    let s := if role = 0 then s.setLane l { x with rx := 0, signal := false, prbs := false }
      else if old = 0 ∨ old ≠ role then
        s.setLane l { x with rx := if role = 4 then 0 else 1, prbs := false, ctle := s.rf (Reg.LANE_RXEQ l) 0 4 }
      else s
    -- loopback and PRBS are the TEST role's alone (R264)
    let s := if role = 5 then s else s.setReg (Reg.LANE_CTRL l) (s.reg (Reg.LANE_CTRL l) &&& 1)
    chainLinks (showTx l s)

/-- A write of LANE_CTRL (R258, R264, R265): on a HEADLINK or ETH lane it is a write of EI_REQ that is ignored, with CONFIG, whatever
its value (R258). -/
def laneCtrlWrite (l : Nat) (w : Word) (s : State) : State :=
  let p := lanePage l
  let role := laneRole l s
  let old := s.reg (Reg.LANE_CTRL l)
  if role ≠ 5 ∧ (fld w 1 3 ≠ 0 ∨ fld w 4 2 ≠ 0) then config p s
  else
    let s := if 3 < fld w 1 3 then config p s else s
    let s := if role = 1 ∨ role = 4 then config p s else s
    let loop := if 3 < fld w 1 3 then fld old 1 3 else fld w 1 3
    let ei := if role = 1 ∨ role = 4 then bit old 0 else bit w 0
    let new := putBit (put (w &&& 0x1FF) 1 3 loop) 0 ei
    let prbs := (s.lane l).prbs && fld new 4 2 != 0 && bit new 7 && fld old 4 2 == fld new 4 2
    let s := (prbsFold l prbs s).setReg (Reg.LANE_CTRL l) new
    let s := if loop ≠ fld old 1 3 then chainLinks (setRx l 1 s) else s
    let s := showTx l s
    if bit w 9 then emit (.bitFlip l) s else s

/-- One step of a sampling phase towards a target, around the UI (R239, R262): `d` has the sign of the way to it. -/
def phaseStep (phase : Nat) (d : Int) : Nat := if 0 < d then (phase + 1) % 64 else if d < 0 then (phase + 63) % 64 else phase

/-- The signed way from `b` to `a` around a circle of 2^`n`, the way down where both are as long (log entry 106). -/
def circ (n a b : Nat) : Int := sgn n (a + 2 ^ n - b % 2 ^ n)

/-- Length of the circular run of passing positions from position `i`. -/
def runFrom (pass : List Bool) (i : Nat) : Nat := ((pass.drop i ++ pass.take i).takeWhile id).length

/-- The circular runs of passing positions: first position and length (R262). -/
def circularRuns (pass : List Bool) : List (Nat × Nat) :=
  let n := pass.length
  ((List.range n).filter fun i => at' false pass i && (!at' false pass ((i + n - 1) % n) || pass.all id)).map fun i => (i, runFrom pass i)

/-- The midpoint in half positions of the widest run of a sweep, none where nothing passes, and the run's width (R262). -/
def sweepMid (pass : List Bool) (s : State) : (Option Nat × Nat) × State :=
  let r := widestRun (circularRuns pass) s
  (match r.1 with
    | some x => (some ((2 * x.1 + x.2 - 1) % (2 * pass.length)), x.2)
    | none => (none, 0), r.2)

/-- An eye sweep (R239, R262): `mid` in half positions. -/
def eyeSweep (l : Nat) (mid : Option Nat) (width : Nat) (s : State) : State :=
  let p := lanePage l
  let x := s.lane l
  let tol := s.rf Reg.LANE_EYE_CFG 16 4
  match mid, x.prev with
  | some m, some q =>
    if (circ 7 m q).natAbs ≤ 2 * tol then
      -- in quarter positions: the target (m + prev) / 2 on the shorter way between them, and the setting
      let d := circ 8 ((2 * m + 256 + wrapN 8 (circ 7 q m)) % 256) (4 * x.phase)
      s.setLane l { x with phase := phaseStep x.phase d, prev := some m, fail := 0, width := width, swept := true }
    else
      let s := s.setLane l { x with fail := x.fail + 1, prev := some m, width := width, swept := true }
      if x.fail + 1 = 16 then errInc p 2 (raise p 10 s) else s
  | _, _ =>
    let s := s.setLane l { x with fail := x.fail + 1, prev := if mid.isSome then mid else x.prev, width := width, swept := true }
    if x.fail + 1 = 16 then errInc p 2 (raise p 10 s) else s

/-- The elastic buffer over- or underflows: ELASTERR, the buffer recentres and the role gets an error symbol (R260). -/
def elastOver (l : Nat) (s : State) : State :=
  let p := lanePage l
  errInc p 1 (raise p 11 (s.setLane l { s.lane l with fill := 8, errAt := some s.now }))

/-- A SKIP passes the elastic buffer after the partner has filled it by `d` symbols (R259, R260). -/
def elastSkip (l : Nat) (d : Int) (s : State) : State :=
  let p := lanePage l
  let f := ((s.lane l).fill : Int) + d
  if f < 0 ∨ 16 < f then elastOver l s
  else
    let s := s.setLane l { s.lane l with fill := (if 9 < f then f - 1 else if f < 7 then f + 1 else f).toNat }
    if 9 < f then stat p (Reg.LANE_SKIP_DEL l) 1 s else if f < 7 then stat p (Reg.LANE_SKIP_INS l) 1 s else s

/-- A receiver in LOCKED reports what it has met: invalid symbols count and break the frame in progress, and SKIPs pass the elastic
buffer (R256, R259). -/
def laneMet (l : Nat) (r : LaneRx) (s : State) : State :=
  if (s.lane l).rx = 3 then
    let s := each r.drift (elastSkip l) s
    if r.bad = 0 then s
    else countN (lanePage l) (Reg.LANE_SYMERR l) r.bad (s.setLane l { s.lane l with errAt := some s.now })
  else s

/-- LANE_STATUS.LOCK: LOCKED, or clause 36 synchronisation on the ETH lane (R263, R266). -/
def laneLock (l : Nat) (s : State) : Bool :=
  if laneRole l s = 4 then s.rb Reg.ETH_STATUS 0 else decide ((s.lane l).rx = 3)

/-- LANE_STATUS as it stands (R266). -/
def laneStatusWord (l : Nat) (s : State) : Word :=
  let x := s.lane l
  W (x.rx + 4 * (laneLock l s).toNat + 8 * x.signal.toNat + 16 * (x.idle && decide (x.idleAt ≤ s.now * 1000)).toNat + 32 * x.prbs.toNat +
     64 * (x.swept && decide (x.fail < 16)).toNat + 256 * x.phase + 65536 * x.width)

/-- LANE_LOCK_LO and HI (R267). -/
def laneLockWord (w : Nat) (s : State) : Word :=
  W (ofBits ((List.range (if w = 0 then 32 else 16)).map fun i => laneLock (32 * w + i) s))

/-- LANE_ROLE_COUNT (R267). -/
def laneRoleCount (s : State) : Word :=
  let n := fun r => (lanes48.filter fun l => laneRole l s == r).length
  W (n 1 + 256 * n 2 + 65536 * n 3 + 16777216 * min 1 (n 4))

end Sys2Proof.Machine
end

