-- ==== Sys2Proof/Machine/MotionOps.lean ====
section
/-! DEFINITION. The four motion axes (R345 to R355, R360). -/
namespace Sys2Proof.Machine

/-- An axis. -/
def State.axis (s : State) (a : Nat) : AxisSt := tget Reset.axis s.axes a

/-- Replace it. -/
def State.setAxis (s : State) (a : Nat) (x : AxisSt) : State := { s with axes := tset Reset.axis s.axes a x }

/-- The axis moves: pulses are being issued. -/
def AxisSt.moving (x : AxisSt) : Bool := decide (0 < x.v)

/-- A position, kept as a signed 32-bit number. -/
def pos32 (x : Int) : Int := sgn 32 (wrapN 32 x)

/-- V times the 10 ns cycles since the accumulator was last brought forward (R346). -/
def axisSync (s : State) (x : AxisSt) : AxisSt :=
  if s.now ≤ x.phaseAt then x else
  { x with phase := x.phase + x.v * (s.now / 10 - x.phaseAt / 10), phaseAt := s.now }

/-- V becomes 0: carries of the same cycle are suppressed (R347). -/
def axisCut (x : AxisSt) : AxisSt :=
  { x with v := 0, acc := 0, phase := x.phase % 2 ^ 32, mode := 0, halting := false, restart := none, reSteps := 0 }

/-- POS_LOST is set: HOMED is cleared with it, MOTLOST (R350). -/
def axisLost (a : Nat) (s : State) : State :=
  errInc 0x60 2 (raise 0x60 10 (s.setAxis a { s.axis a with lost := true, homed := false }))

/-- A command of the axis that is BUSY ends ERROR STOPPED (R349). -/
def axisCmdStopped (a : Nat) (s : State) : State :=
  if s.cmdBusy (Reg.MOTION_CMD_STATUS a) then cmdError 0x60 (Reg.MOTION_CMD_STATUS a) 0x80 s else s

/-- A command of the axis that is BUSY ends DONE. -/
def axisCmdDone (a : Nat) (s : State) : State :=
  if s.cmdBusy (Reg.MOTION_CMD_STATUS a) then cmdDone 0x60 (Reg.MOTION_CMD_STATUS a) s else s

/-- The pulses stop at once (R350): POS_LOST above PULLIN, or in a re-index (R352). -/
def axisStop (a : Nat) (s : State) : State :=
  let x := axisSync s (s.axis a)
  if x.st < 1 ∨ (x.st = 2 ∧ x.v = 0) then s
  else
    let fast := decide (s.rf (Reg.MOTION_PULLIN a) 0 27 < x.v)
    let s := s.setAxis a { axisCut x with st := 2, waitAt := none, confirmed := false }
    let s := if fast || x.st == 1 then axisLost a s else s
    axisCmdStopped a s

/-- A fault stops an axis that moves, with its event (R350). -/
def axisFault (a bit : Nat) (s : State) : State := if (s.axis a).moving then axisStop a (raise 0x60 bit s) else s

/-- MOTION_STOP.HALT (R350): a re-index runs at VSTART to its end; an axis at standstill between two directions is stopped. -/
def axisHalt (a : Nat) (s : State) : State :=
  let x := s.axis a
  if 3 ≤ x.st then (if x.v = 0 then axisStop a s else s.setAxis a { x with halting := true }) else s

/-- The driver goes without power: OFF (R351). -/
def axisOff (a : Nat) (s : State) : State :=
  let x := s.axis a
  let s := s.setAxis a { axisCut x with st := 0, drvEn := false, waitAt := none, full := none, term := 0 }
  if x.st ≠ 0 ∧ !s.rb (Reg.MOTION_CFG a) 1 then axisLost a s else s

/-- DRV_EN or PAGE_CTRL.ENABLE written 0 (R350, R351). -/
def axisDisable (a : Nat) (s : State) : State :=
  let s := axisFault a 12 s
  let s := if (s.axis a).st = 1 then axisStop a s else s
  if (s.axis a).st = 0 ∧ (s.axis a).drvEn = false then s else axisOff a s

/-- The unit became STANDBY (R360): every axis is held OFF; its position is kept only where this unit has homed it. -/
def motionStandby (s : State) : State :=
  each (List.range 4) (fun a s =>
    let s := axisStop a s
    let x := s.axis a
    let s := s.setAxis a { axisCut x with st := 0, drvEn := false, waitAt := none }
    if x.homed || x.lost then s else axisLost a s) s

/-- The driver is enabled (R352): the axis waits EN_WAIT, in REINDEX where its phase is to be restored. -/
def axisEnable (a : Nat) (s : State) : State :=
  let x := s.axis a
  if x.drvEn || !s.enabled 0x60 || s.pair.role == 2 then s
  else
    let re := s.rb (Reg.MOTION_CFG a) 1 && !x.lost
    s.setAxis a { x with drvEn := true, waitAt := some s.now, st := if re then 1 else 0,
                         indexPos := if re then x.indexPos else x.pos }

/-- EN_WAIT has passed (R352). -/
def axisWaitEnd (a : Nat) (s : State) : State :=
  let x := s.axis a
  match x.waitAt with
  | none => s
  | some t =>
    if s.now < t + s.rf (Reg.MOTION_CYCLE a) 16 16 * 1000 then s
    else if x.st = 1 then
      let p := ((x.pos - x.indexPos) % (s.rf (Reg.MOTION_CYCLE a) 0 11 : Nat)).toNat
      if p = 0 then s.setAxis a { x with waitAt := none, st := 2 }
      else
        let hold := if x.fwd then 0 else s.rf (Reg.MOTION_CFG a) 16 8 * 10
        s.setAxis a { x with waitAt := none, reSteps := p, fwd := true, v := s.rf (Reg.MOTION_VSTART a) 0 27,
                             phaseAt := s.now + hold }
    else s.setAxis a { x with waitAt := none, st := 2, phaseAt := s.now + s.rf (Reg.MOTION_CFG a) 16 8 * 10 }

/-! ## Profiles (R348) -/

/-- The limit switch of a direction is active, debounced. -/
def limitAhead (x : AxisSt) (fwd : Bool) : Bool := if fwd then x.limP else x.limN

/-- The acceleration of the next update for a distance of `diff` to the wanted V. -/
def nextAcc (acc jerk a diff : Nat) : Nat :=
  if jerk = 0 then acc
  else min acc (clampN (a - jerk) (a + jerk) (Nat.sqrt (2 * jerk * diff)))

/-- V moved towards `want` by at most `a`. -/
def towards (v want a : Nat) : Nat := if v < want then min want (v + a) else max want (v - a)

/-- V × 100 summed over the updates the profile needs to bring `v` to `vs`. -/
def brakeSum (acc jerk vs : Nat) : Nat → Nat → Nat → Nat
  | 0, _, _ => 0
  | f + 1, v, a =>
    if v ≤ vs then 0
    else
      let a' := nextAcc acc jerk a (v - vs)
      let v' := towards v vs a'
      100 * v' + brakeSum acc jerk vs f v' a'

/-- brake(v, a): steps the present profile needs to bring V to VSTART. -/
def brake (acc jerk vs v a : Nat) : Nat :=
  (if jerk = 0 then
    -- every update lowers V by ACC, the last one to VSTART
    let n := (v - vs + acc - 1) / acc
    100 * (if n = 0 then 0 else (n - 1) * v - acc * ((n - 1) * n / 2) + vs)
  else brakeSum acc jerk vs (v + 2) v a) / 2 ^ 32

/-- The direction a MOVE or SPEED wants: its target lies ahead. -/
def wantFwd (x : AxisSt) : Bool :=
  if x.mode = 1 then decide (x.pos < x.target) else if x.mode = 2 then decide (0 < x.target) else x.fwd

/-- The axis must turn round before it can serve its command. -/
def reversing (x : AxisSt) : Bool :=
  (x.mode == 1 && x.pos != x.target && wantFwd x != x.fwd) || (x.mode == 2 && x.target != 0 && wantFwd x != x.fwd)

/-- The V an update aims at (R348). -/
def wantV (a : Nat) (x : AxisSt) (s : State) : Nat :=
  let vs := s.rf (Reg.MOTION_VSTART a) 0 27
  if x.halting || x.confirmed || reversing x then vs
  else if x.mode = 1 then
    if brake (s.rf (Reg.MOTION_ACC a) 0 24) (s.rf (Reg.MOTION_JERK a) 0 24) vs x.v x.acc < (x.target - x.pos).natAbs then
      s.rf (Reg.MOTION_VMAX a) 0 27 else vs
  else if x.mode = 3 then max vs (s.rf (Reg.MOTION_HOME_V a) 0 27)
  else if x.mode = 2 then max vs x.target.natAbs
  else x.v

/-- HOME completes at standstill (R354); without a latched edge the position is a free value (log entry 52). -/
def homeEnd (a : Nat) (s : State) : State :=
  let f := s.freeW
  let x := s.axis a
  let l := match x.latched with | some l => l | none => sgn 32 f.1.toNat
  let s := if x.latched.isSome then s else f.2
  let x := { axisCut x with st := 2, pos := pos32 (x.pos - l + sgn 32 (s.reg (Reg.MOTION_HOME_POS a)).toNat), lost := false,
                            homed := true, homeLatch := l, confirmed := false, latched := none }
  axisCmdDone a (s.setAxis a x)

/-- V has come to VSTART with the axis stopping or turning round: it is cut to 0. -/
def axisAtStart (a : Nat) (s : State) : State :=
  let x := s.axis a
  if x.confirmed then homeEnd a (s.setAxis a { x with v := 0 })
  else if x.halting then axisCmdStopped a (s.setAxis a { axisCut x with st := 2 })
  else if x.mode = 2 ∧ x.target = 0 then axisCmdDone a (s.setAxis a { axisCut x with st := 2 })
  else s.setAxis a { x with v := 0, acc := 0, phase := x.phase % 2 ^ 32, fwd := !x.fwd,
                            restart := some (s.now + s.rf (Reg.MOTION_CFG a) 16 8 * 10) }

/-- The 1 µs profile update (R348). -/
def axisUpdate (a : Nat) (s : State) : State :=
  let x := axisSync s (s.axis a)
  if x.st < 3 ∨ s.now < x.updAt + 1000 then s
  else
    let x := { x with updAt := s.now }
    let vs := s.rf (Reg.MOTION_VSTART a) 0 27
    match x.restart with
    | some t =>
      if s.now < t then s.setAxis a x
      else if limitAhead x x.fwd then axisStop a (s.setAxis a x)
      else s.setAxis a { x with v := vs, restart := none, phaseAt := s.now }
    | none =>
      let want := wantV a x s
      let a' := nextAcc (s.rf (Reg.MOTION_ACC a) 0 24) (s.rf (Reg.MOTION_JERK a) 0 24) x.acc
        (max want x.v - min want x.v)
      let v' := max vs (towards x.v want a')
      let x := { x with v := v', acc := a' }
      let s := s.setAxis a x
      let stopping := x.halting || x.confirmed || (x.mode == 2 && x.target == 0) || reversing x
      if stopping && v' == vs then axisAtStart a s
      else if x.mode = 2 ∧ x.st = 3 ∧ !reversing x ∧ v' = want then
        axisCmdDone a (s.setAxis a { x with st := 4 })
      else s

/-- The target test after a step (R347, R348). -/
def axisTarget (a : Nat) (s : State) : State :=
  let x := s.axis a
  if x.mode = 1 ∧ x.pos = x.target then axisCmdDone a (s.setAxis a { axisCut x with st := 2 }) else s

/-- A carry out of bit 31 (R346): one step. -/
def axisCarry (a : Nat) (s : State) : State :=
  let x := axisSync s (s.axis a)
  if x.phase < 2 ^ 32 then s.setAxis a x
  else
    let x := { x with phase := x.phase - 2 ^ 32 }
    let s := stat 0x60 (Reg.MOTION_STEPS a) 1 (emit (.stepPulse a x.fwd) s)
    if x.st = 1 then
      if x.reSteps ≤ 1 then s.setAxis a { axisCut x with st := 2 } else s.setAxis a { x with reSteps := x.reSteps - 1 }
    else axisTarget a (s.setAxis a { x with pos := pos32 (x.pos + (if x.fwd then 1 else -1)) })

/-! ## Commands (R349) -/

/-- A profile starts in a direction: from standstill at VSTART, after SETUP where MOT_DIR changes (R346, R348). -/
def axisStart (a st mode : Nat) (target : Int) (fwd : Bool) (s : State) : State :=
  let x := axisSync s (s.axis a)
  let x := { x with st := st, mode := mode, target := target, halting := false, confirmed := false, latched := none,
                    updAt := s.now, restart := none, cmdAt := some s.now }
  if x.v = 0 then
    s.setAxis a { x with fwd := fwd, v := s.rf (Reg.MOTION_VSTART a) 0 27, acc := 0,
                         phaseAt := if fwd = x.fwd then max s.now x.phaseAt else s.now + s.rf (Reg.MOTION_CFG a) 16 8 * 10 }
  else s.setAxis a x

/-- MOTION_STOP.STOP (R350). At the instant of a command write it is judged first: the position is lost above PULLIN, and the command
starts from standstill, or ends LOST where it is a MOVE. -/
def axisStopWrite (a : Nat) (s : State) : State :=
  let x := s.axis a
  if x.st < 3 ∨ x.cmdAt ≠ some s.now ∨ x.v = 0 then axisStop a s
  else
    let s := s.setAxis a { axisCut (axisSync s x) with st := 2 }
    let s := if s.rf (Reg.MOTION_PULLIN a) 0 27 < x.v then axisLost a s else s
    if x.mode = 1 ∧ (s.axis a).lost then cmdError 0x60 (Reg.MOTION_CMD_STATUS a) 0x81 s
    else if x.mode = 2 ∧ x.target = 0 then axisCmdDone a s
    else axisStart a x.st x.mode x.target (wantFwd x) s

/-- MOTION_CMD (R349): NOTREADY in OFF and REINDEX, else BUSY and handed to `f`. -/
def axisIssue (a : Nat) (f : State → State) (s : State) : State :=
  cmdGate 0x60 (Reg.MOTION_CMD_STATUS a) (fun s =>
    if (s.axis a).st < 2 then cmdError 0x60 (Reg.MOTION_CMD_STATUS a) 0x82 s else f (cmdStart (Reg.MOTION_CMD_STATUS a) s)) s

/-- A profiled command starts; one towards an active limit, or under a low ESTOP_N that stops the axis, ends STOPPED at its
first cycle (R350). -/
def axisGo (a st mode : Nat) (target : Int) (fwd : Bool) (s : State) : State :=
  if limitAhead (s.axis a) fwd ∧ (s.axis a).v = 0 then axisCmdStopped a s
  else
    let s := axisStart a st mode target fwd s
    if s.fire.pinLow && s.rb (Reg.MOTION_CFG a) 2 then axisFault a 12 s else s

/-- MOVE. -/
def axisMove (a : Nat) (s : State) : State :=
  axisIssue a (fun s =>
    let x := s.axis a
    let t := sgn 32 (s.reg (Reg.MOTION_TARGET a)).toNat
    if x.lost then cmdError 0x60 (Reg.MOTION_CMD_STATUS a) 0x81 s
    else if x.pos = t then axisCmdDone a (s.setAxis a { axisCut x with st := 2 })
    else axisGo a 3 1 t (decide (x.pos < t)) s) s

/-- SPEED. -/
def axisSpeed (a : Nat) (s : State) : State :=
  axisIssue a (fun s =>
    let x := s.axis a
    let t := sgn 32 (s.reg (Reg.MOTION_TARGET a)).toNat
    if vLimit < t.natAbs then cmdError 0x60 (Reg.MOTION_CMD_STATUS a) 1 s
    else if t = 0 ∧ x.v = 0 ∧ x.restart = none then axisCmdDone a (s.setAxis a { axisCut x with st := 2 })
    else axisGo a 3 2 t (if t = 0 then x.fwd else decide (0 < t)) s) s

/-- Is a limit other than the home source active, debounced (R354)? -/
def wrongLimit (a : Nat) (s : State) : Bool :=
  let x := s.axis a
  let src := s.rf (Reg.MOTION_CFG a) 24 2
  (src != 1 && x.limN) || (src != 2 && x.limP)

/-- Homing meets a wrong limit: HOMEFAULT (R354). -/
def homeFault (a : Nat) (s : State) : State :=
  let x := axisSync s (s.axis a)
  let fast := decide (s.rf (Reg.MOTION_PULLIN a) 0 27 < x.v)
  let s := s.setAxis a { axisCut x with st := 2, confirmed := false }
  let s := if fast then axisLost a s else s
  errInc 0x60 3 (raise 0x60 11 (cmdError 0x60 (Reg.MOTION_CMD_STATUS a) 0x83 s))

/-- HOME (R354), from STILL. -/
def axisHome (a : Nat) (s : State) : State :=
  axisIssue a (fun s =>
    if (s.axis a).st ≠ 2 then cmdError 0x60 (Reg.MOTION_CMD_STATUS a) 1 s
    else
      let dir := s.rb (Reg.MOTION_CFG a) 26
      let s := axisStart a 5 3 0 dir s
      if wrongLimit a s then homeFault a s
      else if s.fire.pinLow && s.rb (Reg.MOTION_CFG a) 2 then axisFault a 12 s else s) s

/-! ## Inputs (R350, R354) -/

/-- A debounced limit input changes. -/
def axisLimit (a : Nat) (positive active : Bool) (s : State) : State :=
  let x := s.axis a
  let x := if positive then { x with limP := active } else { x with limN := active }
  let s := s.setAxis a x
  let src := s.rf (Reg.MOTION_CFG a) 24 2
  if !active || x.st < 3 || !x.moving then s
  else if x.st = 5 then (if (if positive then src = 2 else src = 1) then s else homeFault a s)
  else if positive = x.fwd then errInc 0x60 1 (raise 0x60 9 (axisStop a s))
  else s

/-- A raw active edge of the home source (R354). -/
def axisHomeEdge (a : Nat) (s : State) : State :=
  let x := s.axis a
  if x.st = 5 ∧ x.latched = none ∧ !x.confirmed then s.setAxis a { x with latched := some x.pos } else s

/-- The debounce of the home source completes (R354). -/
def axisConfirm (a : Nat) (active wrong : Bool) (s : State) : State :=
  let x := axisSync s { s.axis a with homeIn := active }
  let s := s.setAxis a x
  if x.st ≠ 5 ∨ x.confirmed then s
  else if wrong then homeFault a s
  else if !active then s.setAxis a { x with latched := none }
  else if x.v ≤ s.rf (Reg.MOTION_PULLIN a) 0 27 then homeEnd a (s.setAxis a { x with v := 0 })
  else s.setAxis a { x with confirmed := true }

/-! ## Current and STALL (R353) -/

/-- The present current demand. -/
def axisDemand (a : Nat) (s : State) : Nat :=
  let x := s.axis a
  if x.st < 2 then 0
  else min 256 ((if x.moving then s.rf (Reg.MOTION_CUR a) 8 8 else s.rf (Reg.MOTION_CUR a) 0 8) + x.term)

/-- A write of MOTION_LOAD that changes SRC: no acquisition of the new source has come yet (R353). -/
def loadSrcDone (a : Nat) (old : Word) (s : State) : State :=
  if s.rf (Reg.MOTION_LOAD a) 0 8 = fld old 0 8 then s else s.setAxis a { s.axis a with term := 0, full := none }

/-- An acquisition of the load source (R353). -/
def axisLoad (a : Nat) (v : Option Int) (s : State) : State :=
  let x := s.axis a
  match v with
  | none => s.setAxis a { x with term := 0, full := none }
  | some y =>
    let t := (y - sgn 32 (s.reg (Reg.MOTION_LBASE a)).toNat) * (s.rf (Reg.MOTION_LOAD a) 8 8 : Nat) /
      ((2 ^ s.rf (Reg.MOTION_LOAD a) 16 5 : Nat) : Int)
    let s := s.setAxis a { x with term := t.toNat, loadVal := y }
    let isFull := axisDemand a s == 256
    let stall := isFull && (match x.full with | some l => decide (l < y) | none => false)
    let s := s.setAxis a { s.axis a with full := if isFull then some y else none }
    if stall then
      let s := errInc 0x60 0 (raise 0x60 8 s)
      if s.rb (Reg.MOTION_CFG a) 3 && (s.axis a).moving then axisStop a s else s
    else s

/-- Every axis whose load source is channel `c` of port `k` takes the acquisition. -/
def motionLoad (k c : Nat) (v : Option Int) (s : State) : State :=
  each (List.range 4) (fun a s => if s.rf (Reg.MOTION_LOAD a) 0 8 = 0x10 + 4 * k + c then axisLoad a v s else s) s

/-! ## Outputs (R345) and what the page shows (R355) -/

/-- MOT_EN[a]. -/
def motEn (a : Nat) (s : State) : Bool := s.enabled 0x60 && (s.axis a).drvEn

/-- MOT_DIR[a]. -/
def motDir (a : Nat) (s : State) : Bool :=
  let x := s.axis a
  s.enabled 0x60 && x.st != 0 && (x.fwd != s.rb (Reg.MOTION_CFG a) 0)

/-- Active time of MOT_IREF[a] in each 10 µs period, in 1/256 of it. -/
def motIref (a : Nat) (s : State) : Nat := if s.enabled 0x60 then axisDemand a s else 0

/-- A register of an axis block that shows the axis itself. -/
def motionView (a off : Nat) (s : State) : Option Word :=
  let x := s.axis a
  if off = 0x28 then some (W (wrapN 32 x.pos))
  else if off = 0x2C then some (W (wrapN 32 (if x.fwd then (x.v : Int) else -(x.v : Int))))
  else if off = 0x30 then
    some (W (x.st + 8 * x.lost.toNat + 16 * x.homed.toNat + 32 * x.drvEn.toNat + 64 * x.homeIn.toNat + 128 * x.limN.toNat +
      256 * x.limP.toNat + 65536 * axisDemand a s))
  else if off = 0x40 then some (W (wrapN 32 x.homeLatch))
  else if off = 0x54 then some (W (wrapN 32 x.indexPos))
  else if off = 0x58 then some (W (wrapN 32 x.loadVal))
  else none

/-- The rules of R346 and R355 for a write to offset `off` of an axis block; `w` is the word as it would stand. -/
def motionWriteOk (a off : Nat) (w : Word) (s : State) : Bool :=
  let x := s.axis a
  let v := fld w 0 27
  let vmax := if off = 0x04 then v else s.rf (Reg.MOTION_VMAX a) 0 27
  let vs := if off = 0x08 then v else s.rf (Reg.MOTION_VSTART a) 0 27
  let pull := if off = 0x0C then v else s.rf (Reg.MOTION_PULLIN a) 0 27
  if off ∈ [0x00, 0x34, 0x44, 0x48, 0x4C, 0x50] then
    (x.st == 0 || x.st == 2) && (off != 0x48 || fld w 0 8 == 0 || fld w 4 4 == 1)
  else if off ∈ [0x04, 0x08, 0x0C, 0x10, 0x14, 0x38] then
    decide (x.st < 3) && (off == 0x10 || off == 0x14 || off == 0x38 || (decide (vs ≤ pull) && decide (pull ≤ vmax)))
  else true

end Sys2Proof.Machine
end

