-- ==== Sys2Proof/Machine/ShadowOps.lean ====
section
/-! DEFINITION. Shadow commits at a boundary (R43, R44). -/
namespace Sys2Proof.Machine

/-- The shadowed registers with `lo ≤ address < hi` become live together. -/
def copyLive (lo hi : Nat) (s : State) : State :=
  { s with live := msplice lo hi ((mrange lo hi s.words).filter fun e => shadowMask e.1 != 0) s.live }

/-- The shadowed registers with `lo ≤ address < hi` return to their live copies (DISCARD). Unshadowed bits stay. -/
def copyShadow (lo hi : Nat) (s : State) : State :=
  let part := mrange lo hi s.words ++ mrange lo hi s.live
  each part (fun e s => if shadowMask e.1 != 0 then s.setReg e.1 (s.inForce e.1) else s) s

/-- A commit that waited ends: SHADOW_PENDING returns to 0 and SHADOWDONE is raised (R43). -/
def commitEnd (p : Nat) (s : State) : State := raise p 3 (s.setB (Reg.pageStatus p) 4 false)

/-- COMMIT_SEQ counts an applied commit (R43). -/
def commitCount (p : Nat) (s : State) : State :=
  s.setF (Reg.shadowCtrl p) 8 8 (s.rf (Reg.shadowCtrl p) 8 8 + 1)

/-- The staged set is valid: it becomes live at once and together. -/
def commitApply (p : Nat) (s : State) : State := commitEnd p (commitCount p (copyLive (pg p 0) (pg p 0 + 0x1000) s))

/-- The staged set is refused. -/
def commitRefuse (p : Nat) (s : State) : State := config p (commitEnd p s)

/-- The boundary of a page whose commit is judged by `ok`. -/
def commitAt (p : Nat) (ok : Bool) (s : State) : State :=
  if s.shadowPending p then (if ok then commitApply p s else commitRefuse p s) else s

end Sys2Proof.Machine
end

