-- ==== Sys2Proof/Machine/LoopOps.lean ====
section
/-! DEFINITION. The loop engine and its capture tools (R325 to R344). -/
namespace Sys2Proof.Machine

/-- A slot. -/
def State.slot (s : State) (i : Nat) : SlotSt := tget Reset.slot s.loop.slots i

/-- Replace it. -/
def State.setSlot (s : State) (i : Nat) (x : SlotSt) : State := { s with loop := { s.loop with slots := tset Reset.slot s.loop.slots i x } }

/-- A group. -/
def State.group (s : State) (g : Nat) : LoopGroup := tget Reset.group s.loop.groups g

/-- Replace it. -/
def State.setGroup (s : State) (g : Nat) (x : LoopGroup) : State :=
  { s with loop := { s.loop with groups := tset Reset.group s.loop.groups g x } }

/-- The capture of a group. -/
def State.capOf (s : State) (g : Nat) : CapSt := tget Reset.cap s.loop.caps g

/-- Replace it. -/
def State.setCap (s : State) (g : Nat) (x : CapSt) : State := { s with loop := { s.loop with caps := tset Reset.cap s.loop.caps g x } }

/-- The slots. -/
def slots128 : List Nat := List.range 128

/-- LOOP_S_CFG.EN. -/
def slotOn (i : Nat) (s : State) : Bool := s.rb (Reg.LOOP_S_CFG i) 0

/-- LOOP_S_CFG.GROUP. -/
def slotGroup (i : Nat) (s : State) : Nat := s.rf (Reg.LOOP_S_CFG i) 1 3

/-- The enabled slots of a group, ascending (R332). -/
def groupSlots (g : Nat) (s : State) : List Nat := slots128.filter fun i => slotOn i s && slotGroup i s == g

/-! ## Limits on enables and periods (R326, R328) -/

/-- The updates per second of the slots `on`, with group periods `per` (R326). -/
def budgetOf (on : List Nat) (per : Nat → Nat) (s : State) : Nat :=
  (on.map fun i => 1000000 / per (slotGroup i s)).sum

/-- LOOP_BUDGET (R326). -/
def loopBudget (s : State) : Nat := budgetOf (slots128.filter fun i => slotOn i s) (fun g => s.rf (Reg.LOOP_G_PERIOD g) 0 20) s

/-- A sink as two slots may not share it: the code, and the zone of a heater (R328, log entry 50). -/
def sinkOf (w : Word) : Option (Nat × Nat) :=
  let k := fld w 16 8
  if k = 0 then none else if 0x20 ≤ k ∧ k < 0x40 then some (k, fld w 5 3) else some (k, 0)

/-- Reserved source codes (R327). -/
def srcOk (k : Nat) : Bool := k == 0 || (0x10 ≤ k && k ≤ 0x60) || 0x80 ≤ k

/-- Reserved sink codes (R328). -/
def sinkOk (k : Nat) : Bool := k ≤ 0x10 || (0x20 ≤ k && k ≤ 0x4F)

/-- May LOOP_S_CFG(i) take the word `w` (R326, R328, R330)? -/
def slotCfgOk (i : Nat) (w : Word) (s : State) : Bool :=
  let old := s.reg (Reg.LOOP_S_CFG i)
  if bit old 0 then putBit w 0 true == old
  else
    srcOk (fld w 8 8) && sinkOk (fld w 16 8) && srcOk (fld w 24 8) &&
    (!bit w 0 ||
      ((slots128.all fun j => j == i || !slotOn j s || sinkOf w == none || sinkOf (s.reg (Reg.LOOP_S_CFG j)) != sinkOf w) &&
        decide (loopBudget s + 1000000 / s.rf (Reg.LOOP_G_PERIOD (fld w 1 3)) 0 20 ≤ 1600000)))

/-- LOOP_S_CFG takes a word: a slot whose EN rises starts afresh at the next tick (R330); one whose EN falls leaves its PWM pin
inactive at once (R330, R333). -/
def slotCfgSet (i : Nat) (w : Word) (s : State) : State :=
  let was := slotOn i s
  let s := s.setReg (Reg.LOOP_S_CFG i) w
  if bit w 0 && !was then s.setSlot i { s.slot i with fresh := true, heatOk := none, retry := false, upd := 0 }
  else if was && !bit w 0 && decide (1 ≤ fld w 16 8 ∧ fld w 16 8 ≤ 0x10) then
    { s with loop := { s.loop with pwm := tset 0 s.loop.pwm (fld w 16 8 - 1) 0 } }
  else s

/-- May LOOP_G_PERIOD(g) take `n` µs (R326)? -/
def periodOk (g n : Nat) (s : State) : Bool :=
  decide (budgetOf (slots128.filter fun i => slotOn i s) (fun h => if h = g then n else s.rf (Reg.LOOP_G_PERIOD h) 0 20) s ≤
    1600000)

/-- LOOP_SPI_CFG: the data lie within the frame. -/
def spiCfgOk (w : Word) : Bool := decide (fld w 16 5 + fld w 21 5 + 1 ≤ fld w 3 5 + 1)

/-! ## The update (R329) -/

/-- Saturation to ±(2³¹ − 1). -/
def sat32 (x : Int) : Int := clampI (-(2 ^ 31 - 1)) (2 ^ 31 - 1) x

/-- Arithmetic shift right. -/
def asr (x : Int) (n : Nat) : Int := x / ((2 ^ n : Nat) : Int)

/-- The coefficients of a slot. -/
structure PidK where
  sp : Int
  kp : Int
  ki : Int
  kd : Int
  kf : Int
  spS : Nat
  siS : Nat
  sdS : Nat
  sfS : Nat
  omin : Int
  omax : Int
  deriving DecidableEq, Repr

/-- The coefficients of slot `i` in force. -/
def pidK (i : Nat) (s : State) : PidK :=
  let kpi := s.inForce (Reg.LOOP_S_KPI i)
  let kdf := s.inForce (Reg.LOOP_S_KDF i)
  let sh := s.inForce (Reg.LOOP_S_SHIFT i)
  let lim := s.inForce (Reg.LOOP_S_LIM i)
  ⟨sgn 32 (s.inForce (Reg.LOOP_S_SP i)).toNat, sfld kpi 0 16, sfld kpi 16 16, sfld kdf 0 16, sfld kdf 16 16,
   fld sh 0 5, fld sh 8 5, fld sh 16 5, fld sh 24 5, sfld lim 0 16, sfld lim 16 16⟩

/-- One update with a valid y (R329): `injSp` is added to the set-point and `injV` to v (R340). -/
def pidStep (k : PidK) (x : SlotSt) (y f injSp injV : Int) : SlotSt :=
  let e := sat32 (k.sp + injSp - y)
  let p := sat32 (asr (k.kp * e * 65536) k.spS)
  let d := match x.yPrev with
    | some yp => sat32 (asr (k.kd * (yp - y) * 65536) k.sdS)
    | none => 0
  let ff := sat32 (asr (k.kf * f * 65536) k.sfS)
  let inew := clampI (k.omin * 65536) (k.omax * 65536) (x.i + sat32 (asr (k.ki * e * 65536) k.siS))
  let v := p + inew + d + ff + injV * 65536
  let u := clampI k.omin k.omax (asr (v + 32768) 16)
  let hold := (u == k.omax && decide (x.i < inew)) || (u == k.omin && decide (inew < x.i))
  { x with y := y, e := e, p := p, i := if hold then x.i else inew, d := d, f := ff, u := u, yPrev := some y }

/-- LOOP_SAFE(i) in force. -/
def slotSafe (i : Nat) (s : State) : Int := sfld (s.inForce (Reg.LOOP_SAFE (i / 2))) (16 * (i % 2)) 16

/-- A source's value, where it is valid (R327), for a slot of group `g`. -/
def loopSource (g code : Nat) (s : State) : Option Int :=
  if code = 0 then some 0
  else if code < 0x20 then
    let k := (code - 0x10) / 4
    if s.rb (Reg.LOOP_SPI_CFG k) 0 && s.rf (Reg.LOOP_SPI_CFG k) 27 3 == g then tget none s.loop.acq (code - 0x10) else none
  else if code < 0x40 then
    if telOk (code - 0x20) s then some (sfld (s.reg (Reg.HEADS_TEMP (code - 0x20))) 0 16) else none
  else if code < 0x60 then if telOk (code - 0x40) s then some (s.head (code - 0x40)).duty else none
  else if code < 0x80 then some (speedOf (srcFwd s) (srcTc s))
  else some (s.slot (code - 0x80)).u

/-! ## Sinks (R332 to R335, R360) -/

/-- Sinks are driven: not in a STANDBY unit (R360). -/
def sinksOn (s : State) : Bool := s.pair.role != 2

/-- The heater sink of slot `i` (R334). -/
def heaterSink (i h zone : Nat) (s : State) : State :=
  let x := s.slot i
  if x.heatOk ≠ some x.u ∨ x.retry ∨ x.upd = 0 then
    headCommand h ⟨.heater, 4, beBytes 1 zone ++ beBytes 2 (wrapN 16 x.u)⟩ s
  else s

/-- A HEATER_SET has ended: OK, or not, or could not be sent (R334). -/
def heaterEnded (h : Nat) (params : List Byte) (ok : Bool) (s : State) : State :=
  let zone := beAt params 0 1
  let v := sgn 16 (beAt params 1 2)
  let who := slots128.filter fun i => slotOn i s && sinkOf (s.reg (Reg.LOOP_S_CFG i)) == some (0x20 + h, zone)
  let s := each who (fun i s =>
    let x := s.slot i
    s.setSlot i (if ok then { x with heatOk := some v, retry := false } else { x with retry := true })) s
  if ok then s else errInc 0x58 3 (raise 0x58 12 s)

/-- The DAC frame of port `k`, channel `c` for output `u` (R335). -/
def dacWord (k c : Nat) (u : Int) (s : State) : Nat :=
  let w := s.reg (Reg.LOOP_SPI_DAC k)
  let code := wrapN 16 (u + 32768) / 2 ^ (16 - (fld w 16 5 + 1))
  let bits := (s.reg (Reg.LOOP_SPI_DACW k)) ||| W (code * 2 ^ fld w 0 5) ||| W (c * 2 ^ fld w 8 5)
  bits.toNat % 2 ^ (s.rf (Reg.LOOP_SPI_CFG k) 3 5 + 1)

/-- Drive the sink of slot `i` (R328). PWM pins take u at their next period (R333). -/
def driveSink (i : Nat) (s : State) : State :=
  let k := s.rf (Reg.LOOP_S_CFG i) 16 8
  if !sinksOn s then s
  else if 0x20 ≤ k ∧ k < 0x40 then heaterSink i (k - 0x20) (s.rf (Reg.LOOP_S_CFG i) 5 3) s
  else if 0x40 ≤ k ∧ k < 0x50 then
    emit (.lspi ((k - 0x40) / 4) 1 (dacWord ((k - 0x40) / 4) ((k - 0x40) % 4) (s.slot i).u s)) s
  else s

/-- A PWM period starts (R333), not before the last one of PERIOD × 10 ns is over: active for max(u, 0) × period ÷ 32,768 ns, the
whole period at 32,767. -/
def pwmPeriod (n : Nat) (s : State) : State :=
  let w := s.reg (Reg.LOOP_PWM n)
  let per := fld w 12 20 * 10
  let early : Bool := match tget none s.loop.pwmAt n with
    | some t => decide (s.now < t + per)
    | none => false
  if !s.enabled 0x58 ∨ !bit w 0 ∨ early then s
  else
    let on := match (if sinksOn s then slots128.find? fun i => slotOn i s && s.rf (Reg.LOOP_S_CFG i) 16 8 == n + 1 else none) with
      | some i => let u := (s.slot i).u; if u = 32767 then per else u.toNat * per / 32768
      | none => 0
    { s with loop := { s.loop with pwm := tset 0 s.loop.pwm n on, pwmAt := tset none s.loop.pwmAt n (some s.now) } }

/-- A write of LOOP_PWM(n) with EN 0 ends the pin's periods (R333). -/
def pwmDone (n : Nat) (s : State) : State :=
  if s.rb (Reg.LOOP_PWM n) 0 then s
  else { s with loop := { s.loop with pwm := tset 0 s.loop.pwm n 0, pwmAt := tset none s.loop.pwmAt n none } }

/-- The level of PWM pin `n`, `t` ns into its period (R333). -/
def pwmLevel (n t : Nat) (s : State) : Bool :=
  let w := s.reg (Reg.LOOP_PWM n)
  s.enabled 0x58 && sinksOn s && bit w 0 && (decide (t < tget 0 s.loop.pwm n) != bit w 1)

/-! ## Oscillation (R337) -/

/-- LOOP_SAFE_ACT of a slot. -/
def safeAct (i : Nat) (s : State) : Bool := s.rb (Reg.LOOP_SAFE_ACT (i / 32)) (i % 32)

/-- LOOP_OSC_ACT of a slot. -/
def oscAct (i : Nat) (s : State) : Bool := s.rb (Reg.LOOP_OSC_ACT (i / 32)) (i % 32)

/-- The detector after a normal update: which slot state, and whether it declares. -/
def oscStep (osc hyst : Word) (x : SlotSt) : SlotSt × Bool :=
  let h : Int := hyst.toNat
  let side : Int := if h < 2 * x.e then 1 else if 2 * x.e < -h then -1 else 0
  let cross := side != 0 && x.side != 0 && side != x.side
  let record := (cross :: x.record).take (fld osc 0 8)
  let x := { x with side := if side = 0 then x.side else side, record := record }
  (x, decide (fld osc 8 8 ≤ (record.filter id).length))

/-- The oscillation detector of slot `i` (R337). -/
def oscillate (i g : Nat) (s : State) : State :=
  let osc := s.inForce (Reg.LOOP_G_OSC g)
  let hyst := s.inForce (Reg.LOOP_G_HYST g)
  if hyst = 0 then s
  else
    let r := oscStep osc hyst (s.slot i)
    let s := s.setSlot i r.1
    if r.2 && !oscAct i s then
      let s := errInc 0x58 1 (raise 0x58 10 (s.setB (Reg.LOOP_OSC_ACT (i / 32)) (i % 32) true))
      let x := s.slot i
      if fld osc 16 2 = 1 then s.setSlot i { x with held := some (some x.u) }
      else if fld osc 16 2 = 2 then s.setSlot i { x with held := some none, u := slotSafe i s }
      else s
    else s

/-- LOOP_OSC_ACT bits are cleared: the records empty at once, and normal updates resume at the next tick (R337, `oscResume`). -/
def oscClear (w : Nat) (data : Word) (s : State) : State :=
  let s := s.setReg (Reg.LOOP_OSC_ACT w) (s.reg (Reg.LOOP_OSC_ACT w) &&& ~~~data)
  each ((List.range 32).filter fun b => bit data b) (fun b s =>
    s.setSlot (32 * w + b) { s.slot (32 * w + b) with side := 0, record := [] }) s

/-- At a group's tick a held slot whose oscillation bit has been cleared resumes normal updates (R337). -/
def oscResume (g : Nat) (s : State) : State :=
  each ((groupSlots g s).filter fun i => (s.slot i).held.isSome && !oscAct i s) (fun i s =>
    s.setSlot i { s.slot i with held := none }) s

/-! ## Captures (R339 to R342) -/

/-- STATE of a capture group. -/
def capState (g : Nat) (s : State) : Nat := s.rf (Reg.LOOPCAP_G_STATE g) 0 2

/-- MODE of a capture group. -/
def capMode (g : Nat) (s : State) : Nat := s.rf (Reg.LOOPCAP_G_CFG g) 0 2

/-- BASE and LEN of a group's region. -/
def capRegion (g : Nat) (s : State) : Nat × Nat := (s.rf (Reg.LOOPCAP_G_REGION g) 0 14, s.rf (Reg.LOOPCAP_G_REGION g) 16 15)

/-- The four node words of a group. -/
def capNodes (g : Nat) (s : State) : List Nat :=
  [s.rf (Reg.LOOPCAP_G_NODES01 g) 0 16, s.rf (Reg.LOOPCAP_G_NODES01 g) 16 16, s.rf (Reg.LOOPCAP_G_NODES23 g) 0 16,
   s.rf (Reg.LOOPCAP_G_NODES23 g) 16 16].filter fun n => n / 2 ^ 15 % 2 == 1

/-- The checks of ARM (R339, R340). -/
def armOk (g : Nat) (s : State) : Bool :=
  let r := capRegion g s
  capMode g s != 0 && decide (0 < r.2) && decide (r.1 + r.2 ≤ 16384) &&
  ((List.range 8).all fun h =>
    let q := capRegion h s
    h == g || !(capState h s == 1 || capState h s == 2) || decide (r.1 + r.2 ≤ q.1) || decide (q.1 + q.2 ≤ r.1)) &&
  (capMode g s != 2 || (decide (0 < (capNodes g s).length) && r.2 % (capNodes g s).length == 0)) &&
  (capMode g s != 1 || slotGroup (s.rf (Reg.LOOPCAP_G_INJ g) 0 7) s == g)

/-- The default of the capture memory (log entry 53). -/
def capDefault (_ : Nat) : Word := 0

/-- Write a capture word at offset `o` of a group's region. -/
def capPut (g o : Nat) (w : Word) (s : State) : State :=
  { s with loop := { s.loop with cap := mset capDefault ((capRegion g s).1 + o) w s.loop.cap } }

/-- Set a group's state and next word offset. -/
def capShow (g st next : Nat) (s : State) : State := s.setReg (Reg.LOOPCAP_G_STATE g) (W (st + 65536 * (next % 16384)))

/-- A capture ends: DONE, CAPDONE. -/
def capEnd (g : Nat) (s : State) : State := raise 0x59 8 (s.setF (Reg.LOOPCAP_G_STATE g) 0 2 3)

/-- The capture page runs. -/
def capOn (s : State) : Bool := s.enabled 0x59

/-- Advance PRBS7 (R340). -/
def prbs7 (l : Nat) : Nat := (2 * l + (l / 64 + l / 32) % 2) % 128

/-- The value an INJECT of group `g` adds now (R340). -/
def injValue (g : Nat) (s : State) : Int :=
  let w := s.reg (Reg.LOOPCAP_G_INJ g)
  let amp := sfld w 16 16
  let c := s.capOf g
  let hold := s.rf (Reg.LOOPCAP_G_TIME g) 0 16
  if fld w 8 2 = 0 then amp
  else if fld w 8 2 = 1 then (if c.n / hold % 2 = 0 then amp else -amp)
  else (if c.lfsr / 64 % 2 = 1 then amp else -amp)

/-- The injection slot `i` of group `g` takes at this update. -/
def injection (i g : Nat) (s : State) : Option Int :=
  if capOn s && capMode g s == 1 && capState g s == 2 && s.rf (Reg.LOOPCAP_G_INJ g) 0 7 == i &&
    decide ((s.capOf g).n < (capRegion g s).2 / 2) then some (injValue g s) else none

/-- An update of an INJECT's target is recorded (R340). -/
def injRecord (i g : Nat) (inj : Option Int) (s : State) : State :=
  match inj with
  | none => s
  | some a =>
    let x := s.slot i
    let c := s.capOf g
    let o := 2 * c.n
    let s := capPut g (o + 1) (W (wrapN 16 x.u + 65536 * wrapN 16 a)) (capPut g o (W (wrapN 32 x.y)) s)
    let hold := s.rf (Reg.LOOPCAP_G_TIME g) 0 16
    let s := s.setCap g { c with n := c.n + 1, lfsr := if (c.n + 1) % hold = 0 then prbs7 c.lfsr else c.lfsr }
    let s := capShow g 2 (o + 2) s
    if (capRegion g s).2 / 2 ≤ c.n + 1 then capEnd g s else s

/-- The value of a node (R341). -/
def nodeWord (n : Nat) (s : State) : Word :=
  let x := s.slot (n % 128)
  W (wrapN 32 (at' 0 [x.y, x.e, x.p, x.i, x.d, x.f, x.u, 0] (n / 256 % 8)))

/-- A tick of a TRACE is written after the group's updates (R341). -/
def traceTick (g : Nat) (osc : Bool) (s : State) : State :=
  if !(capOn s && capMode g s == 2 && capState g s == 2) then s
  else
    let c := s.capOf g
    let nodes := capNodes g s
    let len := (capRegion g s).2
    let o := s.rf (Reg.LOOPCAP_G_STATE g) 16 14 % len
    let s := (nodes.foldl (fun (p : Nat × State) n => (p.1 + 1, capPut g p.1 (nodeWord n p.2) p.2)) (o, s)).2
    let s := capShow g 2 (if len ≤ o + nodes.length then 0 else o + nodes.length) s
    let hit := c.post = none ∧ (c.trig ∨ (s.rb (Reg.LOOPCAP_G_CFG g) 2 ∧ osc))
    let c := { c with n := c.n + 1, last := o, trig := false,
                      post := if hit then some (s.rf (Reg.LOOPCAP_G_TIME g) 16 16) else c.post.map (· - 1) }
    let s := s.setCap g c
    let s := if hit then raise 0x59 9 (s.setReg (Reg.LOOPCAP_G_TRIGPTR g) (W o)) else s
    if c.post = some 0 then capEnd g s else s

/-- ARM (R339). -/
def capArm (g : Nat) (s : State) : State :=
  let a := Reg.LOOPCAP_CMD_STATUS
  if armOk g s then cmdDone 0x59 a (capShow g 1 0 (s.setCap g ⟨0, 127, false, none, 0⟩))
  else cmdError 0x59 a 1 (config 0x59 s)

/-- TRIGGER (R341): acts on an armed or running trace. -/
def capTrigger (g : Nat) (s : State) : State :=
  let a := Reg.LOOPCAP_CMD_STATUS
  if capMode g s = 2 ∧ (capState g s = 1 ∨ capState g s = 2) then
    cmdDone 0x59 a (s.setCap g { s.capOf g with trig := true })
  else cmdError 0x59 a 1 s

/-- STOP (R340, R341). -/
def capStop (g : Nat) (s : State) : State :=
  let run := capState g s = 1 ∨ capState g s = 2
  let s := if run then
      capEnd g (if capMode g s = 2 then s.setReg (Reg.LOOPCAP_G_TRIGPTR g) (W (s.capOf g).last) else s)
    else s
  cmdDone 0x59 Reg.LOOPCAP_CMD_STATUS s

/-- A read of LOOPCAP_DATA: the word at LOOPCAP_ADDR, which advances (R342). -/
def capRead (s : State) : Word × State :=
  let a := s.rf Reg.LOOPCAP_ADDR 0 14
  (mget capDefault s.loop.cap a, s.setReg Reg.LOOPCAP_ADDR (W ((a + 1) % 16384)))

/-! ## Ticks (R325, R331, R332, R338) -/

/-- An update of slot `i` of group `g` (R329, R336, R337). -/
def slotUpdate (g i : Nat) (s : State) : State :=
  let x := s.slot i
  let x := { x with upd := (x.upd + 1) % 64 }
  let safe := slotSafe i s
  let inj := injection i g s
  let sp := s.rb (Reg.LOOPCAP_G_INJ g) 7
  let s := stat 0x58 Reg.LOOP_UPDATES 1 s
  let s := match loopSource g (s.rf (Reg.LOOP_S_CFG i) 8 8) s with
    | none =>
      let was := safeAct i s
      let s := s.setSlot i { x with u := safe, yPrev := none }
      let s := s.setB (Reg.LOOP_SAFE_ACT (i / 32)) (i % 32) true
      errInc 0x58 0 (if was then s else raise 0x58 8 s)
    | some y =>
      let f := (loopSource g (s.rf (Reg.LOOP_S_CFG i) 24 8) s).getD 0
      let a := inj.getD 0
      let n := pidStep (pidK i s) x y f (if sp then 0 else a) (if sp then a else 0)
      let n := match x.held with
        | some u => { n with u := u.getD safe, i := x.i }
        | none => n
      let was := safeAct i s
      let s := (s.setSlot i n).setB (Reg.LOOP_SAFE_ACT (i / 32)) (i % 32) false
      oscillate i g (if was then raise 0x58 9 s else s)
  driveSink i (injRecord i g inj s)

/-- The frames an acquisition received give its channels' values (R331). -/
def spiValue (k : Nat) (w : Word) (s : State) : Option Int :=
  let cfg := s.reg (Reg.LOOP_SPI_CFG k)
  let chk := s.reg (Reg.LOOP_SPI_CHK k)
  let n := fld cfg 21 5 + 1
  let d := fld w (fld cfg 16 5) n
  if (w &&& W (fld chk 0 16)) = W (fld chk 16 16) &&& W (fld chk 0 16) then
    some (if bit cfg 26 then sgn n d else if n = 32 then sgn 32 d else d)
  else none

/-- The enabled sense ports of a group (R331). -/
def groupPorts (g : Nat) (s : State) : List Nat :=
  (List.range 4).filter fun k => s.rb (Reg.LOOP_SPI_CFG k) 0 && s.rf (Reg.LOOP_SPI_CFG k) 27 3 == g

/-- The acquisitions of a group's tick have completed or been abandoned: their channels take their values (R331). -/
def takeFrames (g : Nat) (frames : List (Fin 4 × List Word)) (s : State) : State :=
  each (groupPorts g s) (fun k s =>
    let fr := ((frames.find? fun p => p.1.val == k).map (·.2)).getD []
    each (List.range 4) (fun c s =>
      if c ≤ s.rf (Reg.LOOP_SPI_CFG k) 12 2 then
        let v := match fr[c]? with
          | some w => spiValue k w s
          | none => none
        motionLoad k c v { s with loop := { s.loop with acq := tset none s.loop.acq (4 * k + c) v } }
      else { s with loop := { s.loop with acq := tset none s.loop.acq (4 * k + c) none } }) s) s

/-- The slots a tick of group `g` updates: those that were enabled as it came (R330, R332). -/
def tickSlots (g : Nat) (s : State) : List Nat := (groupSlots g s).filter fun i => !(s.slot i).fresh

/-- The updates of a tick (R332), then its trace words. -/
def groupUpdate (g : Nat) (s : State) : State :=
  let slots := tickSlots g s
  let before := slots.filter fun i => oscAct i s
  let s := each slots (slotUpdate g) s
  let osc := slots.any fun i => oscAct i s && !(i ∈ before)
  traceTick g osc s

/-- The shadowed registers of a group become live together (R338). -/
def groupLive (g : Nat) (s : State) : State :=
  let cp := fun (a : Nat) (m : Nat) (s : State) =>
    { s with live := mset resetWord a ((mget resetWord s.live a &&& ~~~(W m)) ||| (s.reg a &&& W m)) s.live }
  let s := cp (Reg.LOOP_G_HYST g) 0xFFFFFFFF (cp (Reg.LOOP_G_OSC g) 0xFFFFFFFF s)
  each (slots128.filter fun i => slotGroup i s == g) (fun i s =>
    let s := cp (Reg.LOOP_SAFE (i / 2)) (0xFFFF * 65536 ^ (i % 2)) s
    each [4, 8, 12, 16, 20] (fun o s => cp (Reg.LOOP_S_CFG i + o) 0xFFFFFFFF s) s) s

/-- The whole staged set is valid (R338). -/
def loopCommitOk (s : State) : Bool :=
  (slots128.all fun i =>
    let lim := s.reg (Reg.LOOP_S_LIM i)
    let safe := s.rf (Reg.LOOP_SAFE (i / 2)) (16 * (i % 2)) 16
    decide (sfld lim 0 16 ≤ sgn 16 safe) && decide (sgn 16 safe ≤ sfld lim 16 16)) &&
  (List.range 8).all fun g => decide (s.rf (Reg.LOOP_G_OSC g) 8 8 ≤ s.rf (Reg.LOOP_G_OSC g) 0 8)

/-- A group takes the pending commit; the first checks the whole set, the last ends it (R338). -/
def groupCommit (g : Nat) (s : State) : State :=
  if !s.shadowPending 0x58 ∨ (s.group g).applied then s
  else
    let clear := fun (s : State) => { s with loop := { s.loop with
      checked := false, groups := tmap Reset.group 8 (l := s.loop.groups) fun x => { x with applied := false } } }
    if !s.loop.checked ∧ !loopCommitOk s then commitRefuse 0x58 (clear s)
    else
      let s := groupLive g s
      let s := (s.setGroup g { s.group g with applied := true })
      let s := { s with loop := { s.loop with checked := true } }
      if (List.range 8).all (fun g => (s.group g).applied) then commitApply 0x58 (clear s) else s

/-- The groups a commit need not wait for: those with no enabled slot, or all while the page is disabled (R338). -/
def loopCommitNow (s : State) : State :=
  each ((List.range 8).filter fun g => !s.enabled 0x58 || (groupSlots g s).isEmpty) groupCommit s

/-- A tick of group `g` (R325, R331): the last tick's abandoned acquisition is updated on, then a commit applies, slots whose
EN was written 1 are preset, and the acquisitions start. -/
def groupTick (g : Nat) (done : List (Fin 4 × List Word)) (s : State) : State :=
  let x := s.group g
  let early := match x.tickAt with
    | some t => decide (s.now < t + s.rf (Reg.LOOP_G_PERIOD g) 0 20 * 1000)
    | none => false
  if !s.running 0x58 || early then s
  else
    let s := if x.due then groupUpdate g (takeFrames g done s) else s
    let s := groupCommit g (s.setGroup g { s.group g with tickAt := some s.now, due := true })
    let s := each ((groupSlots g s).filter fun i => (s.slot i).fresh) (fun i s =>
      s.setSlot i { s.slot i with fresh := false, i := slotSafe i s * 65536, yPrev := none, u := slotSafe i s, held := none,
                                  side := 0, record := [] }) s
    let s := oscResume g s
    let s := if capOn s && capState g s == 1 then
        let s := capShow g 2 0 s
        if capMode g s == 1 && decide ((capRegion g s).2 / 2 = 0) then capEnd g s else s
      else s
    let s := each (groupPorts g s) (fun k s =>
      each (List.range (s.rf (Reg.LOOP_SPI_CFG k) 12 2 + 1)) (fun c s =>
        emit (.lspi k 0 ((s.reg (Reg.LOOP_SPI_TXW k c)).toNat % 2 ^ (s.rf (Reg.LOOP_SPI_CFG k) 3 5 + 1))) s) s) s
    stat 0x58 (Reg.LOOP_G_TICKS g) 1 s

/-- The acquisitions of the tick are over: its updates are made, or skipped with LOOPOVR (R332). -/
def groupDone (g : Nat) (frames : List (Fin 4 × List Word)) (ovr : Bool) (s : State) : State :=
  if !s.enabled 0x58 ∨ !(s.group g).due then s
  else
    let s := takeFrames g frames (s.setGroup g { s.group g with due := false })
    if ovr then errInc 0x58 2 (raise 0x58 11 s) else groupUpdate g s

/-- PAGE_CTRL.ENABLE of LOOP written 0: no group ticks, and every PWM pin is low (R325). -/
def loopDisable (s : State) : State :=
  let s := { s with loop := { s.loop with pwm := [], pwmAt := [],
                                          groups := tmap Reset.group 8 (l := s.loop.groups) fun x => { x with tickAt := none, due := false } } }
  loopCommitNow s

/-! ## The monitor (R343) -/

/-- LOOP_MON_Y, U, I and E of the selected slot. -/
def loopMon (off : Nat) (s : State) : Word :=
  let i := s.rf Reg.LOOP_MON_SEL 0 7
  let x := s.slot i
  let k := pidK i s
  if off = 0x044 then W (wrapN 32 x.y)
  else if off = 0x048 then
    W (wrapN 16 x.u + 65536 * (safeAct i s || x.held == some none).toNat + 131072 * (x.held.isSome && x.held != some none).toNat +
      262144 * (x.u == k.omin || x.u == k.omax).toNat)
  else if off = 0x04C then W (wrapN 32 x.i)
  else W (wrapN 32 x.e)

end Sys2Proof.Machine
end

