-- ==== Sys2Proof/Machine/IntakeView.lean ====
section
/-! DEFINITION. What INTAKE shows of its store and its current page (R90, R103, R444). -/
namespace Sys2Proof.Machine

/-- Every band INTAKE holds: of queued descriptors and of pages in the sequencer. -/
def allBands (s : State) : List Band := (s.intake.queue.flatMap (·.2)) ++ (s.intake.seq.flatMap (·.bands))

/-- Store slots held (R90). -/
def slotsHeld (s : State) : List Nat := (allBands s).filterMap (·.slot)

/-- Store slots no band holds (R90). -/
def slotsFree (s : State) : Nat := s.rf Reg.INTAKE_STORE_SLOTS 0 11 - (slotsHeld s).length

/-- INTAKE_STORE_FREE (R90): INTAKE has no slot to give while it is disabled, so that the count is 0 after reset (R9; log entry 95). -/
def storeFree (s : State) : Nat := if s.enabled 0x10 then slotsFree s else 0

/-- The current page (R444): state, job, page and line. -/
def currentPage (s : State) : Nat × Nat × Nat × Nat :=
  match s.intake.current with
  | some (job, page, line, done) => (if done then 3 else 2, job, page, line)
  | none =>
    match s.intake.seq.find? fun p => p.st == .armed with
    | some p => (1, p.d.job, p.d.page, 0)
    | none => (0, 0, 0, 0)

/-- INTAKE_SEQ as it stands (R103). -/
def intakeSeqWord (s : State) : Word :=
  let c := currentPage s
  W (s.intake.seq.length + 256 * c.1 + 65536 * c.2.1)

end Sys2Proof.Machine
end

