-- ==== Sys2Proof/Machine/TallyOps.lean ====
section
/-! DEFINITION. Tally (R371 to R385). -/
namespace Sys2Proof.Machine

/-- Add to one of the five quantities: the lifetime total and the open job (R371). -/
def tallyAdd (q n : Nat) (t : TallySt) : TallySt :=
  let add := fun (l : List (Nat × Nat)) => tset 0 l q ((tget 0 l q + n) % 2 ^ 64)
  { t with life := add t.life, open_ := { t.open_ with cnt := add t.open_.cnt } }

/-- Tally counts: its ROM is right (R381). -/
def tallyRuns (t : TallySt) : Bool := t.romOk

/-- An accepted forward count above the high-water count adds one count's length (R372). -/
def tallyLen (t : TallySt) : TallySt :=
  let r := t.lenRem + 1000000 % t.params.cpm
  let carry := r / t.params.cpm
  tallyAdd 0 (1000000 / t.params.cpm + carry) { t with high := t.high + 1, lenRem := r % t.params.cpm }

/-- A line whose level changed at `at_` has held it for Tally's own filter of FILT samples of 2 ns (R191, R372). -/
def tallyHeld (at_ : Option Nat) (now : Nat) (t : TallySt) : Bool :=
  match at_ with
  | some u => decide (u + 2 * t.params.filt ≤ now)
  | none => true

/-- The levels of A and B change as Tally's own filter sees them (R372): a pulse shorter than the filter is rejected. -/
def tallyCount (now : Nat) (a b : Bool) (t : TallySt) : TallySt :=
  let da := a != t.a
  let db := b != t.b
  let u := { t with a := a, b := b, aAt := if da then some now else t.aAt, bAt := if db then some now else t.bAt }
  if (da && !tallyHeld t.aAt now t) || (db && !tallyHeld t.bAt now t) then t
  else if !tallyRuns t || !t.live then u
  else if da && db then { u with ill := (t.ill + 1) % 2 ^ 32 }
  else if !da && !db then t
  else
    let fwd := (if db then b == a else a != b) != t.params.invert
    let t := { u with cnt := t.cnt + (if fwd then 1 else -1) }
    if fwd && decide (t.high < t.cnt) then tallyLen t else t

/-- A job with nothing counted. -/
def emptyJob : TallyJob := ⟨0, false, []⟩

/-- A drop record (R373 to R375): job and counts at levels 1, 2 and 3. -/
def tallyRecord (job n1 n2 n3 : Nat) (t : TallySt) : TallySt :=
  if n1 + n2 + n3 = 0 ∨ !tallyRuns t then t
  else
    let t :=
      if !t.open_.valid then { t with open_ := { t.open_ with job := job, valid := true } }
      else if t.open_.job ≠ job then
        { t with hist := (t.open_ :: t.hist).take 16, open_ := { emptyJob with job := job, valid := true } }
      else t
    let acc := t.areaRem + (n1 + n2 + n3) * t.params.cell
    tallyAdd 1 (acc / 256000000)
      (tallyAdd 4 n3 (tallyAdd 3 n2 (tallyAdd 2 n1 { t with areaRem := acc % 256000000 })))

/-- FIRE's drop record reaches Tally (R157, R373). -/
def tallyDrop (job n1 n2 n3 : Nat) (s : State) : State := { s with tally := tallyRecord job n1 n2 n3 s.tally }

/-- The 12 parameter bytes (R378). -/
def paramBytes (p : TallyParams) : List Byte :=
  beBytes 4 p.cpm ++ beBytes 4 p.cell ++ beBytes 1 p.filt ++ beBytes 1 p.invert.toNat ++ beBytes 2 0

/-- Parameters from 12 bytes, where every field is in range (R378). -/
def paramsOf (l : List Byte) : Option TallyParams :=
  let cpm := beAt l 0 4
  let cell := beAt l 4 4
  let filt := beAt l 8 1
  let flags := beAt l 9 1
  if 1000 ≤ cpm ∧ cpm ≤ 100000000 ∧ 1 ≤ cell ∧ cell ≤ 16777215 ∧ 1 ≤ filt ∧ filt ≤ 31 ∧ flags ≤ 1 ∧ beAt l 10 2 = 0 then
    some ⟨cpm, cell, filt, flags == 1⟩
  else none

/-- An audit record (R379). -/
def auditRecord (n kind : Nat) (stamp params : List Byte) (len : Nat) : List Byte :=
  let body := beBytes 2 n ++ beBytes 1 kind ++ beBytes 1 0 ++ stamp ++ params ++ beBytes 4 len
  body ++ beBytes 4 (crc32c body)

/-- The audit trail of a part as shipped: record 0 with the factory values (R379). -/
def factoryAudit : List (List Byte) := [auditRecord 0 0 (beBytes 8 0) (paramBytes ⟨50000, 57348, 4, false⟩) 0]

/-- The parameters of the highest record of KIND PARAM or FACTORY (R379). -/
def liveParams (audit : List (List Byte)) (dflt : TallyParams) : TallyParams :=
  match (audit.reverse.find? fun r => beAt r 2 1 < 2) with
  | some r => (paramsOf ((r.drop 12).take 12)).getD dflt
  | none => dflt

/-- All 64 records are burnt. -/
def trailFull (t : TallySt) : Bool := decide (64 ≤ t.audit.length)

/-- The burn of an audit record ends (R380). -/
def tallyBurnt (t : TallySt) : TallySt :=
  match t.burn with
  | none => t
  | some (r, _) =>
    let t := { t with audit := t.audit ++ [r], burn := none }
    if beAt r 2 1 = 1 then { t with params := liveParams t.audit t.params, lenRem := 0, areaRem := 0 } else t

/-- TALLY_STATUS (R385). -/
def tallyStatus (t : TallySt) : Word :=
  W (t.sealOpen.toNat + 2 * t.retLost.toNat + 4 * t.live.toNat + 8 * (trailFull t).toNat + 16 * t.romOk.toNat +
    32 * t.burn.isSome.toNat)

/-! ## The legal indicator UART (R382) -/

/-- A reply. -/
def tallyReply (cmd status : Nat) (data : List Byte) : List Byte :=
  let body := beBytes 1 (cmd + 0x80) ++ beBytes 1 status ++ beBytes 1 data.length ++ data
  beBytes 1 0xA5 ++ body ++ beBytes 2 (crc16 body)

/-- Send a reply. -/
def tallySend (cmd status : Nat) (data : List Byte) (s : State) : State := emit (.tally (tallyReply cmd status data)) s

/-- A well-formed request of command `cmd` with parameters of length `len`: BUSY while a reply is pending, BADLEN, else `f`.
With ROM_OK 0 only IDENT is answered (R381). -/
def tallyRequest (cmd len : Nat) (params : List Byte) (crcOk busy : Bool) (f : State → State) (s : State) : State :=
  if !crcOk || (!s.tally.romOk && cmd != 1) then s
  else if busy || (match s.tally.burn with | some (_, w) => w | none => false) then tallySend cmd 6 [] s
  else if params.length ≠ len then tallySend cmd 2 [] s
  else f s

/-- SW_ID (R381). -/
def swId : List Byte := [0x54, 0x4C, 0x59, 0x20, 0x31, 0x2E, 0x30, 0x30]

/-- The last AUDIT_COUNT. -/
def auditCount (t : TallySt) : Nat := t.audit.length - 1

/-- The five counters as reply data. -/
def cntBytes (l : List (Nat × Nat)) : List Byte := (List.range 5).flatMap fun q => beBytes 8 (tget 0 l q)

/-- IDENT. -/
def tallyIdent (s : State) : State :=
  tallySend 1 0 (swId ++ beBytes 4 0x6B2ED417 ++ beBytes 2 (auditCount s.tally) ++
    beBytes 2 ((tallyStatus s.tally).toNat % 65536)) s

/-- JOB. -/
def tallyJob (params : List Byte) (s : State) : State :=
  let k := beAt params 0 1
  let j := if k = 0 then s.tally.open_ else at' emptyJob s.tally.hist (k - 1)
  if 16 < k then tallySend 3 4 [] s
  else tallySend 3 0 (beBytes 2 j.job ++ beBytes 1 j.valid.toNat ++ beBytes 1 0 ++ cntBytes j.cnt) s

/-- PARAM_WRITE: BUSY while a RETENTION_LOST record burns (log entry 49), TRAILFULL, SEALED, BADPARAM, else the burn begins and commits it (R378 to R380). -/
def tallyParamWrite (params : List Byte) (s : State) : State :=
  let t := s.tally
  if t.burn.isSome then tallySend 5 6 [] s
  else if trailFull t then tallySend 5 5 [] s
  else if !t.sealOpen then tallySend 5 3 [] s
  else match paramsOf (params.take 12) with
    | none => tallySend 5 4 [] s
    | some _ =>
      { s with tally := { t with burn := some (auditRecord t.audit.length 1 (params.drop 12) (params.take 12)
          (tget 0 t.life 0 % 2 ^ 32), true) } }

/-- AUDIT_READ. -/
def tallyAudit (params : List Byte) (s : State) : State :=
  match s.tally.audit[beAt params 0 1]? with
  | some r => tallySend 6 0 r s
  | none => tallySend 6 4 [] s

/-- TALLY_BURN_DONE: the record is burnt, and a waiting PARAM_WRITE is answered. -/
def tallyBurnDone (s : State) : State :=
  match s.tally.burn with
  | none => s
  | some (_, reply) =>
    let s := { s with tally := tallyBurnt s.tally }
    if reply then tallySend 5 0 (beBytes 2 (auditCount s.tally)) s else s

/-- The return of VSTBY (R377, R381): the retained state passes its check, or everything is zeroed with an audit record. -/
def tallyPowerOn (retOk romOk : Bool) (t : TallySt) : TallySt :=
  let t := { t with romOk := romOk, retLost := false }
  if retOk then t
  else
    let t := { t with life := [], open_ := emptyJob, hist := List.replicate 16 emptyJob, ill := 0, lenRem := 0,
                      areaRem := 0, cnt := 0, high := 0, retLost := true }
    if trailFull t then t
    else { t with burn := some (auditRecord t.audit.length 2 (beBytes 8 0) (paramBytes t.params) 0, false) }

/-! ## The TALLY page (R385) -/

/-- A 64-bit counter's word at offset `k` of a group of five. -/
def cntWord (l : List (Nat × Nat)) (k : Nat) : Word := W (tget 0 l (k / 8) / 2 ^ (8 * (k % 8)))

/-- A register of the page as Tally holds it now. -/
def tallyWord (o : Nat) (t : TallySt) : Word :=
  let idw := fun (j : TallyJob) => W (j.job + 65536 * j.valid.toNat)
  if o = 0x040 then tallyStatus t
  else if o = 0x044 then 0x544C5920
  else if o = 0x048 then 0x312E3030
  else if o = 0x04C then 0x6B2ED417
  else if o = 0x050 then W (auditCount t + 65536 * (64 - t.audit.length))
  else if o = 0x054 then W t.params.cpm
  else if o = 0x058 then W t.params.cell
  else if o = 0x05C then W (t.params.filt + 256 * t.params.invert.toNat)
  else if o = 0x060 then W t.ill
  else if o = 0x064 then idw t.open_
  else if 0x080 ≤ o ∧ o < 0x0A8 then cntWord t.life (o - 0x080)
  else if 0x0C0 ≤ o ∧ o < 0x0E8 then cntWord t.open_.cnt (o - 0x0C0)
  else if 0x100 ≤ o ∧ o < 0x400 then
    let j := at' emptyJob t.hist ((o - 0x100) / 0x30)
    let r := (o - 0x100) % 0x30
    if r = 0 then idw j else if r = 4 then 0 else cntWord j.cnt (r - 8)
  else 0

/-- A read of TALLY_STATUS latches every other register of the page for the path. -/
def tallyLatch (p : Path) (s : State) : State :=
  each ((List.range 239).map fun i => 0x044 + 4 * i) (fun o s => snapPut p (pg 0x70 o) (tallyWord o s.tally) s) s

end Sys2Proof.Machine
end

