-- ==== Sys2Proof/Machine/FireOps.lean ====
section
/-! DEFINITION. FIRE: the grid, row reads, line decisions, trigger instants, the benchmark and the inhibit paths
(R130 to R157). Positions are in 1/DEN counts modulo 2³² counts, instants in 250 ps on TIME. -/
namespace Sys2Proof.Machine

/-- FIRE_PITCH_DEN. -/
def den (s : State) : Nat := max 1 (s.rf Reg.FIRE_PITCH_DEN 0 16)

/-- FIRE_PITCH_NUM. -/
def num (s : State) : Nat := s.rf Reg.FIRE_PITCH_NUM 0 16

/-- Signed difference of two positions in 1/`d` counts, modulo 2³² counts (R81, R131). -/
def dposD (d x y : Nat) : Int :=
  let m := 2 ^ 32 * d
  let r := (x + m - y % m) % m
  if r < m / 2 then (r : Int) else (r : Int) - (m : Int)

/-- A position moved by a signed amount. -/
def moveD (d x : Nat) (n : Int) : Nat := (((x : Int) + n) % ((2 ^ 32 * d : Nat) : Int)).toNat

/-- How far the web has come past a position, in 1/(`d` · 256 · t_count) parts: not negative once it is reached (R141). -/
def reached (d p : Nat) (s : State) : Bool :=
  let dx := dposD d p (srcX s * d)
  if fwdValid s then decide (dx * (srcTc s : Int) ≤ (((s.timeNs64 : Int) - srcT s) * 256 * (d : Int)))
  else decide (dx ≤ 0)

/-- The present position in 1/`d` counts (R141). -/
def presentPos (d : Nat) (s : State) : Nat :=
  if fwdValid s then moveD d (srcX s * d) ((((s.timeNs64 : Int) - srcT s) * 256 * (d : Int)) / (srcTc s : Int))
  else srcX s * d % (2 ^ 32 * d)

/-- Line pitches from the present position to `p`, rounded up, 0 where it is reached. -/
def pitchesTo (d n p : Nat) (s : State) : Nat := ((dposD d (presentPos d s) p).toNat) / max 1 n + 1

/-- The grid piece tick `k` lies on (R131, R132). -/
def tickSeg (k : Nat) (s : State) : GridSeg := (s.fire.segs.find? fun g => g.first ≤ k).getD ⟨0, 0, 1, 1⟩

/-- Position of tick `k` (R131), in 1/DEN counts of its grid piece. -/
def tickPos (k : Nat) (s : State) : Nat :=
  let g := tickSeg k s
  moveD g.den g.pos (((k - g.first) * g.num : Nat) : Int)

/-- The least slack of pipeline `k` in the open window takes a slack in, saturated at 16 bits (R65). -/
def slackPut (k : Nat) (v : Int) (s : State) : State :=
  { s with pace := { s.pace with slack := modAt s.pace.slack k (min (clampI (-32768) 32767 v)) } }

/-- FIRE_CTRL.LEAD. -/
def lead (s : State) : Nat := s.rf Reg.FIRE_CTRL 4 3

/-- FIRE_MIN_PERIOD in force, ns. -/
def minPeriod (s : State) : Nat := s.lf Reg.FIRE_MIN_PERIOD 0 16

/-- FIRE_PHASE in force, 250 ps. -/
def phase (h : Nat) (s : State) : Int := sgn 13 (s.lf (Reg.FIRE_PHASE h) 0 13)

/-- TIME in 250 ps. -/
def nowQ (s : State) : Int := (s.time.acc / 2 ^ 30 : Nat)

/-- The 250 ps tap of the present ns of the 1 GHz time base at which TIME, its fraction included, reaches instant `i` (250 ps);
none where it does not yet (R282). -/
def tapAt (i : Nat) (s : State) : Option Nat :=
  [0, 1, 2, 3].find? fun t => decide (((i * 2 ^ 32 : Nat) : Int) ≤ 4 * s.time.acc + t * ((2 ^ 32 : Nat) + s.time.rate))

/-- The predicted instant of position `p` from the last edge, rounded to 250 ps (R144, R151). -/
def predict (p : Nat) (s : State) : Int :=
  (srcT s : Int) * 4 + divRound (dposD (den s) p (srcX s * den s) * srcTc s) (64 * den s)

/-- The candidate instant of a tick (R144). -/
def candidate (p : Nat) (s : State) : Option Int :=
  let dx := dposD (den s) p (srcX s * den s)
  if fwdValid s then
    if ((s.rf Reg.FIRE_CTRL 8 8 * den s : Nat) : Int) < dx then none else some (predict p s)
  else if srcLastFwd s && decide (dx ≤ 0) then some ((srcT s : Int) * 4)
  else none

/-- Count a tick UNFIRED and mark its lines PARTIAL (R146, R150, R153, R155). -/
def countUnfired (k : Nat) (s : State) : State :=
  stat 0x17 Reg.FIRE_LINES_UNFIRED 1 (markShares k (heads32.filter fun h => headCfg h s) s)

/-- A head frame is not sent: LATELINE, and every line with a share in the tick is PARTIAL (R75, R146, R156). -/
def lateLine (k : Nat) (s : State) : State :=
  markShares k (heads32.filter fun h => headCfg h s) (errInc 0x17 1 (raise 0x17 10 (stat 0x17 Reg.FIRE_LATELINE 1 s)))

/-- The record of fired nozzles of head `h` shifts at a tick decided for it (R143). -/
def histShift (s : State) : State :=
  { s with fire := { s.fire with hist := s.fire.hist.map fun l => ([] :: l).take 10 } }

/-- The history bits of a nozzle before tick `k` (R143). -/
def histBits (h k j : Nat) (s : State) : Nat :=
  let depth := s.rf Reg.FIRE_CTRL 1 2 + 1
  let i := s.fire.nextDec - 1 - k
  let l := at' [] s.fire.hist h
  ofBits ((List.range depth).map fun b => at' false (at' [] l (i + 1 + b)) j)

/-- The waveform index of a nozzle (R143). -/
def waveOf (h k j level : Nat) (s : State) : Nat :=
  let idx := if s.rb Reg.FIRE_CTRL 0 then level + 4 * histBits h k j s else level
  fld (s.reg (Reg.HIST (s.rf Reg.FIRE_HIST_BANK 0 1) h idx)) 0 3

/-- Replace one head's part of a tick. -/
def setHeadTick (k h : Nat) (f : HeadTick → Option HeadTick) (s : State) : State :=
  { s with fire := { s.fire with ticks := s.fire.ticks.map fun t =>
      if t.serial = k then { t with heads := t.heads.filterMap fun x => if x.h = h then f x else some x } else t } }

/-- Frames sent to a head whose edge has not left (R142, R183). -/
def waitingFrames (h : Nat) (s : State) : Nat :=
  (s.fire.ticks.map fun t => (t.heads.filter fun x => x.h == h && x.sent).length).foldl (· + ·) 0

/-- Frames of a head whose edge has not left, those of pending segments among them (R142). -/
def outstanding (h : Nat) (s : State) : Nat := (s.fire.ticks.map fun t => (t.heads.filter fun x => x.h == h).length).foldl (· + ·) 0

/-- A unit of work of pipeline `k` completes, its deadline the instant the web comes to position `p`: the least slack of the open window
follows, in 1/256 line period (R65). Without a valid forward speed there is no line period, and none is measured (log entry 24). -/
def slackNote (k p : Nat) (s : State) : State :=
  if fwdValid s then slackPut k (dposD (den s) p (presentPos (den s) s) * 256 / (max 1 (num s) : Nat)) s else s

/-- The line period in 1/(256 · den) ps at the present speed. -/
def periodNum (s : State) : Nat := srcTc s * num s * 1000

/-- A head of a decided tick has all its row segments: judge the lead and send its frame (R75, R142, R143, R168). A head that has been
lost since gets none and counts a LATELINE (R156); one whose watchdog bit is set gets none (R154). Without a valid forward speed there
is no line period to judge the lead in, and the frame is sent (log entry 88). -/
def buildFrame (k h ser : Nat) (s : State) : State :=
  let rows := s.fire.reads.filter fun r => r.tick == k && r.h == h
  let s := { s with fire := { s.fire with reads := s.fire.reads.filter fun r => !(r.tick == k && r.h == h) } }
  -- a quiesced HLINK starts no frame (R442)
  if s.quiescing 0x18 || s.quiescing 0x19 then s
  else if rows.any (·.bad) then flushHead h (setHeadTick k h (fun _ => none) (markShares k [h] s))
  else if s.rb Reg.FIRE_WDOG h then setHeadTick k h (fun _ => none) (markShares k [h] s)
  else if !headUp h s then lateLine k (setHeadTick k h (fun _ => none) s)
  else
    let n := headCount h s
    let rr := max 1 (rowCount h s)
    let levels := (List.range n).map fun j =>
      match rows.find? fun r => r.r == j % rr with
      | some r => at' 0 (r.levels.getD []) (j / rr)
      | none => 0
    let x := s.head h
    let start := max (s.timeNs64 * 1000 + 6 * s.rf Reg.FAB_BEAD_PS 0 12 + ser) x.laneFree + (laneWait (headLane h s) s).getD 0
    let len := (payloadBytes n + 24) * symbolPs (s.lf (Reg.HEADS_CFG h) 1 3)
    let p := tickPos k s
    let gap : Int := ((predict p s + phase h s) * 250 - (start : Int)) * (256 * den s : Nat)
    let normal := if lead s = 2 then 1 else 2
    let fwd := fwdValid s
    let s := if fwd then slackPut 2 ((gap - (2 * periodNum s : Nat)) * 256 / (max 1 (periodNum s) : Nat)) s else s
    if fwd ∧ gap < (periodNum s : Nat) then lateLine k (setHeadTick k h (fun _ => none) s)
    else
      let s := if fwd ∧ gap < ((normal * periodNum s : Nat) : Int) then
          raise 0x17 9 (stat 0x17 Reg.FIRE_LEADSHORT 1 s) else s
      let seq := (x.nextEdge + waitingFrames h s) % 65536
      let waves := (List.range n).map fun j => waveOf h k j (at' 0 levels j) s
      let sub := if fwd then min 0xFFFF (divRound (srcTc s * num s : Nat) (den s * 2048)).toNat else 0
      let body := lineBody fwd.toNat (claim s) (k % 2 ^ 32) seq sub n h x.frameNo waves
      let s := s.setHead h { x with frameNo := (x.frameNo + 1) % 256,
                                    laneFree := start + len, cmdFree := if start < x.cmdFree then x.cmdFree + len else x.cmdFree }
      let s := stat 0x18 Reg.HLINK_FRAMES 1 (emit (.head h (frame body)) s)
      let s := setHeadTick k h (fun x => some { x with sent := true, seq := seq, levels := levels }) s
      let i := s.fire.nextDec - 1 - k
      { s with fire := { s.fire with hist := modAt s.fire.hist h fun l => setAt l i (levels.map (· != 0)),
                                     subTicks := if fwd then s.fire.subTicks ++ [(k, h)] else s.fire.subTicks } }

/-- All row reads of a head for a tick have returned. -/
def rowsDone (k h : Nat) (s : State) : Bool :=
  s.fire.reads.all fun r => !(r.tick == k && r.h == h) || r.levels.isSome

/-- DELAY issues the row reads of tick `k` (R141). -/
def issueReads (k : Nat) (s : State) : State :=
  let hs := heads32.filter fun h => headInUse h s
  let reads := hs.flatMap fun h => (List.range (rowCount h s)).map fun r =>
    (⟨k, h, r, if rowDelay h r s ≤ k then some (k - rowDelay h r s) else none, none, false⟩ : RowRead)
  let s := idleLine k s
  { s with fire := { s.fire with
      nextRead := k + 1, reads := s.fire.reads ++ reads, ticks := s.fire.ticks ++ [⟨k, tickPos k s, 0, false, []⟩] } }

/-- Issue every row read whose position has been reached (R141). -/
def readLoop : Nat → State → State
  | 0, s => s
  | f + 1, s =>
    let k := s.fire.nextRead
    if reached (den s) (moveD (den s) (tickPos k s) (-(((lead s + 1) * num s : Nat) : Int))) s then readLoop f (issueReads k s)
    else s

/-- Set the state of a tick. -/
def setTickSt (k st : Nat) (unf : Bool) (hs : List HeadTick) (s : State) : State :=
  { s with fire := { s.fire with ticks := s.fire.ticks.map fun t =>
      if t.serial = k then { t with st := st, unfired := unf, heads := hs } else t } }

/-- Remove a tick and its reads. -/
def dropTick (k : Nat) (s : State) : State :=
  { s with fire := { s.fire with
      ticks := s.fire.ticks.filter fun t => t.serial != k, reads := s.fire.reads.filter fun r => r.tick != k } }

/-- The heads of a decided tick, one after another (R142 step 3). -/
def decideHead (k ser h : Nat) (s : State) : State :=
  if !headInUse h s then s
  else if s.rb Reg.FIRE_WDOG h then markShares k [h] s
  else if !headUp h s then lateLine k s
  else
    let s := { s with fire := { s.fire with ticks := s.fire.ticks.map fun t =>
      if t.serial = k then { t with heads := t.heads ++ [⟨h, false, 0, [], none⟩] } else t } }
    if rowsDone k h s then buildFrame k h ser s else s

/-- The overspeed test (R151): drop, and the schedule to keep. -/
def overspeed (p : Nat) (s : State) : Bool × Option Int :=
  if !fwdValid s then (false, s.fire.lastSched)
  else
    let c := predict p s
    let m : Int := (minPeriod s * 4 : Nat)
    let sched := match s.fire.lastSched with
      | some l => if c < l + m then l + m else c
      | none => c
    if m < 2 * (sched - c) then (true, s.fire.lastSched) else (false, some sched)

/-- FIRE decides tick `k` (R142). -/
def decideTick (k ser : Nat) (s : State) : State :=
  let p := tickPos k s
  let s := histShift { s with fire := { s.fire with nextDec := k + 1 } }
  let s := if s.rb Reg.PACE_GUAR 8 then s else stat 0x03 Reg.PACE_LAPSE_LINES 1 s
  if dposD (den s) p s.fire.bench ≤ 0 then countUnfired k (dropTick k s)
  else if s.fire.st = 3 then
    setTickSt k 1 true [] { s with fire := { s.fire with reads := s.fire.reads.filter fun r => r.tick != k } }
  else
    let o := overspeed p s
    if o.1 then
      let s := errInc 0x17 0 (raise 0x17 8 (stat 0x17 Reg.FIRE_LINES_DROPPED 1 s))
      dropTick k (markShares k (heads32.filter fun h => headCfg h s) s)
    else
      let s := setTickSt k 1 false [] { s with fire := { s.fire with lastSched := o.2 } }
      each heads32 (decideHead k ser) s

/-- Decide every tick whose decision point has been passed, in serial order (R141), while no head has LEAD + 1 frames outstanding
(R142). The boundary work of the other pages at a
line decision is given as `bnd`. -/
def decideLoop (bnd : State → State) (ser : Nat) : Nat → State → State
  | 0, s => s
  | f + 1, s =>
    let k := s.fire.nextDec
    if k < s.fire.nextRead ∧ (heads32.all fun h => decide (outstanding h s ≤ lead s)) ∧ reached (den s) (moveD (den s) (tickPos k s) (-((lead s * num s : Nat) : Int))) s then
      decideLoop bnd ser f (decideTick k ser (bnd s))
    else s

/-- The instant one head's trigger gets, and which term of R144 chose it: 0 the candidate, 1 the minimum period, 2 now + 32 ns. -/
def trigInstant (c : Int) (h : Nat) (s : State) : Int × Nat :=
  let a := c + phase h s
  let b : Int := match (tget none s.fire.lastTrig h) with
    | some l => (l : Int) + ((minPeriod s * 4 : Nat) : Int)
    | none => a
  let n := nowQ s + 128
  if a ≥ b ∧ a ≥ n then (a, 0) else if b ≥ n then (b, 1) else (n, 2)

/-- A MIRROR TICK record: the heads that did not fire the tick (R362, R363). -/
def mirrorTick (k : Nat) (fired : List Nat) (s : State) : State :=
  let lost := (heads32.filter fun h => headInUse h s && !(h ∈ fired)).map fun h => 2 ^ h
  let c := currentPage s
  let cursors := ((k, c.2.1, c.2.2.1, c.2.2.2) :: s.pair.cursors).take 256
  let s := { s with pair := { s.pair with ticks := s.pair.ticks + 1, joined := s.pair.joined.map (· + 1), cursors := cursors } }
  if lost.isEmpty || s.pair.role != 1 then s
  else { s with pair := { s.pair with recs := s.pair.recs ++
    [beBytes 4 (1 * 2 ^ 24) ++ beBytes 4 k ++ beBytes 4 (lost.foldl (· + ·) 0) ++ beBytes 4 0] } }

/-- Commit a tick: every instant is fixed and the benchmark moves (R144). -/
def commitTick (t : Tick) (trigs : List (HeadTick × (Int × Nat))) (s : State) : State :=
  let s := each (t.heads.filter fun x => !x.sent) (fun _ s => lateLine t.serial s) s
  let hs := trigs.map fun p => { p.1 with trig := some p.2.1.toNat }
  let s := setTickSt t.serial 2 t.unfired hs s
  let s := { s with fire := { s.fire with
    bench := t.pos, nextCom := t.serial + 1, lastCom := some (t.serial, s.timeNs64),
    lastTrig := trigs.foldl (fun l p => tset none l p.1.h (some p.2.1.toNat)) s.fire.lastTrig,
    reads := s.fire.reads.filter fun r => r.tick != t.serial } }
  let s := if trigs.any fun p => p.2.2 == 1 then raise 0x17 11 (stat 0x17 Reg.FIRE_SQUEEZED 1 s) else s
  let s := if trigs.any fun p => p.2.2 == 2 then stat 0x17 Reg.FIRE_CATCHUP 1 s else s
  let s := if t.unfired then countUnfired t.serial s else s
  let s := if trigs.isEmpty then dropTick t.serial s
    else stat 0x17 Reg.FIRE_LINES_FIRED 1 { s with pace := { s.pace with lines := s.pace.lines + 1 } }
  mirrorTick t.serial (trigs.map (·.1.h)) s

/-- Commit decided ticks in serial order while they are due (R144). -/
def commitLoop : Nat → State → State
  | 0, s => s
  | f + 1, s =>
    match s.fire.ticks.find? fun t => t.st == 1 with
    | none => s
    | some t =>
      match candidate t.pos s with
      | none => s
      | some c =>
        let trigs := (t.heads.filter (·.sent)).map fun x => (x, trigInstant c x.h s)
        let first := trigs.foldl (fun m p => if p.2.1 < m then p.2.1 else m) (match trigs with | p :: _ => p.2.1 | [] => c)
        if first - 192 ≤ nowQ s then commitLoop f (commitTick t trigs s) else s

/-- Steps the grid may take now. -/
def gridFuel (s : State) : Nat :=
  let k := s.fire.nextRead
  pitchesTo (den s) (num s) (moveD (den s) (tickPos k s) (-(((lead s + 1) * num s : Nat) : Int))) s + 1

/-- One evaluation: row reads, decisions and commits (R141, R142, R144). -/
def fireEval (bnd : State → State) (ser : Nat) (s : State) : State :=
  if s.fire.st < 2 ∨ !s.fire.anchored ∨ !posValid s then s
  else
    let s := if s.quiescing 0x16 || s.quiescing 0x17 then s else readLoop (gridFuel s) s
    let s := decideLoop bnd ser (s.fire.ticks.length + 1) s
    commitLoop (s.fire.ticks.length + 1) s

/-- Leave RUN for INHIBIT: frames are flushed, decided ticks will commit without frames (R152, R153, R155). -/
def enterInhibit (s : State) : State :=
  let s := each heads32 dropFrames s
  let s := { s with fire := { s.fire with
    st := 3,
    ticks := (s.fire.ticks.filter fun t => t.st != 2).map fun t => if t.st = 1 then { t with unfired := true, heads := [] } else t,
    reads := s.fire.reads.filter fun r => s.fire.ticks.any fun t => t.serial == r.tick && t.st == 0 } }
  flushAll s

/-- The position is valid again (R155). -/
def posRestored (s : State) : State :=
  let s := if s.fire.anchored then
      let n := pitchesTo (den s) (num s) (tickPos s.fire.nextRead s) s
      let past := s.fire.ticks.filter fun t => t.st != 2 && reached (den s) t.pos s
      let s := each past (fun t s =>
        let u := countUnfired t.serial (dropTick t.serial s)
        let m := max s.fire.nextDec (t.serial + 1)
        { u with fire := { u.fire with bench := t.pos, nextCom := t.serial + 1, nextDec := m } }) s
      each (List.range n) (fun _ s =>
        let k := s.fire.nextRead
        let p := tickPos k s
        if reached (den s) p s then
          let s := countUnfired k s
          let m := max s.fire.nextDec (k + 1)
          { s with fire := { s.fire with nextRead := k + 1, nextDec := m, nextCom := k + 1, bench := p } }
        else s) s
    else s
  if s.fire.latch then s else { s with fire := { s.fire with st := 2 } }

/-- FIRE looks at the validity of the position (R155). -/
def checkPos (s : State) : State :=
  let inv := !posValid s
  if inv == s.fire.posInv then s
  else
    let s := { s with fire := { s.fire with posInv := inv } }
    if s.fire.st < 2 then s
    else if inv then yieldCause 8 (enterInhibit (raise 0x17 14 s))
    else posRestored s

/-- Triggers inactive: every pulse in progress is cut (R149, R152). -/
def cutPulses (s : State) : State :=
  each heads32 (fun h s => if (tget none s.fire.trigOn h).isSome then
      emit (.trig h false 0) { s with fire := { s.fire with trigOn := tset none s.fire.trigOn h none } } else s) s

/-- Forget the grid (STOP, START). -/
def unanchor (s : State) : State :=
  { s with fire := { s.fire with
    anchored := false, ticks := [], reads := [], nextDec := s.fire.nextRead, nextCom := s.fire.nextRead,
    lastSched := none } }

/-- FIRE leaves RUN or INHIBIT for READY or DISABLED (FIRE states). -/
def fireHalt (st : Nat) (s : State) : State :=
  let s := unanchor (flushAll (cutPulses s))
  { s with fire := { s.fire with st := st } }

/-- START (FIRE states, R148, R152). -/
def fireStart (s : State) : State :=
  if s.fire.st ≠ 1 then cmdError 0x17 Reg.FIRE_CMD_STATUS (if s.fire.st = 0 then 6 else 1) s
  else if !s.enabled 0x16 then cmdError 0x17 Reg.FIRE_CMD_STATUS 0x81 s
  else
    let s := unanchor s
    let inv := !posValid s
    let s := { s with fire := { s.fire with
      bench := presentPos (den s) s, posInv := inv, st := if inv || s.fire.latch then 3 else 2, lastLine := none } }
    cmdDone 0x17 Reg.FIRE_CMD_STATUS (if inv then raise 0x17 14 s else s)

/-- STOP (FIRE states). -/
def fireStop (s : State) : State :=
  if s.fire.st < 2 then cmdError 0x17 Reg.FIRE_CMD_STATUS (if s.fire.st = 0 then 6 else 1) s
  else cmdDone 0x17 Reg.FIRE_CMD_STATUS (fireHalt 1 s)

/-- RESUME (FIRE states, R153): with the position invalid nothing changes (log entry 65). -/
def fireResume (s : State) : State :=
  if s.fire.st ≠ 3 then cmdError 0x17 Reg.FIRE_CMD_STATUS (if s.fire.st = 0 then 6 else 1) s
  else if s.fire.pinLow then cmdError 0x17 Reg.FIRE_CMD_STATUS 0x80 s
  else if !posValid s then cmdError 0x17 Reg.FIRE_CMD_STATUS 1 s
  else cmdDone 0x17 Reg.FIRE_CMD_STATUS { s with fire := { s.fire with latch := false, st := 2 } }

/-- ESTOP_N is latched (R152). -/
def estopLatch (s : State) : State :=
  let s := errInc 0x17 3 (raise 0x17 13 { s with fire := { s.fire with latch := true } })
  if s.fire.st = 2 then enterInhibit s else flushAll s

/-- Every committed edge whose instant falls in `[a, b)` (250 ps) is suppressed (R152). -/
def suppressEdges (a b : Nat) (s : State) : State :=
  each (s.fire.ticks.filter fun t => t.st == 2) (fun t s =>
    each t.heads (fun x s => match x.trig with
      | some i => if a ≤ i ∧ i < b then
          histClear x.h t.serial (markShares t.serial [x.h] (setHeadTick t.serial x.h (fun _ => none) s)) else s
      | none => s) s) s

/-- The first tick of the present grid at or above position `p` (R132). -/
def firstTickAt (p : Nat) (s : State) : Nat :=
  let k := s.fire.nextRead
  let n : Int := (max 1 (num s) : Nat)
  ((k : Int) + (dposD (den s) p (tickPos k s) + n - 1) / n).toNat

/-- The grid at a page boundary (R132): the serial of line 0 of a page that starts at `start` (1/DEN counts). What R132 asks at the page
start is judged ahead, as the grid will stand there: the last row of the last line before fires on a tick below `start`, and the tick
decided last lies below it. The ticks of the old grid below `start` stay, as idle ticks. -/
def anchorPage (start len rowMax : Nat) (s : State) : Nat × State :=
  let k := s.fire.nextRead
  if s.fire.st < 2 then
    (k, { s with fire := { s.fire with nextRead := k + len, nextDec := k + len, nextCom := k + len, lastLine := some (k + len - 1) } })
  else if !s.fire.anchored then
    (k, { s with fire := { s.fire with anchored := true, segs := ⟨k, start, den s, num s⟩ :: s.fire.segs, lastLine := some (k + len - 1) } })
  else
    let past := fun (t : Nat) => decide (0 < dposD (den s) start (tickPos t s))
    let fired := match s.fire.lastLine with
      | some l => past (l + rowMax)
      | none => true
    let first := firstTickAt start s
    let least := match s.fire.lastLine with
      | some l => l + 1
      | none => 0
    if s.rb Reg.FIRE_CTRL 16 && fired && (s.fire.nextDec == 0 || past (s.fire.nextDec - 1)) then
      let k0 := max least (max first s.fire.nextDec)
      (k0, { s with fire := { s.fire with
        segs := ⟨k0, start, den s, num s⟩ :: s.fire.segs, lastLine := some (k0 + len - 1), nextRead := min k k0,
        ticks := s.fire.ticks.filter fun t => decide (t.serial < k0), reads := s.fire.reads.filter fun r => decide (r.tick < k0) } })
    else
      let k0 := max least first
      let err := dposD (den s) (tickPos k0 s) start
      (k0, { (s.setReg Reg.FIRE_ANCHOR_ERR (W (wrapN 32 err))) with fire := { s.fire with lastLine := some (k0 + len - 1) } })

/-- FIRE_STATE as it stands (R160). -/
def fireStateWord (s : State) : Word :=
  W (s.fire.st + 256 * s.fire.latch.toNat + 512 * s.fire.pinLow.toNat + 1024 * (!posValid s).toNat +
     2048 * (fwdValid s).toNat + 4096 * (decide (2 ≤ s.fire.st) && posValid s && !fwdValid s).toNat +
     8192 * s.fire.anchored.toNat)

/-- FIRE_DEFICIT as it stands (R148): counts below the benchmark, rounded up. -/
def fireDeficit (s : State) : Word :=
  let d := dposD (den s) s.fire.bench (srcX s * den s)
  if d ≤ 0 then 0 else W ((d.toNat + den s - 1) / den s)

/-- The tap chains of the heads. -/
def taps32 (s : State) : List TapSt := (List.range 32).map fun h => tget Reset.tap s.fire.taps h

/-- FIRE_TAPCAL as it stands (R147). -/
def tapcalWord (s : State) : Word :=
  let ms := ((taps32 s).filter (·.measured)).map (·.mPrev)
  match ms with
  | [] => 0
  | m :: t => W (t.foldl min m + 256 * t.foldl max m + 65536 * (!(taps32 s).any fun x => 16 ≤ x.fails).toNat)

/-- One step of a setting towards a target. -/
def stepTo (x target : Nat) : Nat := if x < target then x + 1 else if target < x then x - 1 else x

/-- The background rule on a head's tap chain (R147, R239). -/
def tapMeasure (h m : Nat) (s : State) : State :=
  let t := tget Reset.tap s.fire.taps h
  let agree := t.measured ∧ (max m t.mPrev) - (min m t.mPrev) ≤ 1
  let tgt := fun q => (q * (m + t.mPrev) * 2 + 8) / 16
  let t' := if agree then
      { t with set1 := stepTo t.set1 (tgt 1), set2 := stepTo t.set2 (tgt 2), set3 := stepTo t.set3 (tgt 3), fails := 0 }
    else { t with fails := t.fails + 1 }
  let t' := { t' with mPrev := m, measured := true }
  let s := { s with fire := { s.fire with taps := tset Reset.tap s.fire.taps h t' } }
  if !agree ∧ t'.fails = 16 then raise 0x17 15 s else s

end Sys2Proof.Machine
end

