-- ==== Sys2Proof/Machine/CamOps.lean ====
section
/-! DEFINITION. Cameras, the image pipeline and the comparator (R209 to R232). -/
namespace Sys2Proof.Machine

/-- A camera port. -/
def State.cam (s : State) (p : Nat) : CamSt := tget Reset.cam s.cams p

/-- Replace a camera port. -/
def State.setCam (s : State) (p : Nat) (x : CamSt) : State := { s with cams := tset Reset.cam s.cams p x }

/-- Page number of a port. -/
abbrev camPage (p : Nat) : Nat := 0x20 + p

/-- A port that is on: its page is enabled and its receiver is on (log entry 30). -/
def camOn (p : Nat) (s : State) : Bool := s.enabled (camPage p) && s.lb (Reg.CAM_CTRL p) 0

/-- The ports that are on. -/
def camPorts (s : State) : List Nat := (List.range 4).filter fun p => camOn p s

/-! ## Triggering (R211) -/

/-- The level of CAM_TRIG[p] (R211). -/
def camTrig (p : Nat) (s : State) : Bool :=
  let c := s.lf (Reg.CAM_CTRL p) 16 3
  s.enabled (camPage p) && s.lb (Reg.CAM_CTRL p) 19 && cmpLevel c (tget Reset.cmp s.web.cmp c).active s

/-- The level of CAM_FLASH[p] (R211). -/
def camFlash (p : Nat) (s : State) : Bool :=
  let c := s.lf (Reg.CAM_CTRL p) 20 3
  s.enabled (camPage p) && s.lb (Reg.CAM_CTRL p) 23 && cmpLevel c (tget Reset.cmp s.web.cmp c).active s

/-- A frame skipped or missing counts towards CAMLOST (R211). -/
def camBad (p : Nat) (s : State) : State :=
  let x := s.cam p
  let s := s.setCam p { x with bad := x.bad + 1, lost := x.lost || decide (4 ≤ x.bad + 1) }
  if x.bad + 1 = 4 ∧ !x.lost then raise (camPage p) 10 s else s

/-! ## The INSPECT model of a port (R227) -/

/-- INSPECT words 0x040 to 0x06C as staged. -/
def stagedModel (s : State) : List Word := (List.range 12).map fun i => s.reg (0x40025040 + 4 * i)

/-- PAPER. -/
def mPaper (m : List Word) : Int := fld (at' 0 m 1) 0 12

/-- abs[L]. -/
def mAbs (m : List Word) (l : Nat) : Nat :=
  if l = 1 then fld (at' 0 m 2) 0 12 else if l = 2 then fld (at' 0 m 2) 16 12 else if l = 3 then fld (at' 0 m 3) 0 12 else 0

/-- Kernel tap [i][j]: t = 5 j + i. -/
def mTap (m : List Word) (i j : Nat) : Nat := fld (at' 0 m (5 + (5 * j + i) / 4)) (8 * ((5 * j + i) % 4)) 8

/-! ## Commits of CAM, ISP and INSPECT (R135, R221, R224, R226) -/

/-- DELAY_ROW_MAX: the largest enabled live row delay. -/
def delayRowMax (s : State) : Nat :=
  (heads32.flatMap fun h => ((List.range 8).filter fun r => rowEn h r s).map fun r => rowDelay h r s).foldl max 0

/-- The farthest camera line of a port from a reading of its registers (R221). -/
def farLine (rd : Nat → Word) (p : Nat) : Nat :=
  (fld (rd (Reg.CAM_GEOM_ROW p)) 0 24 + fld (rd (Reg.CAM_SIZE p)) 16 13 * fld (rd (Reg.CAM_GEOM_STEP p)) 0 16 + 255) / 256 +
    fld (rd (Reg.CAM_GEOM_STEP p)) 16 12

/-- DELAY_INSP_LINES (R221). -/
def inspLines (s : State) : Nat := ((camPorts s).map fun p => farLine s.inForce p).foldl max 0

/-- R18 and R135 for a largest row delay, a farthest camera line and a ring depth. -/
def ringRule (rowMax insp lines : Nat) : Bool := decide (rowMax + insp ≤ lines) && decide (max rowMax insp + 128 ≤ lines)

/-- SCALE of an S2 configuration word, in pixels. -/
def s2Scale (cfg : Word) : Nat := 2 ^ (fld cfg 1 2 + 1)

/-- Record bytes of an S2 crop (R226). -/
def s2Bytes (rd : Nat → Word) (p : Nat) : Nat :=
  let sc := s2Scale (rd (Reg.CAM_S2_CFG p))
  32 + fld (rd (Reg.CAM_S2_CROPX p)) 16 14 / sc * (fld (rd (Reg.CAM_S2_CROPY p)) 16 13 / sc)

/-- Record bytes rounded up to the 64-byte boundary (R226). -/
def rec64 (n : Nat) : Nat := (n + 63) / 64 * 64

/-- The checks of a CAM commit (R135, R221, R226). -/
def camCommitOk (p : Nat) (s : State) : Bool :=
  let rd := s.reg
  let sc := s2Scale (rd (Reg.CAM_S2_CFG p))
  let x0 := fld (rd (Reg.CAM_S2_CROPX p)) 0 14
  let xw := fld (rd (Reg.CAM_S2_CROPX p)) 16 14
  let y0 := fld (rd (Reg.CAM_S2_CROPY p)) 0 12
  let yh := fld (rd (Reg.CAM_S2_CROPY p)) 16 13
  let own := if s.enabled (camPage p) && bit (rd (Reg.CAM_CTRL p)) 0 then farLine rd p else 0
  let insp := (((camPorts s).filter (· != p)).map fun q => farLine s.inForce q).foldl max own
  decide (fld (rd (Reg.CAM_WINDOW p)) 0 16 < fld (rd (Reg.CAM_WINDOW p)) 16 16) &&
  decide (64 + rec64 (s2Bytes rd p) ≤ fld (rd (Reg.CAM_RING_SIZE p 0)) 0 16 * 65536) &&
  decide (64 + rec64 8224 ≤ fld (rd (Reg.CAM_RING_SIZE p 1)) 0 16 * 65536) &&
  x0 % sc == 0 && xw % sc == 0 && y0 % sc == 0 && yh % sc == 0 &&
  decide (x0 + xw ≤ fld (rd (Reg.CAM_SIZE p)) 0 14) && decide (y0 + yh ≤ fld (rd (Reg.CAM_SIZE p)) 16 13) &&
  ringRule (delayRowMax s) insp (ringLines s)

/-- The live bank of a port's camera tables. -/
def camBank (p : Nat) (s : State) : Nat := s.rf Reg.ISP_BANK p 1

/-- A word of a port's live tables. -/
def camLive (p ofs : Nat) (s : State) : Word := s.reg (Reg.CAM_TABLE p (camBank p s) ofs)

/-- The defect list of a bank, up to the first VALID 0 (R223). -/
def defectList (p bank : Nat) (s : State) : List Word :=
  ((List.range 4096).map fun i => s.reg (Reg.CAM_TABLE p bank (4 * i))).takeWhile fun w => bit w 31

/-- Strictly rising. -/
def rising : List Nat → Bool
  | a :: b :: t => decide (a < b) && rising (b :: t)
  | _ => true

/-- The reserved bits of a camera table word (R223). -/
def camTableReserved (o : Nat) : Nat :=
  if o < 0x4000 then 0x7000E000
  else if o < 0x48C4 then 0xFFFF0000
  else if 0x5000 ≤ o ∧ o < 0x7000 then 0xF000F000
  else if 0x7000 ≤ o ∧ o < 0x7084 then 0xFFFF0000
  else 0

/-- The check of a port's inactive bank at an ISP commit (R224). -/
def ispBankOk (p : Nat) (s : State) : Bool :=
  let bank := 1 - camBank p s
  let base := Reg.CAM_TABLE p bank 0
  rising ((defectList p bank s).map fun w => fld w 16 12 * 8192 + fld w 0 13) &&
  (mrange base (base + 0x8000) s.words).all fun e => (e.2 &&& W (camTableReserved (e.1 - base))) == 0

/-- The ports an ISP or INSPECT commit still waits for. -/
def portsLeft (c : PortCommit) : List Nat := (List.range 4).filter fun p => !(p ∈ c.swapped)

/-- Port `p` swaps its banks and takes its ISP_CORR (R224). -/
def ispSwap (p : Nat) (s : State) : State :=
  copyLive (Reg.ISP_CORR p) (Reg.ISP_CORR p + 4) (s.setB Reg.ISP_BANK p (!s.rb Reg.ISP_BANK p))

/-- Port `p` takes the staged INSPECT set. -/
def inspTake (p : Nat) (s : State) : State := s.setCam p { s.cam p with model := stagedModel s }

/-- Every port has swapped: the commit ends (R224). -/
def portsDone (page : Nat) (s : State) : State :=
  commitEnd page (commitCount page (if page = 0x25 then copyLive (pg 0x25 0) (pg 0x25 0 + 0x1000) s else s))

/-- The boundary of port `p` for the ISP commit (`reset` clears Traverse's data of the port, R237). -/
def ispBoundary (reset : Nat → State → State) (p : Nat) (s : State) : State :=
  if !s.shadowPending 0x24 then s
  else
    let c := s.insp.isp.getD ⟨false, []⟩
    let first := match camPorts s with | q :: _ => q | [] => p
    if !c.checked ∧ p ≠ first then s
    else if !c.checked ∧ !((List.range 4).all fun q => ispBankOk q s) then
      commitRefuse 0x24 { s with insp := { s.insp with isp := none } }
    else
      let off := (List.range 4).filter fun q => !camOn q s && !(q ∈ c.swapped) && q != p
      let now := if p ∈ c.swapped then off else p :: off
      let s := each now (fun q s => reset q (ispSwap q s)) s
      let sw := c.swapped ++ now
      if 4 ≤ sw.length then portsDone 0x24 { s with insp := { s.insp with isp := none } }
      else { s with insp := { s.insp with isp := some ⟨true, sw⟩ } }

/-- The boundary of port `p` for the INSPECT commit. -/
def modelBoundary (reset : Nat → State → State) (p : Nat) (s : State) : State :=
  if !s.shadowPending 0x25 then s
  else
    let c := s.insp.model.getD ⟨false, []⟩
    let first := match camPorts s with | q :: _ => q | [] => p
    if !c.checked ∧ p ≠ first then s
    else
      let off := (List.range 4).filter fun q => !camOn q s && !(q ∈ c.swapped) && q != p
      let now := if p ∈ c.swapped then off else p :: off
      let s := each now (fun q s => reset q (inspTake q s)) s
      let sw := c.swapped ++ now
      if 4 ≤ sw.length then portsDone 0x25 { s with insp := { s.insp with model := none } }
      else { s with insp := { s.insp with model := some ⟨true, sw⟩ } }

/-- The boundary of a port's own CAM commit. -/
def camBoundary (reset : Nat → State → State) (p : Nat) (s : State) : State :=
  if !s.shadowPending (camPage p) then s
  else if camCommitOk p s then reset p (commitApply (camPage p) s)
  else commitRefuse (camPage p) s

/-! ## Stamps (R213 to R217) -/

/-- The stamp of frame `n` (R214, R215). -/
def stampOf (x : CamSt) (n : Nat) : Nat × Bool :=
  let r := x.changes.foldl (fun (cur : Nat × Bool) c =>
    if n < c.f + c.lag then cur
    else match c.f' with
      | some g => if g + c.lag ≤ n then (c.setId, false) else (cur.1, true)
      | none => (cur.1, true)) (x.setId, false)
  (r.1, r.2 || x.failed)

/-- The SET_ID in force once every list wholly in effect at frame `n` is folded into it, and the lists left. -/
def foldChanges (n id : Nat) : List SetChange → Nat × List SetChange
  | [] => (id, [])
  | c :: t => match c.f' with
    | some g => if g + c.lag ≤ n then foldChanges n c.setId t else (id, c :: t)
    | none => (id, c :: t)

/-- Lists wholly in effect at frame `n` are folded into the SET_ID in force. -/
def foldStamps (x : CamSt) (n : Nat) : CamSt :=
  let r := foldChanges n x.setId x.changes
  { x with setId := r.1, changes := r.2 }

/-- The frame index after a frame start with a frame number, and whether FNUMGAP is raised (R217). -/
def nextIdx (check : Bool) (x : CamSt) (num : Nat) : Nat × Bool :=
  if check && num != 0 then
    match x.lastNum with
    | some l => let d := (num + 65535 - l) % 65535; (x.idx + d, d != 1)
    | none => (x.idx + 1, false)
  else (x.idx + 1, false)

/-! ## Corrections (R218, R219) -/

/-- Rounded mean of two values. -/
def mean2 (a b : Nat) : Nat := (a + b + 1) / 2

/-- Black level. -/
def corrBlack (black : Nat) (l : List Nat) : List Nat := l.map fun v => v - black

/-- Static defects: a listed column takes the mean of its nearest unlisted neighbours. -/
def corrStatic (xs : List Nat) (l : List Nat) : List Nat :=
  (List.range l.length).map fun x =>
    if x ∈ xs then
      let left := ((List.range x).filter fun y => !(y ∈ xs)).getLast?
      let right := (List.range l.length).find? fun y => x < y && !(y ∈ xs)
      match left, right with
      | some a, some b => mean2 (at' 0 l a) (at' 0 l b)
      | some a, none => at' 0 l a
      | none, some b => at' 0 l b
      | none, none => at' 0 l x
    else at' 0 l x

/-- Dynamic defects: the corrected row and how many pixels were replaced. -/
def corrDynamic (thr : Nat) (l : List Nat) : List Nat × Nat :=
  if thr = 0 then (l, 0)
  else
    let hit := fun x => 0 < x && decide (x + 1 < l.length) &&
      ((decide (at' 0 l (x - 1) + thr < at' 0 l x) && decide (at' 0 l (x + 1) + thr < at' 0 l x)) ||
       (decide (at' 0 l x + thr < at' 0 l (x - 1)) && decide (at' 0 l x + thr < at' 0 l (x + 1))))
    ((List.range l.length).map fun x => if hit x then mean2 (at' 0 l (x - 1)) (at' 0 l (x + 1)) else at' 0 l x,
     ((List.range l.length).filter hit).length)

/-- Lens shading at a column and line: v × g with g interpolated between four knots. -/
def corrShade (g : Nat → Nat → Nat) (w h x y v : Nat) : Nat :=
  let gx := x * 32 / w
  let rx := x * 32 % w
  let gy := y * 16 / h
  let ry := y * 16 % h
  let q := (w - rx) * (h - ry) * g gx gy + rx * (h - ry) * g (gx + 1) gy + (w - rx) * ry * g gx (gy + 1) +
    rx * ry * g (gx + 1) (gy + 1)
  min ((v * q + 2048 * (w * h)) / (4096 * (w * h))) 4095

/-- A corrected row: R for every pixel, R before REFL, dynamic and static counts (R218). -/
def correctRow (p y : Nat) (f : CamFrame) (l : List Nat) (s : State) : List Nat × List Nat × Nat × Nat :=
  let c := s.inForce (Reg.ISP_CORR p)
  let xs := if bit c 28 then ((defectList p (camBank p s) s).filter fun w => fld w 16 12 == y).map fun w => fld w 0 13 else []
  let a := corrBlack (fld c 0 12) l
  let b := corrStatic xs a
  let d := corrDynamic (fld c 16 12) b
  let g := fun gx gy => fld (camLive p (0x4000 + 4 * (33 * gy + gx)) s) 0 16
  let e := if bit c 29 then (List.range d.1.length).map fun x => corrShade g f.width f.height x y (at' 0 d.1 x) else d.1
  let r := e.map fun v => fld (camLive p (0x5000 + 4 * (v / 2)) s) (16 * (v % 2)) 12
  (r, e, d.2, (xs.filter fun x => decide (x < l.length)).length)

/-- Place of column `x` in 1/65,536 contone pixel per WIDTH (R219): the exact place times WIDTH × 65,536. -/
def placeOf (f : CamFrame) (x : Nat) : Int :=
  let j := x * 32 / f.width
  let r := x * 32 % f.width
  f.col0 * 256 * f.width + (x * f.cstep * f.width : Nat) +
    256 * (at' 0 f.knots j * ((f.width - r : Nat) : Int) + at' 0 f.knots (j + 1) * (r : Int))

/-- The column whose place interval holds a contone place in 1/256 pixel. -/
def columnOf (f : CamFrame) (u : Nat) : Option Nat :=
  let v : Int := (u * 256 * f.width : Nat)
  (List.range f.width).find? fun x => decide (placeOf f x ≤ v) && decide (v < placeOf f (x + 1))

/-- u_n: the place of a nozzle in its live map entry (R227). -/
def nozzlePlace (n : Nat) (s : State) : Nat :=
  let w := s.reg (Reg.MAP_ENTRY (s.rf Reg.MAP_BANK 0 1) n 0)
  fld w 0 16 * 256 + fld w 16 8

/-! ## Which row covers which line (R220, R222) -/

/-- Where line `k` lies in a frame with target `x`: the row index, not bounded (R220). -/
def rowIndex (x row0 step k : Nat) (s : State) : Int :=
  let g := tickSeg k s
  (dposD g.den (x * g.den) (tickPos k s) * 256 - ((row0 * g.num : Nat) : Int)) / ((max 1 (step * g.num) : Nat) : Int)

/-- What a port has for a line. -/
inductive Sight where
  /-- Row `y` of a frame covers it. -/
  | row (f : CamFrame) (y : Nat)
  /-- No frame covers it and none will. -/
  | skip
  | wait
  deriving DecidableEq, Repr

/-- What port `p` has for line `k` (R220, R222). -/
def sight (p k : Nat) (s : State) : Sight :=
  let x := s.cam p
  let all := x.frames ++ x.cur.toList
  let idx := fun (f : CamFrame) => rowIndex f.x f.row0 f.step k s
  match all.find? fun f => decide (0 ≤ idx f) && decide (idx f < f.height) with
  | some f => if f.done || decide ((idx f).toNat < f.rows.length) then .row f (idx f).toNat else .wait
  | none =>
    if x.misses.any fun m => decide (0 ≤ rowIndex m.x m.row0 m.step k s) then .skip
    else if all.any fun f => decide ((f.height : Int) ≤ idx f) then .skip
    else .wait

/-- Every line before this serial is past its inspection read. -/
def inspDone (s : State) : Nat := match s.insp.reads with | k :: _ => k | [] => s.insp.next

/-- The record of a line past its inspection read. -/
def lineRec (k : Nat) (s : State) : Option LineRec := s.insp.lines.find? fun r => r.serial == k

/-- The lines a row covers (R220). -/
def rowLines (f : CamFrame) (y : Nat) (s : State) : List LineRec :=
  s.insp.lines.filter fun r => rowIndex f.x f.row0 f.step r.serial s == (y : Int)

/-- Every line that row `y` and the rows of smaller index down to `y - n` cover is past its read. -/
def rowReady (f : CamFrame) (y n : Nat) (s : State) : Bool :=
  f.done && decide (rowIndex f.x f.row0 f.step (inspDone s) s < ((y - n : Nat) : Int))

/-! ## The comparator (R227 to R229) -/

/-- a[x] of one row: the absorbance of every drop on it (R227). -/
def rowAbs (f : CamFrame) (y : Nat) (s : State) : List Nat :=
  each (rowLines f y s) (fun r l =>
    each (List.range r.levels.length) (fun n l =>
      let v := at' 0 r.levels n
      if v = 0 then l else match columnOf f (nozzlePlace n s) with
        | some x => modAt l x fun a => min (a + mAbs f.model v) 65535
        | none => l) l) (List.replicate f.width 0)

/-- The rows y − 2 to y + 2 of drops. -/
def absRows (f : CamFrame) (y : Nat) (s : State) : List (List Nat) :=
  (List.range 5).map fun j => if 2 ≤ y + j then rowAbs f (y + j - 2) s else []

/-- expected[x] from five rows of drops (R227). -/
def expectedAt (f : CamFrame) (rows : List (List Nat)) (x : Nat) : Int :=
  let sum := ((List.range 5).map fun j => ((List.range 5).map fun i =>
    if 2 ≤ x + i then mTap f.model i j * at' 0 (at' [] rows j) (x + i - 2) else 0).foldl (· + ·) 0).foldl (· + ·) 0
  clampI 0 4095 (mPaper f.model - ((sum / 128 : Nat) : Int))

/-- Frame `f` of port `p` is the first accepted frame that covers line `k` there. -/
def ownLine (p : Nat) (f : CamFrame) (k : Nat) (s : State) : Bool :=
  match sight p k s with
  | .row g _ => g.idx == f.idx
  | _ => false

/-- D of one row by column; empty where the row is not inspected (R228). -/
def judgeRow (p : Nat) (f : CamFrame) (y : Nat) (s : State) : List (Option Int) :=
  let ls := rowLines f y s
  let row := at' default f.rows y
  if f.withheld || ls.isEmpty || !(ls.all (·.inspected)) || !(ls.any fun r => ownLine p f r.serial s) then []
  else
    let rows := absRows f y s
    (List.range f.width).map fun x =>
      if x < row.valid then some (((at' 0 row.px x : Nat) : Int) - expectedAt f rows x) else none

/-- Pixels of a cell beyond DEF_THR with one sign: their |D|. -/
def cellHits (f : CamFrame) (c cx : Nat) (dark : Bool) : List Nat :=
  let thr := fld (at' 0 f.model 4) 0 12
  (f.judged.filter fun r => r.1 / 16 == c).flatMap fun r =>
    (((r.2.drop (16 * cx)).take 16).filterMap id).filterMap fun d =>
      if decide (thr < d.natAbs) && (decide (d < 0) == dark) then some d.natAbs else none

/-- The cell is a defect of that sign (R228). -/
def cellBad (f : CamFrame) (c cx : Nat) (dark : Bool) : Bool :=
  decide (fld (at' 0 f.model 4) 16 8 ≤ (cellHits f c cx dark).length)

/-- Runs of adjacent defect cells, at most 16 cells each: first cell and length. -/
def cellRuns (l : List Nat) : List (Nat × Nat) :=
  (l.foldl (fun (acc : List (Nat × Nat)) c =>
    match acc with
    | (a, len) :: r => if c = a + len ∧ len < 16 then (a, len + 1) :: r else (c, 1) :: acc
    | [] => [(c, 1)]) []).reverse

/-- Put a record into a stream ring (R226): its byte offset, or none where it does not fit. -/
def ringPut (p r : Nat) (rec_ : List Byte) (s : State) : Option Nat × State :=
  let size := s.lf (Reg.CAM_RING_SIZE p r) 0 16 * 65536
  let w := (s.reg (Reg.CAM_RING_WPTR p r)).toNat
  let rp := (s.reg (Reg.CAM_RING_RPTR p r)).toNat
  let used := (((w : Int) - rp) % (size : Int)).toNat
  if rec_.length + used + 64 ≤ size then
    let base := s.lf (Reg.CAM_RING_BASE p r) 0 18 * 65536
    let first := rec_.take (size - w)
    let s := (s.dramWrite (base + w) first).dramWrite base (rec_.drop (size - w))
    (some w, s.setReg (Reg.CAM_RING_WPTR p r) (W ((w + rec64 rec_.length) % size)))
  else (none, count (camPage p) (Reg.CAM_RING_DROPS p r) (raise (camPage p) (15 + r) s))

/-- The header of a stream record (R226). -/
def recHeader (tag p : Nat) (f : CamFrame) (x0 y0 w h scale : Nat) (flagged : Bool) (seq : Nat) : List Byte :=
  leBytes 2 tag ++ leBytes 1 p ++ leBytes 1 f.setId ++ leBytes 4 f.idx ++ leBytes 4 f.trig ++ leBytes 2 x0 ++ leBytes 2 y0 ++
  leBytes 2 w ++ leBytes 2 h ++ leBytes 1 (scale + 4 * f.unsettled.toNat + 8 * flagged.toNat) ++ leBytes 3 0 ++
  leBytes 4 (32 + w * h) ++ leBytes 4 seq

/-- A pixel of a frame, 0 outside it. -/
def pixelAt (f : CamFrame) (x y : Int) : Nat :=
  if x < 0 ∨ y < 0 then 0 else at' 0 (at' default f.rows y.toNat).px x.toNat

/-- The S2 record of a completed frame (R225, R226). -/
def s2Record (p : Nat) (f : CamFrame) (s : State) : List Byte :=
  let cfg := s.inForce (Reg.CAM_S2_CFG p)
  let sc := s2Scale cfg
  let x0 := s.lf (Reg.CAM_S2_CROPX p) 0 14
  let y0 := s.lf (Reg.CAM_S2_CROPY p) 0 12
  let w := s.lf (Reg.CAM_S2_CROPX p) 16 14 / sc
  let h := s.lf (Reg.CAM_S2_CROPY p) 16 13 / sc
  let flg := (List.range (h * sc)).any fun i => (at' default f.rows (y0 + i)).flagged
  recHeader 0x5332 p f x0 y0 w h (fld cfg 1 2) flg 0 ++
  (List.range h).flatMap fun r => (List.range w).map fun c =>
    let sum := ((List.range sc).flatMap fun i => (List.range sc).map fun j =>
      pixelAt f ((x0 + c * sc + j : Nat) : Int) ((y0 + r * sc + i : Nat) : Int)).foldl (· + ·) 0
    BitVec.ofNat 8 (sum / (sc * sc) / 16)

/-- The S3 record of a report (R226, R228). -/
def s3Record (p : Nat) (f : CamFrame) (c0 c seq : Nat) : List Byte :=
  let x0 : Int := (16 * c0 : Nat) - 56
  let y0 : Int := (16 * c : Nat) - 24
  let flg := (List.range 64).any fun (i : Nat) => decide (0 ≤ y0 + i) && (at' default f.rows (y0 + i).toNat).flagged
  recHeader 0x5333 p f (wrapN 16 x0) (wrapN 16 y0) 128 64 0 flg seq ++
  (List.range 64).flatMap fun (r : Nat) => (List.range 128).map fun (x : Nat) => BitVec.ofNat 8 (pixelAt f (x0 + x) (y0 + r) / 16)

/-- JOB_ID, PAGE_ID and BAND_NO of a line (R229). -/
def lineOwner (k : Nat) (s : State) : Nat × Nat × Nat :=
  match s.insp.pages.find? fun q => q.1 ≤ k && decide (k < q.1 + q.2.1) with
  | none => (0xFFFF, 0xFFFFFFFF, 0xFFFF)
  | some q =>
    match s.insp.bands.find? fun b => b.first ≤ k && decide (k < b.first + b.lines) with
    | some b => (b.job, b.page, b.band)
    | none => (q.2.2.1, q.2.2.2, 0xFFFF)

/-- A report of `len` cells from cell `c0` of cell row `c` (R228, R229). -/
def postReport (p : Nat) (f : CamFrame) (c c0 len : Nat) (dark : Bool) (s : State) : State :=
  if 128 ≤ s.insp.reports.length then count 0x25 Reg.INSPECT_DEF_LOST (raise 0x25 9 s)
  else
    let hits := (List.range len).flatMap fun i => cellHits f c (c0 + i) dark
    let ls := (List.range 16).flatMap fun i => (rowLines f (16 * c + i) s).map (·.serial)
    let first := ls.foldl min (at' 0 ls 0)
    let own := lineOwner first s
    let cols := fun n => match columnOf f (nozzlePlace n s) with
      | some x => decide (16 * c0 ≤ x) && decide (x < 16 * (c0 + len))
      | none => false
    let ns := (List.range (s.rf Reg.MAP_NOZZLES 0 18)).filter cols
    let fr := s.freeW
    let free := fr.1.toNat % 2 ^ 17
    let s := if ns.isEmpty then fr.2 else s
    let lo := match ns with | n :: _ => n | [] => free
    let hi := match ns.getLast? with | some n => n | none => free
    let ev := if bit (at' 0 f.model 0) 1 then
        let r := ringPut p 1 (s3Record p f c0 c s.insp.defSeq) s
        match r.1 with
        | some o => (some o, r.2)
        | none => (none, errInc 0x25 1 r.2)
      else (none, s)
    let s := ev.2
    let src := W (p + 4 * dark.toNat + 8 * ev.1.isSome.toNat + 16 * f.unsettled.toNat + 256 * f.setId +
      65536 * min hits.length 0xFFFF)
    let pos := tickPos first s / (tickSeg first s).den
    let words := [src, W own.2.1, W (own.2.2 + 65536 * own.1), W first,
      W (min ls.length 0xFFFF + 65536 * hits.foldl max 0), W lo, W hi, W pos, W s.timeNs, W (ev.1.getD 0)]
    raise 0x25 8 (errInc 0x25 0
      { s with insp := { s.insp with reports := s.insp.reports ++ [words], defSeq := s.insp.defSeq + 1 } })

/-- Evaluate a complete cell row: dark runs, then light runs (R228). -/
def judgeCells (p : Nat) (f : CamFrame) (c : Nat) (s : State) : State :=
  each [true, false] (fun dark s =>
    let bad := (List.range ((f.width + 15) / 16)).filter fun cx => cellBad f c cx dark
    each (cellRuns bad) (fun r s => postReport p f c r.1 r.2 dark s) s) s

/-- Replace a frame of a port. -/
def setFrame (p : Nat) (f : CamFrame) (s : State) : State :=
  let x := s.cam p
  s.setCam p { x with frames := x.frames.map fun g => if g.idx = f.idx then f else g }

/-- Judge what can be judged of one frame. -/
def judgeFrame (p : Nat) (f : CamFrame) (s : State) : State :=
  if !(bit (at' 0 f.model 0) 0 && bit (at' 0 f.model 0) (4 + p) && s.enabled 0x25) then s
  else
    let ys := (List.range f.height).filter fun y => !(f.judged.any fun r => r.1 == y) && rowReady f y 2 s
    let f := { f with judged := f.judged ++ ys.map fun y => (y, judgeRow p f y s) }
    let cs := (List.range ((f.height + 15) / 16)).filter fun c => !(c ∈ f.reported) &&
      (List.range 16).all fun i => decide (f.height ≤ 16 * c + i) || f.judged.any fun r => r.1 == 16 * c + i
    let s := setFrame p { f with reported := f.reported ++ cs } s
    each cs (judgeCells p f) s

/-- Judge every port's frames, ports ascending (R229, R48). -/
def judgePorts (s : State) : State :=
  each (camPorts s) (fun p s => each (s.cam p).frames (judgeFrame p) s) s

/-- Line `k` is past its inspection read. -/
def lineDone (k : Nat) (ok : Bool) (levels : List Nat) (s : State) : State :=
  { s with insp := { s.insp with lines := (s.insp.lines.filter fun r => decide (k < r.serial + 32768)) ++ [⟨k, ok, levels⟩] } }

/-- INSPECT reads a line from the ring for the comparator and Traverse while either runs. -/
def inspOn (s : State) : Bool := (s.enabled 0x25 || s.enabled 0x28) && !(s.quiescing 0x25 && s.enabled 0x25)

/-- Lines that every port has skipped need no read; the first that every port has seen or skipped is read (R222). -/
def inspIssue : Nat → State → State
  | 0, s => s
  | n + 1, s =>
    let k := s.insp.next
    let ps := camPorts s
    if ps.isEmpty || decide (s.fire.nextRead ≤ k) then s
    else
      let sights := ps.map fun p => sight p k s
      if sights.any (· == .wait) then s
      else if sights.all (· == .skip) then
        if s.insp.reads.isEmpty then inspIssue n (lineDone k false [] { s with insp := { s.insp with next := k + 1 } })
        else { s with insp := { s.insp with next := k + 1, reads := s.insp.reads ++ [k] } }
      else { s with insp := { s.insp with next := k + 1, reads := s.insp.reads ++ [k] } }

/-- The inspection read of line `k` returns (R137, R140, R222). -/
def inspReturn (k : Nat) (s : State) : State :=
  let s := if s.fire.anchored then
      slackNote 3 (moveD (den s) (tickPos (k + ringLines s) s) (-((64 * num s : Nat) : Int))) s else s
  let skipped := (camPorts s).all fun p => sight p k s == .skip
  if skipped then lineDone k false [] s
  else match tagOf k s with
  | none => lineDone k false [] (stat 0x25 Reg.INSPECT_SKIP_TAG 1 s)
  | some t =>
    let s := setTag k { t with inspected := true } s
    if t.part then lineDone k false [] (stat 0x25 Reg.INSPECT_SKIP_TAG 1 s)
    else if !t.zero && s.dramBad (lineAddr k s) (lineBytes s) then
      lineDone k false [] (yieldCause 10 (errInc 0x16 3 (raise 0x16 9 s)))
    else if t.map != mapStamp s then lineDone k false [] (stat 0x25 Reg.INSPECT_SKIP_MAP 1 s)
    else
      let l := if t.zero then [] else s.dramRead (lineAddr k s) (lineBytes s)
      let n := if t.zero then 0 else s.rf Reg.MAP_NOZZLES 0 18
      lineDone k true ((List.range n).map fun i => levelIn l i) (stat 0x25 Reg.INSPECT_LINES 1 s)

end Sys2Proof.Machine
end

