-- ==== Sys2Proof/Machine/TravOps.lean ====
section
/-! DEFINITION. Traverse: windows, accumulation, exclusions, agreements and steps (R233 to R249). -/
namespace Sys2Proof.Machine

/-- The default of the nozzle state map (R245, R247): IDLE, copy equal to SUB_BASE's reset value. -/
def nozReset (_ : Nat) : NozSt := ⟨1, none, none, 0, 0, 0, false, false, 8, 0, false, false, false, 0, 0⟩

/-- No trim (R121). -/
def noTrim (_ : Nat) : Word := 0

/-- The staged words that a boundary at this instant takes in place of those written at it (R121). -/
def trimsHeld (s : State) : List (Nat × Word) := if s.map.heldAt = s.now then s.map.held else []

/-- A staged trim word is written (R121, R127). -/
def trimStage (n : Nat) (w : Word) (s : State) : State :=
  let held := trimsHeld s
  let held := if held.any (·.1 == n) then held else (n, mget noTrim s.map.trimStaged n) :: held
  { s with map := { s.map with
      trimStaged := mset noTrim n w s.map.trimStaged, held := held, heldAt := s.now, bad := s.map.bad.filter (· != 2 ^ 33 + n) } }

/-- The default of the accumulators. -/
def accReset (_ : Nat) : NozAcc := ⟨0, 0, 0, 0, 0, 0, false⟩

/-- A nozzle's state. -/
def State.noz (s : State) (n : Nat) : NozSt := mget nozReset s.trav.noz n

/-- Replace a nozzle's state. -/
def State.setNoz (s : State) (n : Nat) (x : NozSt) : State :=
  { s with trav := { s.trav with noz := mset nozReset n x s.trav.noz } }

/-- A nozzle's accumulators. -/
def State.nacc (s : State) (n : Nat) : NozAcc := mget accReset s.trav.acc n

/-- Replace a nozzle's accumulators. -/
def State.setAcc (s : State) (n : Nat) (x : NozAcc) : State :=
  { s with trav := { s.trav with acc := mset accReset n x s.trav.acc } }

/-- EST_EN, APPLY bits and the lease. -/
def estOn (s : State) : Bool := s.enabled 0x28 && s.lb Reg.TRAV_CTRL 0

/-- Steps of a kind may be applied (R243, R246): never in a STANDBY unit (R360). -/
def mayApply (place : Bool) (s : State) : Bool :=
  s.enabled 0x28 && s.trav.lease && s.pair.role != 2 && s.lb Reg.TRAV_CTRL (if place then 2 else 1)

/-- The ports that feed Traverse. -/
def travPorts (s : State) : List Nat := (camPorts s).filter fun p => s.lb Reg.TRAV_CTRL (16 + p)

/-- The head that holds a nozzle. -/
def headOf (n : Nat) (s : State) : Option Nat :=
  heads32.find? fun h => headCfg h s && decide (headFirst h s ≤ n) && decide (n < headFirst h s + headCount h s)

/-- The geometry of a port as in force, as an empty frame. -/
def portFrame (p : Nat) (s : State) : CamFrame :=
  { (default : CamFrame) with
    width := s.lf (Reg.CAM_SIZE p) 0 14, height := s.lf (Reg.CAM_SIZE p) 16 13,
    col0 := sgn 26 (s.lf (Reg.CAM_GEOM_COL p) 0 26), cstep := s.lf (Reg.CAM_GEOM_CSTEP p) 0 20,
    knots := (List.range 33).map fun j => sgn 16 (fld (camLive p (0x7000 + 4 * j) s) 0 16) }

/-- A nozzle lies in a column of port `p`. -/
def inPort (p n : Nat) (s : State) : Bool := (columnOf (portFrame p s) (nozzlePlace n s)).isSome

/-- MISSING in the live map entry (R109). -/
def mapMissing (n : Nat) (s : State) : Bool := bit (s.reg (Reg.MAP_ENTRY (s.rf Reg.MAP_BANK 0 1) n 3)) 16

/-- NOCAL (R247). -/
def noCal (n : Nat) (s : State) : Bool :=
  !s.lb Reg.TRAV_CTRL 0 || decide (s.rf Reg.MAP_NOZZLES 0 18 ≤ n) || mapMissing n s ||
  !((travPorts s).any fun p => inPort p n s)

/-- A nozzle leaves PENDING: held estimates cleared (R247). A step already sent still takes effect where R244 says. -/
def nozEnd (x : NozSt) : NozSt := { x with st := 1, prevG := none, prevD := none, idle := 0, mark := false }

/-- A nozzle returns to IDLE: held estimates and disagreements cleared (R237, R247). -/
def nozIdle (x : NozSt) : NozSt := { nozEnd x with fail := 0 }

/-- Reset the nozzles that `f` names, and discard the open window, where one is open (R237). -/
def travReset (discard : Bool) (f : Nat → Bool) (s : State) : State :=
  let s := { s with trav := { s.trav with
    noz := (s.trav.noz.map fun e => if f e.1 then (e.1, nozIdle e.2) else e).filter fun e => e.2 != nozReset e.1 } }
  if discard && s.trav.win.isSome then
    each ((List.range (s.rf Reg.MAP_NOZZLES 0 18)).filter f) (fun n s => s.setAcc n { accReset n with discard := true }) s
  else s

/-- A commit of MAP or INSPECT: reset and discard for every nozzle (R237). -/
def travResetAll (s : State) : State :=
  if s.enabled 0x28 then travReset true (fun _ => true) s else s

/-- A commit of CAM or ISP on a port: reset and discard for the port's nozzles (R237). -/
def travResetPort (p : Nat) (s : State) : State :=
  if s.enabled 0x28 then travReset true (fun n => inPort p n s) s else s

/-- CAMLOST on a port: reset for the port's nozzles (R237). -/
def travPortLost (p : Nat) (s : State) : State :=
  if s.enabled 0x28 then travReset false (fun n => inPort p n s) s else s

/-- Nozzles that MAP_NOZZLES, an enable or a commit has made NOCAL lose their state, and leave NOCAL for IDLE (R247). -/
def travNoCal (s : State) : State := travReset false (fun n => noCal n s) s

/-- The nozzle of a step. -/
def stepNoz : TravStep → Nat
  | .trim n _ | .mark n | .sub n _ => n

/-- A nozzle's state where its last wait has ended: PENDING ends once no step of the pair waits, is on its way or is not yet live (R244). -/
def stepNext (n : Nat) (x : NozSt) (s : State) : NozSt :=
  if x.st != 3 || x.trimWait || x.subWait || s.trav.wait.any (fun w => stepNoz w == n) then x
  else { nozEnd x with st := if x.mark then 4 else 1 }

/-- The staged trims have become live: nozzles waiting for it move on (R121, R244). -/
def travTrimLive (line : Nat) (s : State) : State :=
  let held := trimsHeld s
  let live := s.trav.noz.map fun e =>
    if e.2.trimWait && held.all (·.1 != e.1) then
      (e.1, stepNext e.1 { e.2 with trimWait := false, fromLine := line } s)
    else e
  let noz := live.filter fun e => e.2 != nozReset e.1
  { s with trav := { s.trav with noz := noz } }

/-! ## Sub-delays sent to heads (R170, R243, R245) -/

/-- Two sub-delays per byte, the lower-numbered nozzle high (R171). -/
def packSubs : List Nat → List Byte
  | a :: b :: t => BitVec.ofNat 8 (a * 16 + b) :: packSubs t
  | [a] => [BitVec.ofNat 8 (a * 16)]
  | [] => []

/-- SUBDELAY_WRITE of nozzles `j` to `j + vs.length − 1` of a head. -/
def subFrame (h j : Nat) (vs : List Nat) (noz : Option Nat) (s : State) : State :=
  headCommand h ⟨.sub, 3, beBytes 2 j ++ beBytes 2 vs.length ++ packSubs vs⟩
    { s with trav := { s.trav with inFlight := s.trav.inFlight ++ [(h, noz)] } }

/-- Send a head's whole copy in frames of at most 2,040 nozzles (R245). -/
def syncHead (h : Nat) (cmd : Bool) (s : State) : State :=
  let n := headCount h s
  let first := headFirst h s
  let frames := (n + 2039) / 2040
  let s := { s with trav := { s.trav with syncs := s.trav.syncs.filter (·.head != h) ++ [⟨h, frames, true, cmd⟩] } }
  each (List.range frames) (fun i s =>
    subFrame h (2040 * i) ((List.range (min 2040 (n - 2040 * i))).map fun j => (s.noz (first + 2040 * i + j)).sub) none s) s

/-- A RESYNC_SUB that has waited for the lease and PLACE_APPLY starts, where its head is still READY (R245, R249, log entry 100). -/
def resyncDue (s : State) : State :=
  match s.trav.resync with
  | some h =>
    let t := { s with trav := { s.trav with resync := none } }
    if !(s.head h).ready then cmdError 0x28 Reg.TRAV_CMD_STATUS 0x81 t
    else if mayApply true s then syncHead h true t
    else s
  | none => s

/-- A head in use that became READY with its SUBSYNC bit at 0 (R245). -/
def headReadySync (h : Nat) (s : State) : State :=
  if (s.head h).ready && !s.rb Reg.TRAV_SUBSYNC h && mayApply true s then syncHead h false s else s

/-- A nozzle's step was dropped, refused or failed: IDLE, prev cleared (R247). Another step of its pair stands. -/
def stepFailed (n : Nat) (s : State) : State := s.setNoz n (nozEnd (s.noz n))

/-- Apply one agreed step if it may be applied now: none where it must wait (R240 to R243). -/
def applyStep (w : TravStep) (s : State) : Option State :=
  match w with
  | .trim n d =>
    if !mayApply false s then none
    else if s.rb Reg.MAP_TRIM_CTRL 0 then some (errInc 0x28 0 (stepFailed n s))
    else
      let old := mget noTrim s.map.trimStaged n
      let lim : Int := s.lf Reg.TRAV_DSTEP 16 11
      let sum := sgn 16 (fld old 0 16) + d
      let v := clampI (-lim) lim sum
      let x := s.noz n
      let s := trimStage n (put old 0 16 (wrapN 16 v)) s
      let s := stat 0x28 Reg.TRAV_STEPS_D 1 (s.setNoz n { x with trimWait := true, limD := v != sum })
      some (if v != sum then raise 0x28 11 s else s)
  | .mark n =>
    if !mayApply false s then none
    else if s.rb Reg.MAP_TRIM_CTRL 0 then some (errInc 0x28 0 (stepFailed n s))
    else
      let s := trimStage n (putBit (mget noTrim s.map.trimStaged n) 16 true) s
      let x := s.noz n
      some (raise 0x28 9 (stat 0x28 Reg.TRAV_MISS_NEW 1 (s.setNoz n { x with trimWait := true, mark := true })))
  | .sub n d =>
    match headOf n s with
    | none => some (stepFailed n s)
    | some h =>
      if !mayApply true s || !s.rb Reg.TRAV_SUBSYNC h || (s.trav.inFlight.any fun e => e.1 == h) then none
      else
        let x := s.noz n
        let v := ((x.sub : Int) + d).toNat
        some (subFrame h (n - headFirst h s) [v] (some n) (s.setNoz n { x with sub := v, subWait := true }))

/-- Apply every waiting step that may be applied, in order (R243). -/
def travPump (s : State) : State :=
  each s.trav.wait (fun w s =>
    if w ∈ s.trav.wait then
      match applyStep w { s with trav := { s.trav with wait := s.trav.wait.erase w } } with
      | some s' => s'
      | none => s
    else s) s

/-- An ACTIVE unit's accepted Traverse write becomes a MIRROR record (R362, R363). -/
def mirrorRec (ty n v page : Nat) (s : State) : State :=
  if s.pair.role = 1 then { s with pair := { s.pair with recs := s.pair.recs ++
    [beBytes 4 (ty * 2 ^ 24) ++ beBytes 4 n ++ beBytes 4 v ++ beBytes 4 page] } }
  else s

/-- A SUBDELAY_WRITE has ended (R243, R244, R245). -/
def subEnded (h : Nat) (ok : Bool) (s : State) : State :=
  match s.trav.inFlight.find? fun e => e.1 == h with
  | none => s
  | some e =>
    let s := { s with trav := { s.trav with inFlight := s.trav.inFlight.erase e } }
    let s := if ok then s else raise 0x28 13 (errInc 0x28 1 (s.setB Reg.TRAV_SUBSYNC h false))
    match e.2 with
    | some n =>
      if ok then
        let s := mirrorRec 3 n (s.noz n).sub 0 (stat 0x28 Reg.TRAV_STEPS_P 1 s)
        let x := s.noz n
        travPump (if x.subWait then s.setNoz n (stepNext n { x with subWait := false, fromTick := s.fire.nextDec } s) else s)
      else travPump (s.setNoz n { nozEnd (s.noz n) with subWait := false })
    | none =>
      match s.trav.syncs.find? fun y => y.head == h with
      | none => s
      | some y =>
        let y := { y with left := y.left - 1, ok := y.ok && ok }
        let rest := s.trav.syncs.filter (·.head != h)
        if 0 < y.left then { s with trav := { s.trav with syncs := rest ++ [y] } }
        else
          let s := { s with trav := { s.trav with syncs := rest } }
          let s := if y.ok then s.setB Reg.TRAV_SUBSYNC h true else s
          let s := if y.cmd then
              if y.ok then cmdDone 0x28 Reg.TRAV_CMD_STATUS s
              else
                let f := s.freeW
                cmdError 0x28 Reg.TRAV_CMD_STATUS (f.1.toNat % 256) f.2
            else s
          travPump s

/-! ## Accumulation (R235, R237) -/

/-- First-fire position of a line in whole counts. -/
def lineCounts (k : Nat) (s : State) : Nat := tickPos k s / max 1 (tickSeg k s).den

/-- A position lies within a span of counts (R81, R238). -/
def inSpan (x : Nat) (sp : Nat × Nat) : Bool := decide (0 ≤ dpos x sp.1) && decide (0 ≤ dpos sp.2 x)

/-- The line is excluded as a whole (R237). -/
def lineExcluded (r : LineRec) (s : State) : Bool :=
  !r.inspected || s.trav.frozen || s.trav.splices.any (inSpan (lineCounts r.serial s)) ||
  (match s.insp.pages.find? fun q => q.1 ≤ r.serial && decide (r.serial < q.1 + q.2.1) with
   | none => true
   | some q => decide (r.serial - q.1 < s.lf Reg.TRAV_GUARD 0 16))

/-- The tick at which a nozzle's row printed a line, with its head (R134). -/
def nozTick (n k : Nat) (s : State) : Option (Nat × Nat) :=
  (headOf n s).map fun h => (k + rowDelay h ((n - headFirst h s) % max 1 (rowCount h s)) s, h)

/-- One firing of nozzle `n` at level `l` of line `k`, seen at column `x` of row `y` (R235). `d` are the rows of drops y − 3 to
y + 3. -/
def accumulate (k n l x y : Nat) (f : CamFrame) (d : List (List Nat)) (s : State) : State :=
  let z := s.noz n
  let row := at' default f.rows y
  let tick := nozTick n k s
  let early := match tick with
    | some t => decide (t.1 < z.fromTick)
    | none => false
  if decide (row.valid ≤ x) || z.st = 3 || z.st = 4 || z.trimWait || z.subWait || noCal n s || decide (k < z.fromLine) || early then s
  else
    let paper := mPaper f.model
    let expd := fun j => expectedAt f ((d.drop j).take 5) x
    let e := mAbs f.model l
    let ea := paper - expd 1
    let minAbs : Int := s.lf Reg.TRAV_ATTR 16 12
    let share := s.lf Reg.TRAV_ATTR 0 8
    if ea < minAbs ∨ ea ≤ 0 ∨ ((e * 256 : Nat) : Int) < share * ea then s
    else
      let oa := max (paper - ((at' 0 row.px x : Nat) : Int)) 0
      let r := (min (oa * 4096 / ea) 16383).toNat
      let a := s.nacc n
      let a := { a with n := a.n + 1, e := a.e + e, o := a.o + e * r }
      let up := at' default f.rows (y - 1)
      let dn := at' default f.rows (y + 1)
      let placed := match tick with
        | none => false
        | some (t, h) => s.fire.subTicks.any (· == (t, h)) && s.rb Reg.TRAV_SUBSYNC h && headUp h s
      if decide (0 < y ∧ y + 1 < f.rows.length ∧ x < up.valid ∧ x < dn.valid) && placed then
        let ao := fun (w : CamRow) => max (paper - ((at' 0 w.px x : Nat) : Int)) 0
        let sao := ao up + ao row + ao dn
        let ax := fun j => paper - expd j
        let sax := ax 0 + ax 1 + ax 2
        if 0 < sao ∧ 0 < sax then
          let co := divRound ((ao up - ao dn) * f.step) sao.toNat
          let cx := divRound ((ax 0 - ax 2) * f.step) sax.toNat
          s.setAcc n { a with p := a.p + e * (co - cx), w := a.w + e, np := a.np + 1 }
        else s.setAcc n a
      else s.setAcc n a

/-- Accumulate a line that is not excluded at one port. -/
def accLine (p : Nat) (r : LineRec) (s : State) : State :=
  match sight p r.serial s with
  | .row f y =>
    if f.withheld || f.unsettled || (s.cam p).lost then s
    else
      let d := (List.range 7).map fun j => if 3 ≤ y + j then rowAbs f (y + j - 3) s else []
      each (List.range r.levels.length) (fun n s =>
        let l := at' 0 r.levels n
        if l = 0 then s else match columnOf f (nozzlePlace n s) with
          | some x => if (s.nacc n).discard then s else accumulate r.serial n l x y f d s
          | none => s) s
  | _ => s

/-- WIN_LINES in force. -/
def winLines (s : State) : Nat := s.lf Reg.TRAV_WIN 0 16

/-- Take every line that is ready into the open window (R234, R235). -/
def travAdvance : Nat → State → State
  | 0, s => s
  | n + 1, s =>
    if !estOn s then { s with trav := { s.trav with next := inspDone s } }
    else
      let k := s.trav.next
      let full := match s.trav.win with
        | some w => decide (w + winLines s ≤ k)
        | none => s.quiescing 0x28
      match lineRec k s with
      | none => s
      | some r =>
        if full || (travPorts s).any (fun p => match sight p k s with
            | .row f y => !rowReady f y 3 s
            | _ => false) then s
        else
          let s := match s.trav.win with
            | some _ => s
            | none => { s with trav := { s.trav with win := some k, acc := [] } }
          let s := if lineExcluded r s then s else each (travPorts s) (fun p s => accLine p r s) s
          let spl := s.trav.splices.filter fun sp => decide (dpos (lineCounts k s) sp.2 ≤ 0)
          let sub := s.fire.subTicks.filter fun t => decide (k < t.1)
          travAdvance n { s with trav := { s.trav with next := k + 1, splices := spl }, fire := { s.fire with subTicks := sub } }

/-- Forget frames that no line still needs. -/
def camPrune (s : State) : State :=
  each (List.range 4) (fun p s =>
    let x := s.cam p
    let k := min (inspDone s) (if estOn s then s.trav.next else inspDone s)
    s.setCam p { x with
      frames := x.frames.filter fun f => decide (-4 ≤ rowIndex f.x f.row0 f.step k s),
      misses := x.misses.filter fun m => decide (0 ≤ rowIndex m.x m.row0 m.step k s) }) s

/-- What follows whenever a line or a frame has come in: the comparator, Traverse and the clean-up. -/
def inspWork (s : State) : State :=
  let s := judgePorts s
  camPrune (travAdvance (s.insp.lines.length + 1) s)

/-! ## Window close (R236, R239 to R242) -/

/-- Insert into a rising list. -/
def insertInt (x : Int) : List Int → List Int
  | [] => [x]
  | y :: t => if x ≤ y then x :: y :: t else y :: insertInt x t

/-- The median of R236: the value at index floor(c ÷ 2). -/
def medianOf (l : List Int) : Option Int :=
  if l.length < 64 then none else some (at' 0 (l.foldl (fun a x => insertInt x a) []) (l.length / 2))

/-- The density estimates of the window, by nozzle. -/
def densEst (s : State) : List (Nat × Int) :=
  s.trav.acc.filterMap fun e =>
    if !e.2.discard && decide (s.lf Reg.TRAV_WIN 16 16 ≤ e.2.n) && decide (0 < e.2.e) && !noCal e.1 s then
      some (e.1, divRound e.2.o e.2.e) else none

/-- The placement estimates of the window, by nozzle. -/
def placeEst (s : State) : List (Nat × Int) :=
  s.trav.acc.filterMap fun e =>
    if !e.2.discard && decide (s.lf Reg.TRAV_WIN 16 16 ≤ e.2.np) && decide (0 < e.2.w) && !noCal e.1 s then
      some (e.1, divRound e.2.p e.2.w) else none

/-- The density step of an agreement of `a` and `b`, 0 where none is due (R240). -/
def densStep (a b : Nat) (s : State) : Int :=
  let delta := divRound ((8192 - ((a + b : Nat) : Int)) * s.lf Reg.TRAV_DSCALE 0 12) 8192
  let step : Int := s.lf Reg.TRAV_DSTEP 0 8
  if delta.natAbs ≤ s.lf Reg.TRAV_DSTEP 8 8 then 0 else clampI (-step) step delta

/-- The placement step of an agreement of `a` and `b`, 0 where none is due (R241). -/
def placeStep (a b : Int) (s : State) : Int :=
  if (a + b).natAbs ≤ 2 * s.lf Reg.TRAV_PLACE 8 8 then 0 else if 0 < a + b then -1 else 1

/-- A window close for one nozzle (R239 to R242, R247). -/
def nozClose (n : Nat) (g : Option Nat) (d : Option Int) (s : State) : State :=
  let x := s.noz n
  let x := { x with lastG := g.getD x.lastG, lastD := d.getD x.lastD }
  if g.isNone && d.isNone then
    if x.st = 2 then
      s.setNoz n (if 8 ≤ x.idle + 1 then { x with st := 1, prevG := none, prevD := none, idle := 0 } else { x with idle := x.idle + 1 })
    else s
  else if x.st = 1 then s.setNoz n { x with st := 2, prevG := g, prevD := d, idle := 0 }
  else if x.st ≠ 2 then s
  else
    let floor := s.lf Reg.TRAV_DENS 16 12
    let low := match g, x.prevG with
      | some a, some b => s.lb Reg.TRAV_CTRL 3 && decide (a < floor) && decide (b < floor)
      | _, _ => false
    if low then
      let s := s.setNoz n { x with st := 3, prevG := none, prevD := none, idle := 0 }
      { s with trav := { s.trav with wait := s.trav.wait ++ [.mark n] } }
    else
      let agG := match g, x.prevG with
        | some a, some b => some (decide (max a b - min a b ≤ s.lf Reg.TRAV_DENS 0 12), densStep a b s)
        | _, _ => none
      let agD := match d, x.prevD with
        | some a, some b => some (decide ((a - b).natAbs ≤ s.lf Reg.TRAV_PLACE 0 8), placeStep a b s)
        | _, _ => none
      let stepG := match agG with | some (true, v) => v | _ => 0
      let stepD0 := match agD with | some (true, v) => v | _ => 0
      let synced := match headOf n s with | some h => s.rb Reg.TRAV_SUBSYNC h | none => false
      let out := decide ((x.sub : Int) + stepD0 < 0 ∨ 15 < (x.sub : Int) + stepD0)
      let stepD := if synced && !out then stepD0 else 0
      let s := if out && synced then raise 0x28 11 s else s
      let x := { x with limP := if agD.isSome && synced then out else x.limP, idle := 0 }
      if stepG ≠ 0 ∨ stepD ≠ 0 then
        let s := s.setNoz n { x with st := 3, prevG := none, prevD := none, fail := 0 }
        { s with trav := { s.trav with wait := s.trav.wait ++
          (if stepG ≠ 0 then [.trim n stepG] else []) ++ (if stepD ≠ 0 then [.sub n stepD] else []) } }
      else
        let agreed := fun (a : Option (Bool × Int)) v => a.any fun q => q.1 == v
        let bad := agreed agG false || agreed agD false
        let fail := if bad then min 255 (x.fail + 1) else if agreed agG true || agreed agD true then 0 else x.fail
        let prevG := if g.isSome then g else x.prevG
        let prevD := if d.isSome then d else x.prevD
        let s := s.setNoz n { x with prevG := prevG, prevD := prevD, fail := fail }
        if bad ∧ fail = s.lf Reg.TRAV_GUARD 24 8 ∧ x.fail ≠ fail then errInc 0x28 2 (raise 0x28 10 s) else s

/-- The open window may close (R234). -/
def windowDone (s : State) : Bool :=
  match s.trav.win with
  | some w => decide (w + winLines s ≤ s.trav.next)
  | none => false

/-- A TRAV commit takes effect; nozzles that it makes NOCAL lose their state (R234, R247). -/
def travCommit (s : State) : State :=
  if s.shadowPending 0x28 then
    let s := commitApply 0x28 s
    let s := travNoCal s
    if s.lb Reg.TRAV_CTRL 0 then s else { s with trav := { s.trav with win := none, winNo := 0, acc := [] } }
  else s

/-- The window closes (R236, R243). -/
def windowClose (bad : List Nat) (s : State) : State :=
  let s := each bad (fun n s => errInc 0x28 3 (s.setNoz n (nozIdle (s.noz n)))) s
  let held := s.trav.wait
  let s := each held (fun w s => count 0x28 Reg.TRAV_HELD (stepFailed (stepNoz w) s)) { s with trav := { s.trav with wait := [] } }
  let gs := densEst s
  let ds := placeEst s
  let mg := medianOf (gs.map (·.2))
  let md := medianOf (ds.map (·.2))
  let s := match mg with | some m => s.setF Reg.TRAV_MEDIAN 0 16 m.toNat | none => s
  let s := match md with | some m => s.setF Reg.TRAV_MEDIAN 16 16 (wrapN 16 m) | none => s
  let s := s.setReg Reg.TRAV_EST_NOZ (W (if mg.isSome then gs.length else 0))
  let ns := (s.trav.acc.map (·.1)) ++ ((s.trav.noz.filter fun e => !(s.trav.acc.any fun a => a.1 == e.1)).map (·.1))
  let order := (List.range 131072).filter fun n => n ∈ ns
  let s := each order (fun n s =>
    let g := match mg, gs.find? fun e => e.1 == n with
      | some m, some e => if 0 < m then some (divRound (e.2 * 4096) m.toNat).toNat else none
      | _, _ => none
    let d := match md, ds.find? fun e => e.1 == n with
      | some m, some e => some (e.2 - m)
      | _, _ => none
    nozClose n g d s) s
  let w0 := s.trav.win.getD 0
  let lines := winLines s
  let s := { s with trav := { s.trav with acc := [], win := some (w0 + lines), winNo := (s.trav.winNo + 1) % 65536 } }
  let s := raise 0x28 8 (stat 0x28 Reg.TRAV_WINDOWS 1 s)
  travPump (travCommit s)

/-- Mark a splice at a position (R238). -/
def spliceMark (pos : Nat) (s : State) : State :=
  let ofs := (s.reg Reg.TRAV_SPLICE_OFS).toNat
  let mid : Nat := (pos + ofs) % 2 ^ 32
  let lo := wrapN 32 ((mid : Int) - s.rf Reg.TRAV_SPLICE_SPAN 0 16)
  let hi : Nat := (mid + s.rf Reg.TRAV_SPLICE_SPAN 16 16) % 2 ^ 32
  let spans : List (Nat × Nat) := match s.trav.splices.getLast? with
    | some l => if 0 ≤ dpos l.2 lo then s.trav.splices.dropLast ++ [(l.1, hi)] else s.trav.splices ++ [(lo, hi)]
    | none => [(lo, hi)]
  let s := raise 0x28 14 { s with trav := { s.trav with splices := spans } }
  if s.lb Reg.TRAV_CTRL 5 then travReset false (fun _ => true) s else s

/-- TRAV_STATUS as it stands (R248). -/
def travStatusWord (s : State) : Word :=
  let x := srcX s
  let open_ := s.trav.splices.any fun sp => decide (0 < dpos sp.2 x)
  let out := (List.range 4).map fun p => (s.cam p).lost
  W (s.trav.frozen.toNat + 2 * s.trav.lease.toNat + 4 * open_.toNat + 16 * ofBits out + 65536 * s.trav.winNo)

/-- TRAV_NOZ_STATE of a nozzle (R248). -/
def nozStateWord (n : Nat) (s : State) : Word :=
  let x := s.noz n
  W ((if noCal n s then 0 else x.st) + 8 * (decide (s.lf Reg.TRAV_GUARD 24 8 ≤ x.fail)).toNat + 16 * x.limD.toNat +
     32 * x.limP.toNat + 256 * x.sub + 65536 * x.fail)

end Sys2Proof.Machine
end

