-- ==== Sys2Proof/Machine/CommitOps.lean ====
section
/-! DEFINITION. Shadow commits: what each page checks at its boundary, and what SHADOW_COMMIT and DISCARD do at the write
(R43, R44, R134 to R136, R189). -/
namespace Sys2Proof.Machine

/-- Distinct items. -/
def distinct : List Nat → Bool
  | [] => true
  | x :: t => !(x ∈ t) && distinct t

/-- Two heads' nozzle ranges lie apart. -/
def apart (a b : Nat × Nat) : Bool := decide (a.1 + a.2 ≤ b.1) || decide (b.1 + b.2 ≤ a.1)

/-- The staged nozzle range of a head. -/
def stagedRange (h : Nat) (s : State) : Nat × Nat := (s.rf (Reg.HEADS_RANGE h) 0 17, s.rf (Reg.HEADS_COUNT h) 0 14)

/-- The checks of a HEADS commit (R189, R253). -/
def headsCommitOk (s : State) : Bool :=
  let use := heads32.filter fun h => s.rb (Reg.HEADS_CFG h) 0
  let lane := fun h => s.rf (Reg.HEADS_CFG h) 8 6
  (use.all fun h =>
    let r := stagedRange h s
    decide (1 ≤ r.2) && decide (r.2 ≤ 8192) && decide (r.1 + r.2 ≤ s.rf Reg.MAP_NOZZLES 0 18) &&
    laneRole (lane h) s == 1 && laneRate (lane h) s == some (s.rf (Reg.HEADS_CFG h) 1 3) && rateOk r.2 (s.rf (Reg.HEADS_CFG h) 1 3) (minPeriod s) &&
    use.all fun g => g == h || apart (stagedRange g s) r) &&
  distinct (use.map lane) &&
  (decide (s.fire.st < 2) || heads32.all fun h =>
    lane h == s.lf (Reg.HEADS_CFG h) 8 6 && s.rf (Reg.HEADS_CFG h) 1 3 == s.lf (Reg.HEADS_CFG h) 1 3)

/-- A head that a commit took out of use: its frames are given up and it is neither READY nor SHADOW. -/
def headOut (h : Nat) (s : State) : State :=
  if headCfg h s then s
  else showHead h (dropFrames h (s.setHead h { s.head h with ready := false, shadow := false, telRun := 0, rejoinAt := none }))

/-- The boundary of HEADS (R43, R189): heads taken out of use leave, and their lanes follow (R252). -/
def headsBoundary (s : State) : State :=
  if !s.shadowPending 0x19 then s
  else if headsCommitOk s then
    each lanes48 showTx (each heads32 headOut (commitApply 0x19 s))
  else commitRefuse 0x19 s

/-- The staged FIRE_MIN_PERIOD keeps R145 and R162 for every head in use. -/
def fireCommitOk (s : State) : Bool :=
  let t := s.rf Reg.FIRE_MIN_PERIOD 0 16
  decide (s.rf Reg.FIRE_PULSE 0 12 + 100 ≤ t) &&
  heads32.all fun h => !headCfg h s || rateOk (headCount h s) (s.lf (Reg.HEADS_CFG h) 1 3) t

/-- The boundary of FIRE: its commit swaps the history banks (R136, R143). -/
def fireBoundary (s : State) : State :=
  if !s.shadowPending 0x17 then s
  else if fireCommitOk s then commitApply 0x17 (s.setB Reg.FIRE_HIST_BANK 0 (!s.rb Reg.FIRE_HIST_BANK 0))
  else commitRefuse 0x17 s

/-- HEADS_HOLD takes effect: a head held leaves READY and SHADOW, and one let back waits for the rejoin of R186, which starts at once
where its conditions hold (R184, R186, R190). -/
def holdNow (s : State) : State :=
  each heads32 (fun h s =>
    let v := s.rb (Reg.HEADS_HOLD h) 0
    if (s.head h).hold == v then s
    else
      let s := s.setHead h { s.head h with hold := v, held := true }
      if v then (if headUp h s then judgeHead false h s else s)
      else autoRejoin h s) s

/-- The line decision as a boundary: HOLD, FIRE's commit, then HEADS's (R43, R190). -/
def lineBoundary (s : State) : State := headsBoundary (fireBoundary (holdNow s))

/-- Outside RUN and INHIBIT no line decision comes: pending commits and HOLD take effect at once (R136, R190). -/
def lineBoundaryNow (s : State) : State := if s.fire.st < 2 then lineBoundary s else s

/-- A staged enabled row. -/
def stagedRow (h r : Nat) (s : State) : Bool := s.rb (Reg.DELAY_ROW h r) 16

/-- The checks of a DELAY commit (R134, R135). -/
def delayCommitOk (s : State) : Bool :=
  let rows := fun h => (List.range 8).filter fun r => stagedRow h r s
  let delays := fun h => (rows h).map fun r => s.rf (Reg.DELAY_ROW h r) 0 13
  let use := heads32.filter fun h => headCfg h s
  decide (s.fire.st < 2) &&
  (heads32.all fun h => rows h == List.range (rows h).length) &&
  (use.isEmpty || use.any fun h => 0 ∈ delays h) &&
  ringRule ((heads32.flatMap delays).foldl max 0) (inspLines s) (ringLines s)

/-- A TRAV commit waits for the open window (R43, R234). -/
def travCommitNow (s : State) : State := if s.trav.win.isSome then s else travCommit s

/-- The commits of a camera port that is off, and of ISP and INSPECT while every port is off, have no frame to wait for
(R224; log entry 30). -/
def camCommitNow (s : State) : State :=
  let s := each (List.range 4) (fun p s => if camOn p s then s else camBoundary travResetPort p s) s
  if (camPorts s).isEmpty then modelBoundary (fun _ => travResetAll) 0 (ispBoundary travResetPort 0 s) else s

/-- SHADOW_COMMIT is written (R43, R44, R136): a commit whose boundary is the write itself takes effect now. -/
def shadowCommit (p : Nat) (s : State) : State :=
  if s.shadowPending p then config p s
  else
    let s := s.setB (Reg.pageStatus p) 4 true
    if p = 0x17 ∨ p = 0x19 then lineBoundaryNow s
    else if p = 0x16 then commitAt 0x16 (delayCommitOk s) s
    else if 0x20 ≤ p ∧ p ≤ 0x25 then camCommitNow s
    else if p = 0x28 then travCommitNow s
    else if p = 0x58 then loopCommitNow s
    else if p = 0x10 ∨ p = 0x11 ∨ p = 0x14 ∨ p = 0x15 then s
    else commitApply p s

/-- DISCARD is written (R44): the staged set returns to the live one. -/
def shadowDiscard (p : Nat) (s : State) : State :=
  if s.shadowPending p then s else copyShadow (pg p 0) (pg p 0 + 0x1000) s

/-! ## Frame windows (R211) -/

/-- The DRAM writes of the S2 and S3 records that `f` puts into the rings (R225, R297). -/
def withRecords (f : State → State) (s : State) : State :=
  let t := f s
  each (List.range 8) (fun i t =>
    let p := i / 2
    let r := i % 2
    let size := t.lf (Reg.CAM_RING_SIZE p r) 0 16 * 65536
    let base := t.lf (Reg.CAM_RING_BASE p r) 0 18 * 65536
    let a := (s.reg (Reg.CAM_RING_WPTR p r)).toNat
    let b := (t.reg (Reg.CAM_RING_WPTR p r)).toNat
    if a ≤ b then dramReq 5 true (base + a) (b - a) t else dramReq 5 true base b (dramReq 5 true (base + a) (size - a) t)) t

/-- A frame window ends with no frame start (R211): a frame is missing, and the port's boundary is passed (R224). -/
def windowMissed (p : Nat) (s : State) : State :=
  match (s.cam p).win with
  | none => s
  | some w =>
    let m : CamMiss := ⟨w.x, s.lf (Reg.CAM_GEOM_ROW p) 0 24, s.lf (Reg.CAM_GEOM_STEP p) 0 16, s.lf (Reg.CAM_SIZE p) 16 13⟩
    let was := (s.cam p).lost
    let s := s.setCam p { s.cam p with win := none, misses := (s.cam p).misses ++ [m] }
    let s := camBad p (errInc (camPage p) 1 (raise (camPage p) 9 s))
    let s := if (s.cam p).lost && !was then travPortLost p s else s
    inspWork (modelBoundary (fun _ => travResetAll) p (ispBoundary travResetPort p s))

/-- The windows of a port whose hits are past open, each ending one that is still open as missing (R211). -/
def portArrive (p : Nat) (s : State) : State :=
  let past := fun (w : CamWin) => decide (w.at_ < s.now)
  let x := s.cam p
  each (x.hits.filter past) (fun w s =>
    let s := windowMissed p s
    s.setCam p { s.cam p with win := some w }) (s.setCam p { x with hits := x.hits.filter fun w => !past w })

/-- Every window whose hit is past opens (R211). -/
def camArrive (s : State) : State :=
  if s.cams.all fun e => e.2.hits.all fun w => decide (s.now ≤ w.at_) then s else withRecords (each (List.range 4) portArrive) s

end Sys2Proof.Machine
end

