-- ==== Sys2Proof/Machine/Inflate.lean ====
section
/-! DEFINITION. Inflation of a raw DEFLATE stream, RFC 1951 (R95, R320). Output is kept newest byte first. -/
namespace Sys2Proof.Machine

/-- The bits of a byte stream in DEFLATE order. -/
def bitStream (l : List Byte) : List Bool := l.flatMap fun b => toBits 8 b.toNat

/-- Take `n` bits as a number, least significant first. -/
def takeBits (n : Nat) (bs : List Bool) : Option (Nat × List Bool) :=
  if bs.length < n then none else some (ofBits (bs.take n), bs.drop n)

/-- The canonical codes of a list of code lengths: (length, code, symbol). -/
def huffCodes (lens : List Nat) : List (Nat × Nat × Nat) :=
  let syms := (List.range lens.length).zip lens
  let step := fun (acc : Nat × List (Nat × Nat × Nat)) (len : Nat) =>
    let mine := syms.filter fun p => p.2 == len
    let start := acc.1 * 2
    (start + mine.length, acc.2 ++ ((List.range mine.length).zip mine).map fun p => (len, start + p.1, p.2.1))
  (((List.range 15).map (· + 1)).foldl step (0, [])).2

/-- A set of code lengths asks for more codes than there are. -/
def huffOver (lens : List Nat) : Bool :=
  let used := (lens.filter (0 < ·)).foldl (fun n l => n + 2 ^ (15 - l)) 0
  2 ^ 15 < used

/-- Read one symbol. -/
def huffRead (codes : List (Nat × Nat × Nat)) : Nat → Nat → Nat → List Bool → Option (Nat × List Bool)
  | 0, _, _, _ => none
  | _ + 1, _, _, [] => none
  | f + 1, len, code, b :: bs =>
    let len := len + 1
    let code := code * 2 + b.toNat
    match codes.find? fun c => c.1 == len && c.2.1 == code with
    | some c => some (c.2.2, bs)
    | none => huffRead codes f len code bs

/-- Read one symbol of up to 15 bits: 2 where the input ends, 1 where no code matches (R316). -/
def huffSym (codes : List (Nat × Nat × Nat)) (bs : List Bool) : Except Nat (Nat × List Bool) :=
  match huffRead codes 15 0 0 bs with
  | some r => .ok r
  | none => .error (if bs.length < 15 then 2 else 1)

/-- Take bits, 2 where the input ends. -/
def getBits (n : Nat) (bs : List Bool) : Except Nat (Nat × List Bool) :=
  match takeBits n bs with
  | some r => .ok r
  | none => .error 2

/-- Length codes 257 to 285: base and extra bits. -/
def lenTable : List (Nat × Nat) :=
  [(3, 0), (4, 0), (5, 0), (6, 0), (7, 0), (8, 0), (9, 0), (10, 0), (11, 1), (13, 1), (15, 1), (17, 1), (19, 2), (23, 2),
   (27, 2), (31, 2), (35, 3), (43, 3), (51, 3), (59, 3), (67, 4), (83, 4), (99, 4), (115, 4), (131, 5), (163, 5), (195, 5),
   (227, 5), (258, 0)]

/-- Distance codes 0 to 29: base and extra bits. -/
def distTable : List (Nat × Nat) :=
  [(1, 0), (2, 0), (3, 0), (4, 0), (5, 1), (7, 1), (9, 2), (13, 2), (17, 3), (25, 3), (33, 4), (49, 4), (65, 5), (97, 5),
   (129, 6), (193, 6), (257, 7), (385, 7), (513, 8), (769, 8), (1025, 9), (1537, 9), (2049, 10), (3073, 10), (4097, 11),
   (6145, 11), (8193, 12), (12289, 12), (16385, 13), (24577, 13)]

/-- The fixed literal and length code lengths. -/
def fixedLens : List Nat :=
  List.replicate 144 8 ++ List.replicate 112 9 ++ List.replicate 24 7 ++ List.replicate 8 8

/-- Copy `n` bytes from distance `d`. -/
def copyBack (d : Nat) : Nat → List Byte → List Byte
  | 0, out => out
  | n + 1, out => copyBack d n ((out[d - 1]?).getD 0 :: out)

/-- One length and distance pair: its length, its distance and the bits that follow. -/
def inflPair (dists : List (Nat × Nat × Nat)) (sym : Nat) (bs : List Bool) : Except Nat (Nat × Nat × List Bool) := do
  let (lb, le) ← match lenTable[sym - 257]? with | some p => .ok p | none => .error 1
  let (lx, bs) ← getBits le bs
  let (ds, bs) ← huffSym dists bs
  let (db, de) ← match distTable[ds]? with | some p => .ok p | none => .error 1
  let (dx, bs) ← getBits de bs
  .ok (lb + lx, db + dx, bs)

/-- The symbols of one block: 0 for a clean end of block, 1 for a bad stream, 2 where the input ends. -/
def inflSyms (lits dists : List (Nat × Nat × Nat)) (maxOut : Nat) :
    Nat → List Bool → List Byte → Nat × List Bool × List Byte
  | 0, bs, out => (1, bs, out)
  | f + 1, bs, out =>
    match huffSym lits bs with
    | .error e => (e, bs, out)
    | .ok (sym, bs) =>
      if sym < 256 then
        if maxOut ≤ out.length then (1, bs, out) else inflSyms lits dists maxOut f bs (BitVec.ofNat 8 sym :: out)
      else if sym = 256 then (0, bs, out)
      else
        match inflPair dists sym bs with
        | .error e => (e, bs, out)
        | .ok (n, d, bs) =>
          if out.length < d ∨ maxOut < out.length + n then (1, bs, out)
          else inflSyms lits dists maxOut f bs (copyBack d n out)

/-- The order of the code length code lengths. -/
def clOrder : List Nat := [16, 17, 18, 0, 8, 7, 9, 6, 10, 5, 11, 4, 12, 3, 13, 2, 14, 1, 15]

/-- Read `n` code lengths with the code length code. -/
def readLens (codes : List (Nat × Nat × Nat)) : Nat → Nat → List Bool → List Nat → Except Nat (List Nat × List Bool)
  | 0, _, _, _ => .error 1
  | f + 1, n, bs, acc =>
    if n ≤ acc.length then (if acc.length = n then .ok (acc, bs) else .error 1)
    else
      match huffSym codes bs with
      | .error e => .error e
      | .ok (sym, bs) =>
        if sym < 16 then readLens codes f n bs (acc ++ [sym])
        else
          let (nb, base, v) :=
            if sym = 16 then (2, 3, acc.getLast?) else if sym = 17 then (3, 3, some 0) else (7, 11, some 0)
          match v, getBits nb bs with
          | some v, .ok (x, bs) => readLens codes f n bs (acc ++ List.replicate (base + x) v)
          | none, _ => .error 1
          | _, .error e => .error e

/-- The header of a dynamic block: the two code sets. -/
def readDynamic (bs : List Bool) : Except Nat ((List Nat × List Nat) × List Bool) := do
  let (hlit, bs) ← getBits 5 bs
  let (hdist, bs) ← getBits 5 bs
  let (hclen, bs) ← getBits 4 bs
  let n := hclen + 4
  if bs.length < 3 * n then .error 2
  else
    let cl := (List.range n).map fun i => ofBits ((bs.drop (3 * i)).take 3)
    let pairs := clOrder.zip cl
    let lens := (List.range 19).map fun s => ((pairs.find? fun p => p.1 == s).map (·.2)).getD 0
    if huffOver lens then .error 1
    else
      let total := hlit + 257 + (hdist + 1)
      let (all, bs) ← readLens (huffCodes lens) (total + 1) total (bs.drop (3 * n)) []
      let lits := all.take (hlit + 257)
      let dists := all.drop (hlit + 257)
      if 286 < hlit + 257 ∨ huffOver lits ∨ huffOver dists then .error 1 else .ok ((lits, dists), bs)

/-- One block after its three header bits: `ty` is BTYPE. -/
def inflBlock (maxOut ty : Nat) (bs : List Bool) (out : List Byte) : Nat × List Bool × List Byte :=
  if ty = 0 then
    let bs := bs.drop (bs.length % 8)
    if bs.length < 32 then (2, bs, out)
    else
      let len := ofBits (bs.take 16)
      let nlen := ofBits ((bs.drop 16).take 16)
      let bs := bs.drop 32
      if len + nlen ≠ 65535 ∨ maxOut < out.length + len then (1, bs, out)
      else if bs.length < 8 * len then (2, bs, out)
      else
        let bytes := (List.range len).map fun i => BitVec.ofNat 8 (ofBits ((bs.drop (8 * i)).take 8))
        (0, bs.drop (8 * len), bytes.reverse ++ out)
  else if ty = 1 then
    inflSyms (huffCodes fixedLens) (huffCodes (List.replicate 30 5)) maxOut (bs.length + 1) bs out
  else if ty = 2 then
    match readDynamic bs with
    | .error e => (e, bs, out)
    | .ok ((l, d), bs) => inflSyms (huffCodes l) (huffCodes d) maxOut (bs.length + 1) bs out
  else (1, bs, out)

/-- The blocks of a stream. -/
def inflBlocks (maxOut : Nat) : Nat → List Bool → List Byte → Nat × List Bool × List Byte
  | 0, bs, out => (1, bs, out)
  | f + 1, bs, out =>
    match takeBits 3 bs with
    | none => (2, bs, out)
    | some (h, bs) =>
      let r := inflBlock maxOut (h / 2) bs out
      if r.1 ≠ 0 then r else if h % 2 = 1 then r else inflBlocks maxOut f r.2.1 r.2.2

/-- Inflate a raw DEFLATE stream with at most `maxOut` bytes of output: 0 for success, 1 for a bad stream, 2 where the input
ends early; bits left over; output in order. -/
def inflateRaw (maxOut : Nat) (l : List Byte) : Nat × List Bool × List Byte :=
  let bs := bitStream l
  let r := inflBlocks maxOut (bs.length + 1) bs []
  (r.1, r.2.1, r.2.2.reverse)

/-- The blocks of a stream in order: BTYPE, BFINAL and the bytes each gives. -/
def inflShape (maxOut : Nat) : Nat → List Bool → List Byte → List (Nat × Bool × Nat)
  | 0, _, _ => []
  | f + 1, bs, out =>
    match takeBits 3 bs with
    | none => []
    | some (h, bs) =>
      let r := inflBlock maxOut (h / 2) bs out
      if r.1 ≠ 0 then []
      else (h / 2, h % 2 == 1, r.2.2.length - out.length) :: (if h % 2 = 1 then [] else inflShape maxOut f r.2.1 r.2.2)

end Sys2Proof.Machine
end

