-- ==== Sys2Proof/Machine/Sign.lean ====
section
/-! DEFINITION. SHA-256 and ECDSA over P-256 as the boot ROM uses them (R395). The spec names both and gives no definition: the
standard ones are taken (log entry 55). -/
namespace Sys2Proof.Machine

/-- The first `n` primes, ascending, each found by trial division by those before it (`f` numbers are tried from `p` on). -/
def primesFrom : Nat → Nat → Nat → List Nat → List Nat
  | 0, _, _, l => l
  | f + 1, n, p, l =>
    if n ≤ l.length then l
    else primesFrom f n (p + 1) (if l.all fun q => p % q != 0 then l ++ [p] else l)

/-- The largest `r` below `2 ^ b` with `r ^ k` at most `n`, bit by bit from the top. -/
def rootOf (k n : Nat) : Nat → Nat → Nat
  | 0, r => r
  | b + 1, r => rootOf k n b (if (r + 2 ^ b) ^ k ≤ n then r + 2 ^ b else r)

/-- The first 32 bits of the fraction of the `k`-th root of `p`: how SHA-256's constants are made. -/
def rootWord (k p : Nat) : Word := W (rootOf k (p * 2 ^ (32 * k)) 37 0 % 2 ^ 32)

/-- The primes SHA-256 takes its constants from. -/
def shaPrimes : List Nat := primesFrom 320 64 2 []

/-- The constant of each round. -/
def shaRoundWords : List Word := shaPrimes.map (rootWord 3)

/-- The hash before the first block. -/
def shaStart : List Word := (shaPrimes.take 8).map (rootWord 2)

/-- Rotate right. -/
def rotr (x : Word) (n : Nat) : Word := (x >>> n) ||| (x <<< (32 - n))

/-- The message schedule, last word first, from its first 16 words. -/
def shaExpand : Nat → List Word → List Word
  | 0, l => l
  | f + 1, l =>
    let a := at' 0 l 1
    let b := at' 0 l 14
    let s1 := rotr a 17 ^^^ rotr a 19 ^^^ (a >>> 10)
    let s0 := rotr b 7 ^^^ rotr b 18 ^^^ (b >>> 3)
    shaExpand f ((s1 + at' 0 l 6 + s0 + at' 0 l 15) :: l)

/-- One round on the eight working variables. -/
def shaRound (v : List Word) (k w : Word) : List Word :=
  match v with
  | [a, b, c, d, e, f, g, h] =>
    let t1 := h + (rotr e 6 ^^^ rotr e 11 ^^^ rotr e 25) + ((e &&& f) ^^^ (~~~e &&& g)) + k + w
    let t2 := (rotr a 2 ^^^ rotr a 13 ^^^ rotr a 22) + ((a &&& b) ^^^ (a &&& c) ^^^ (b &&& c))
    [t1 + t2, a, b, c, d + t1, e, f, g]
  | _ => v

/-- One 64-byte block. -/
def shaBlock (h : List Word) (block : List Byte) : List Word :=
  let w := (List.range 16).map fun i => W (beAt block (4 * i) 4)
  let sched := (shaExpand 48 w.reverse).reverse
  let v := (shaRoundWords.zip sched).foldl (fun v p => shaRound v p.1 p.2) h
  (h.zip v).map fun p => p.1 + p.2

/-- Whole blocks, `n` of them. -/
def shaBlocks : Nat → List Word → List Byte → List Word
  | 0, h, _ => h
  | n + 1, h, l => shaBlocks n (shaBlock h (l.take 64)) (l.drop 64)

/-- SHA-256. -/
def sha256 (l : List Byte) : List Byte :=
  let z := (119 - l.length % 64) % 64
  let m := l ++ [0x80] ++ List.replicate z 0 ++ beBytes 8 (8 * l.length)
  (shaBlocks (m.length / 64) shaStart m).flatMap fun w => beBytes 4 w.toNat

/-! ## P-256 -/

def p256P : Nat := 2 ^ 256 - 2 ^ 224 + 2 ^ 192 + 2 ^ 96 - 1
def p256N : Nat := 0xffffffff00000000ffffffffffffffffbce6faada7179e84f3b9cac2fc632551
def p256B : Nat := 0x5ac635d8aa3a93e7b3ebbd55769886bc651d06b0cc53b0f63bce3c3e27d2604b
def p256G : Nat × Nat :=
  (0x6b17d1f2e12c4247f8bce6e563a440f277037d812deb33a0f4a13945d898c296,
   0x4fe342e2fe1a7f9b8ee7eb4a7c0f9e162bce33576b315ececbb6406837bf51f5)

/-- `b ^ e mod m` over the low `n` bits of `e`. -/
def powMod (m : Nat) : Nat → Nat → Nat → Nat
  | 0, _, _ => 1 % m
  | n + 1, b, e => (if e % 2 = 1 then b else 1) * powMod m n (b * b % m) (e / 2) % m

/-- Inverse modulo a prime below 2²⁵⁶. -/
def invMod (m a : Nat) : Nat := powMod m 256 (a % m) (m - 2)

/-- Point addition; `none` is the point at infinity. -/
def ecAdd : Option (Nat × Nat) → Option (Nat × Nat) → Option (Nat × Nat)
  | none, q => q
  | p, none => p
  | some (x1, y1), some (x2, y2) =>
    let p := p256P
    if x1 = x2 ∧ (y1 + y2) % p = 0 then none
    else
      let l := if x1 = x2 then (3 * x1 * x1 + (p - 3)) * invMod p (2 * y1) % p
        else (y2 + p - y1) * invMod p (x2 + p - x1) % p
      let x3 := (l * l + 2 * p - x1 - x2) % p
      some (x3, (l * (x1 + p - x3) + p - y1) % p)

/-- `k` times a point, over the low `n` bits of `k`. -/
def ecMul : Nat → Nat → Option (Nat × Nat) → Option (Nat × Nat)
  | 0, _, _ => none
  | n + 1, k, q => ecAdd (if k % 2 = 1 then q else none) (ecMul n (k / 2) (ecAdd q q))

/-- Is (x, y) a point of the curve? -/
def onCurve (x y : Nat) : Bool :=
  decide (x < p256P) && decide (y < p256P) && y * y % p256P == (x * x * x + (p256P - 3) * x + p256B) % p256P

/-- ECDSA verification of a 32-byte hash under a 64-byte public key with a 64-byte signature. -/
def ecdsaOk (key sig hash : List Byte) : Bool :=
  let x := beAt key 0 32
  let y := beAt key 32 32
  let r := beAt sig 0 32
  let v := beAt sig 32 32
  let n := p256N
  if onCurve x y && decide (0 < r) && decide (r < n) && decide (0 < v) && decide (v < n) then
    let w := invMod n v
    match ecAdd (ecMul 256 (be hash * w % n) (some p256G)) (ecMul 256 (r * w % n) (some (x, y))) with
    | some (px, _) => px % n == r
    | none => false
  else false

end Sys2Proof.Machine
end

