-- ==== Sys2Proof/Machine/SvcOps.lean ====
section
/-! DEFINITION. Mailboxes, service cores and the messages their firmware answers (R386 to R397). -/
namespace Sys2Proof.Machine

/-! ## Mailboxes (R389 to R392) -/

/-- Is the sender of a mailbox external (R389)? -/
def mbxExtSender (m : Nat) : Bool := m < 16 || 26 < m

/-- Is the receiver of a mailbox external (R389)? -/
def mbxExtReceiver (m : Nat) : Bool := 10 < m

/-- May this path act as a side that is external or a service? -/
def sideOk (p : Path) (ext : Bool) : Bool := (p != .svc) == ext

/-- FULL of a mailbox. -/
def mbxFull (m : Nat) (s : State) : Bool := s.rb Reg.MBX_FULL m

/-- A collision (R391). -/
def mbxCollide (m : Nat) (s : State) : State := errInc 8 0 (raise 8 10 (s.setB Reg.MBX_COLL m true))

/-- A data write by the sender's side (R391): on a FULL mailbox, or at the instant of its ACK, which it precedes, a collision. -/
def mbxData (p : Path) (m w : Nat) (data : Word) (s : State) : State :=
  if !sideOk p (mbxExtSender m) then config 8 s
  else
    let s := s.setReg (Reg.MBX_DATA m w) data
    if mbxFull m s || tget none s.svc.acked m == some s.now then mbxCollide m s else s

/-- The receiver of a message is notified (R390). -/
def mbxNotify (m : Nat) (s : State) : State := if mbxExtReceiver m then raise 8 8 s else s

/-- The doorbell of one mailbox (R390, R391). -/
def mbxRing (p : Path) (m : Nat) (s : State) : State :=
  if !sideOk p (mbxExtSender m) then config 8 s
  else if mbxFull m s then
    let note := some (s.now, s.rb Reg.MBX_COLL m, s.rb (Reg.evtStatus 8) 10)
    mbxNotify m (mbxCollide m { s with svc := { s.svc with rang := tset none s.svc.rang m note } })
  else mbxNotify m (stat 8 Reg.MBX_MSGS 1 (s.setB Reg.MBX_FULL m true))

/-- Store a message and ring its doorbell. -/
def mbxPost (m : Nat) (bytes : List Byte) (s : State) : State :=
  let s := each (List.range 16) (fun w s => s.setReg (Reg.MBX_DATA m w) (W (beAt (bytes ++ List.replicate 64 0) (4 * w) 4))) s
  mbxRing .svc m s

/-- The core of a service. -/
def coreOf (i : Nat) : Nat := if i < 3 then 0 else if i < 6 then 1 else if i < 8 then 2 else 3

/-- State of a core: 0 RESET, 1 RUN, 2 HALTED. -/
def coreState (c : Nat) (s : State) : Nat := s.rf Reg.SVC_CORE_STATE (2 * c) 2

/-- A service runs. -/
def svcRuns (i : Nat) (s : State) : Bool := s.released 9 && coreState (coreOf i) s == 1

/-- A service whose reply mailbox is empty sends its oldest waiting reply (R393). -/
def svcPump (i : Nat) (s : State) : State :=
  if mbxFull (16 + i) s || !svcRuns i s then s
  else match s.svc.replies.find? fun r => r.1 == i with
    | none => s
    | some r => mbxPost (16 + i) r.2 { s with svc := { s.svc with replies := s.svc.replies.erase r } }

/-- What a doorbell on the FULL mailbox `m` at this very instant found before it. -/
def rangNow (m : Nat) (s : State) : Option (Bool × Bool) :=
  match tget none s.svc.rang m with
  | some (t, c) => if t = s.now then some c else none
  | none => none

/-- A doorbell that came with the ACK of its mailbox counts after it: its collision is taken back, and the mailbox is FULL with its
message (R391). -/
def mbxRingAfter (m : Nat) (c : Bool × Bool) (s : State) : State :=
  let a := Reg.errCount 8 0
  let s := (s.setB Reg.MBX_COLL m c.1).setB (Reg.evtStatus 8) 10 c.2
  let s := if s.rf a 0 16 = 0xFFFF then s else s.setReg a (W (s.rf a 0 16 - 1))
  let s := { s with incs := (a, s.incsAt a - 1) :: s.incs.filter fun e => e.1 != a,
                    svc := { s.svc with rang := tset none s.svc.rang m none } }
  stat 8 Reg.MBX_MSGS 1 (s.setB Reg.MBX_FULL m true)

/-- The ACK of one mailbox (R390, R391). -/
def mbxAck (p : Path) (m : Nat) (s : State) : State :=
  if !sideOk p (mbxExtReceiver m) then config 8 s
  else if !mbxFull m s then s
  else
    let s := (s.setB Reg.MBX_FULL m false).setB Reg.MBX_EMPTIED m true
    let s := if mbxExtSender m then raise 8 9 s else s
    let s := { s with svc := { s.svc with acked := tset none s.svc.acked m (some s.now) } }
    let s := match rangNow m s with
      | some c => mbxRingAfter m c s
      | none => s
    if 16 ≤ m ∧ m ≤ 26 then svcPump (m - 16) s else s

/-- A word of mailbox bits acts bit by bit, in ascending number. -/
def mbxEach (f : Nat → State → State) (data : Word) (s : State) : State := each ((List.range 32).filter fun m => bit data m) f s

/-- Every mailbox is emptied (R392, R414). -/
def mbxClear (s : State) : State :=
  ((s.setReg Reg.MBX_FULL 0).setReg Reg.MBX_EMPTIED 0).setReg Reg.MBX_COLL 0

/-! ## Cores (R386 to R388) -/

/-- A heartbeat (R387). -/
def heartbeat (i : Nat) (s : State) : State :=
  if !svcRuns i s then s
  else
    let s := stat 9 (Reg.SVC_HB i) 1 { s with svc := { s.svc with hbAt := tset 0 s.svc.hbAt i s.now } }
    if s.rb Reg.SVC_STALE i then raise 9 9 (s.setB Reg.SVC_STALE i false) else s

/-- The heartbeat has not changed for 4 × SVC_HB_PERIOD (R387). -/
def hbStale (i : Nat) (s : State) : State :=
  if !s.released 9 || s.rb Reg.SVC_STALE i || decide (s.now < tget 0 s.svc.hbAt i + 4 * s.rf Reg.SVC_HB_PERIOD 0 17 * 1000) then s
  else errInc 9 0 (raise 9 8 (s.setB Reg.SVC_STALE i true))

/-- SVC_CMD RESTART (R388): without a booted image there is no copy to start from. What the core's services had in hand, a reply not
yet sent, a DISCOVER or an update in progress, is gone (log entry 104). -/
def svcRestart (c : Nat) (s : State) : State :=
  cmdGate 9 Reg.SVC_CMD_STATUS (fun s =>
    match s.svc.slot with
    | none => cmdError 9 Reg.SVC_CMD_STATUS 3 s
    | some _ =>
      let s := { s with svc := { s.svc with replies := s.svc.replies.filter fun r => coreOf r.1 != c,
                                            stage := if c = 3 then none else s.svc.stage,
                                            disc := if c = 3 then none else s.svc.disc } }
      cmdDone 9 Reg.SVC_CMD_STATUS (stat 9 Reg.SVC_RESTARTS 1 (s.setF Reg.SVC_CORE_STATE (2 * c) 2 1))) s

/-- A running core halts (R388). -/
def coreHalt (c : Nat) (s : State) : State :=
  if s.released 9 && coreState c s == 1 then errInc 9 1 (raise 9 11 (s.setF Reg.SVC_CORE_STATE (2 * c) 2 2)) else s

/-! ## Images (R394, R395) -/

/-- Base of an image slot in the flash. -/
def slotBase (slot : Nat) : Nat := if slot = 0 then 0x00010000 else 0x00810000

/-- Read the boot flash. -/
def State.flashRead (s : State) (a n : Nat) : List Byte := mread flashDefault a n s.flash

/-- The boot check of a slot: a *Boot results* code. -/
def imageCheck (slot : Nat) (readErr : Bool) (s : State) : Nat :=
  let h := s.flashRead (slotBase slot) 256
  let len := beAt h 0x0C 4
  if readErr then 6
  else if beAt h 0 4 ≠ 0x41434E4A then 2
  else if len = 0 ∨ 8388352 < len then 3
  else if sha256 ((h.drop 0x40).take 64) ≠ s.chip.opt.keyHash then 4
  else if ecdsaOk ((h.drop 0x40).take 64) ((h.drop 0x80).take 64)
      (sha256 (h.take 0x80 ++ s.flashRead (slotBase slot + 256) len)) then 1
  else 5

/-- The boot ROM's checks at D4 release (R395). -/
def svcBoot (readErr : BitVec 2) (s : State) : State :=
  let a := imageCheck 0 (readErr.toNat % 2 == 1) s
  let b := imageCheck 1 (readErr.toNat / 2 == 1) s
  let seq := fun slot => be (s.flashRead (slotBase slot + 8) 4)
  let slot : Option Nat := if a = 1 ∧ (b ≠ 1 ∨ seq 1 ≤ seq 0) then some 0 else if b = 1 then some 1 else none
  let s := { s with svc := { s.svc with hbAt := tmap 0 11 (l := []) fun _ => s.now, slot := slot, log := [], logNext := 0, stage := none,
                                        disc := none, replies := [], lossUs := [] } }
  let s := s.setReg Reg.SVC_BOOT (W ((match slot with | some k => k + 1 | none => 0) + 16 * a + 256 * b))
  match slot with
  | none => raise 9 10 s
  | some k =>
    ((s.setReg Reg.SVC_VERSION (W (be (s.flashRead (slotBase k + 4) 4)))).setReg Reg.SVC_SEQ (W (seq k))).setReg
      Reg.SVC_CORE_STATE 0x55

/-! ## The log (R393, R438) -/

/-- Write a log record: page, CODE and 24 argument bytes. With OWNER 0 it also goes to the debug UART. -/
def logPut (page code : Nat) (args : List Byte) (s : State) : State :=
  let r := beBytes 4 s.timeNs ++ beBytes 1 page ++ beBytes 1 0 ++ beBytes 2 code ++ (args ++ List.replicate 24 0).take 24
  let s := { s with svc := { s.svc with log := (r :: s.svc.log).take 1024, logNext := s.svc.logNext + 1 } }
  if s.enabled 0x7F && !s.rb Reg.DEBUG_UART_CTRL 0 then emit (.svc 10 r) s else s

/-- The log service records something whose CODE the spec does not give: a free value (log entry 56). -/
def logEvent (page : Nat) (args : List Byte) (s : State) : State :=
  if svcRuns 10 s then
    let f := s.freeW
    logPut page (f.1.toNat % 65536) args f.2
  else s

/-! ## Service messages (R393) -/

/-- The 64 bytes of a mailbox. -/
def mbxBytes (m : Nat) (s : State) : List Byte := (List.range 16).flatMap fun w => beBytes 4 (s.reg (Reg.MBX_DATA m w)).toNat

/-- A service answers: the reply waits for its mailbox (R393). -/
def svcReply (i op seq status : Nat) (data : List Byte) (s : State) : State :=
  let r := beBytes 1 i ++ beBytes 1 (op + 0x80) ++ beBytes 1 seq ++ beBytes 1 status ++ data
  svcPump i { s with svc := { s.svc with replies := s.svc.replies ++ [(i, r)] } }

/-- Service opcodes of service `i` (R393). -/
def svcOps (i : Nat) : List Nat :=
  if i = 9 then [0x01, 0x20] else if i = 10 then [0x01, 0x10, 0x11, 0x40, 0x41, 0x42] else [0x01]

/-- A service takes the request in its mailbox where its OPCODE is `op` (or, for PING, one no service opcode serves): it reads
it, acknowledges it, answers BADSERVICE, BADOPCODE or COLLIDED, or hands SEQ and parameters to `f`. -/
def svcTake (i op : Nat) (f : Nat → List Byte → State → State) (s : State) : State :=
  let b := mbxBytes i s
  let o := beAt b 1 1
  let len := beAt b 3 1
  let known := beAt b 0 1 == i && (svcOps i).contains o
  if !svcRuns i s || !mbxFull i s || !(o == op || (op == 1 && !known)) then s
  else
    let coll := match rangNow i s with | some c => c.1 | none => s.rb Reg.MBX_COLL i
    let s := mbxAck .svc i (s.setB Reg.MBX_COLL i false)
    let no := fun st s => svcReply i o (beAt b 2 1) st [] s
    if coll then no 4 s
    else if beAt b 0 1 ≠ i then no 1 s
    else if !(svcOps i).contains o then no 2 s
    else if 60 < len then no 3 s
    else f (beAt b 2 1) ((b.drop 4).take len) s

/-- PING. -/
def svcPing (i : Nat) (s : State) : State :=
  svcTake i 1 (fun seq p s =>
    if p.length ≠ 0 then svcReply i 1 seq 3 [] s
    else svcReply i 1 seq 0 (beBytes 4 (s.reg (Reg.SVC_HB i)).toNat ++ beBytes 4 (s.reg Reg.SVC_VERSION).toNat) s) s

/-- DISCOVER: an IDENT goes to the head; the reply waits for its response. -/
def svcDiscover (s : State) : State :=
  svcTake 9 0x20 (fun seq p s =>
    if p.length ≠ 1 ∨ 31 < beAt p 0 1 then svcReply 9 0x20 seq 3 [] s
    else if s.svc.disc.isSome then svcReply 9 0x20 seq 5 [] s
    else
      let h := beAt p 0 1
      headCommand h ⟨.mgmt, 6, []⟩ { s with svc := { s.svc with disc := some (h, seq) } }) s

/-- The head management service writes PAIR_CFG.HEAD_LOSS_US with the smallest LOSS_US of the heads' IDENT data (R368); a value outside
the field's range is refused as in any write of it (R370). -/
def headLossWrite (h us : Nat) (s : State) : State :=
  let s := { s with svc := { s.svc with lossUs := tset 0 s.svc.lossUs h us } }
  let n := (s.svc.lossUs.filter fun e => e.2 != 0).foldl (fun n e => min n e.2) us
  if !s.released 0x68 then s else if 8 ≤ n ∧ n ≤ 20 then s.setF Reg.PAIR_CFG 24 8 n else config 0x68 s

/-- The head's IDENT has come, or has failed: the service sets or clears HOLD and answers (R174). What it answers for a head
that does not respond is a free value (log entry 56). -/
def svcIdent (h : Nat) (ident : Option (List Byte)) (s : State) : State :=
  match s.svc.disc with
  | none => s
  | some (h', seq) =>
    if h' ≠ h || !svcRuns 9 s then s
    else
      let s := { s with svc := { s.svc with disc := none } }
      match ident with
      | some d =>
        let ok := decide (s.rf Reg.FIRE_CTRL 4 3 + 1 ≤ beAt d 9 1) && decide (s.lf (Reg.HEADS_COUNT h) 0 14 ≤ beAt d 6 2)
        let s := headLossWrite h (beAt d 0x0D 1) (s.setB (Reg.HEADS_HOLD h) 0 (!ok))
        svcReply 9 0x20 seq 0 (d.take 28) (if ok then s else logEvent 0x19 (beBytes 1 h) s)
      | none =>
        let f := s.freeW
        let s := f.2.setB (Reg.HEADS_HOLD h) 0 true
        svcReply 9 0x20 seq (f.1.toNat % 256) [] s

/-- LOG_READ. -/
def svcLogRead (s : State) : State :=
  svcTake 10 0x10 (fun seq p s =>
    let x := beAt p 0 4
    let newest := s.svc.logNext - 1
    if p.length ≠ 4 ∨ s.svc.logNext ≤ x then svcReply 10 0x10 seq 3 [] s
    else
      let old := newest - 1023
      let k := max x old
      svcReply 10 0x10 seq (if x < old then 6 else 0)
        (beBytes 4 k ++ at' [] s.svc.log (newest - k) ++ beBytes 4 newest) s) s

/-- LOG_MARK: the record's page is a free value (log entry 56). -/
def svcLogMark (s : State) : State :=
  svcTake 10 0x11 (fun seq p s =>
    if p.length < 2 ∨ 28 < p.length then svcReply 10 0x11 seq 3 [] s
    else
      let f := s.freeW
      svcReply 10 0x11 seq 0 [] (logPut (f.1.toNat % 256) (beAt p 0 2) (p.drop 2) f.2)) s

/-- FW_BEGIN: the slot is erased, unless it is the booted one. -/
def svcFwBegin (s : State) : State :=
  svcTake 10 0x40 (fun seq p s =>
    let slot := beAt p 0 1
    if p.length ≠ 5 ∨ 1 < slot ∨ s.svc.slot = some slot ∨ 8388608 < beAt p 1 4 then svcReply 10 0x40 seq 3 [] s
    else
      svcReply 10 0x40 seq 0 []
        { s with flash := mclear (slotBase slot) (slotBase slot + 0x800000) s.flash,
                 svc := { s.svc with stage := some ⟨slot, beAt p 1 4, 0⟩ } }) s

/-- FW_DATA: bytes at the next offset. -/
def svcFwData (s : State) : State :=
  svcTake 10 0x41 (fun seq p s =>
    let n := beAt p 4 1
    match s.svc.stage with
    | none => svcReply 10 0x41 seq 3 [] s
    | some st =>
      if p.length ≠ 5 + n ∨ n = 0 ∨ 52 < n ∨ beAt p 0 4 ≠ st.written ∨ st.length < st.written + n then svcReply 10 0x41 seq 3 [] s
      else
        svcReply 10 0x41 seq 0 []
          { s with flash := mwrite flashDefault (slotBase st.slot + st.written) (p.drop 5) s.flash,
                   svc := { s.svc with stage := some { st with written := st.written + n } } }) s

/-- FW_END: the staged image is checked as at boot. -/
def svcFwEnd (readOk : Bool) (s : State) : State :=
  svcTake 10 0x42 (fun seq p s =>
    match s.svc.stage with
    | none => svcReply 10 0x42 seq 3 [] s
    | some st =>
      if p.length ≠ 0 then svcReply 10 0x42 seq 3 [] s
      else svcReply 10 0x42 seq 0 (beBytes 1 (imageCheck st.slot (!readOk) s)) { s with svc := { s.svc with stage := none } }) s

end Sys2Proof.Machine
end

