-- ==== Sys2Proof/Machine/DeflOps.lean ====
section
/-! DEFINITION. The two DEFLATE engines (R313 to R324). -/
namespace Sys2Proof.Machine

/-- An engine. -/
def State.defl (s : State) (e : Nat) : DeflEng := tget Reset.defl s.deflE e

/-- Replace an engine. -/
def State.setDefl (s : State) (e : Nat) (x : DeflEng) : State := { s with deflE := tset Reset.defl s.deflE e x }

/-- Two byte ranges overlap. -/
def overlap (a n b m : Nat) : Bool := decide (a < b + m) && decide (b < a + n)

/-- A write of DEFL_OWN: for each engine taken from it, the service firmware logs once that it does without that work (R313). -/
def deflOwnDone (old : Word) (s : State) : State :=
  each ((List.range 2).filter fun e => bit old e && !s.rb Reg.DEFL_OWN e) (fun e s => logEvent 0x50 (beBytes 1 e) s) s

/-- The refusals of START (R313, R314): the code, or none. -/
def startRefused (svc : Bool) (e : Nat) (s : State) : Option Nat :=
  let mode := s.reg (Reg.DEFL_E_MODE e)
  let src := s.rf (Reg.DEFL_E_ADDR_HI e) 0 2 * 2 ^ 32 + (s.reg (Reg.DEFL_E_SRC_LO e)).toNat
  let dst := s.rf (Reg.DEFL_E_ADDR_HI e) 8 2 * 2 ^ 32 + (s.reg (Reg.DEFL_E_DST_LO e)).toNat
  let n := s.rf (Reg.DEFL_E_SRC_LEN e) 0 28
  let m := s.rf (Reg.DEFL_E_DST_LEN e) 0 28
  if s.rb Reg.DEFL_OWN e && !svc then some 5
  else if decide (4 < fld mode 8 3) || n == 0 || m == 0 || overlap src n dst m then some 1
  else if !bit mode 0 && bit mode 3 && (s.defl e).chain.isNone then some 1
  else if decide (dramBytes s < src + n) || decide (dramBytes s < dst + m) then some 2
  else none

/-- Show a job's counts and CRCs (R320, R323, R324). -/
def deflShow (e : Nat) (j : DeflJob) (s : State) : State :=
  ((((s.setReg (Reg.DEFL_E_IN_DONE e) (W j.inDone)).setReg (Reg.DEFL_E_OUT_DONE e) (W j.out.length)).setReg
    (Reg.DEFL_E_BUF_OUT e) (W j.bufOut)).setReg (Reg.DEFL_E_IN_CRC e) (W (crc32c (s.dramRead j.src j.inDone)))).setReg
    (Reg.DEFL_E_OUT_CRC e) (W (crc32c j.out))

/-- START (R314). A refused START leaves a stopped job as it is (log entry 103). -/
def deflStart (svc : Bool) (e : Nat) (s : State) : State :=
  match startRefused svc e s with
  | some c => cmdError 0x50 (Reg.DEFL_E_STATUS e) c s
  | none =>
    let src := s.rf (Reg.DEFL_E_ADDR_HI e) 0 2 * 2 ^ 32 + (s.reg (Reg.DEFL_E_SRC_LO e)).toNat
    let dst := s.rf (Reg.DEFL_E_ADDR_HI e) 8 2 * 2 ^ 32 + (s.reg (Reg.DEFL_E_DST_LO e)).toNat
    let mode := s.reg (Reg.DEFL_E_MODE e)
    let j : DeflJob := ⟨mode, src, s.rf (Reg.DEFL_E_SRC_LEN e) 0 28, dst, s.rf (Reg.DEFL_E_DST_LEN e) 0 28, [], 0, 0, []⟩
    let x := s.defl e
    let chain := if !bit mode 0 && bit mode 3 then x.chain else some ([], [])
    deflShow e j (cmdStart (Reg.DEFL_E_STATUS e) (s.setDefl e ⟨some j, false, chain⟩))

/-- RESUME (R321). -/
def deflResume (svc : Bool) (e : Nat) (s : State) : State :=
  let x := s.defl e
  let dst := s.rf (Reg.DEFL_E_ADDR_HI e) 8 2 * 2 ^ 32 + (s.reg (Reg.DEFL_E_DST_LO e)).toNat
  let m := s.rf (Reg.DEFL_E_DST_LEN e) 0 28
  if s.rb Reg.DEFL_OWN e && !svc then cmdError 0x50 (Reg.DEFL_E_STATUS e) 5 s
  else match x.job with
  | none => cmdError 0x50 (Reg.DEFL_E_STATUS e) 1 s
  | some j =>
    if !x.stopped || m == 0 || overlap j.src j.srcLen dst m then cmdError 0x50 (Reg.DEFL_E_STATUS e) 1 s
    else if dramBytes s < dst + m then cmdError 0x50 (Reg.DEFL_E_STATUS e) 2 s
    else
      let j := { j with dst := dst, dstLen := m, bufOut := 0 }
      deflShow e j (cmdStart (Reg.DEFL_E_STATUS e) (s.setDefl e { x with job := some j, stopped := false }))

/-- A flush (R318). -/
def deflFlush (e consumed : Nat) (s : State) : State :=
  match (s.defl e).job with
  | some j =>
    if s.cmdBusy (Reg.DEFL_E_STATUS e) && !bit j.mode 0 && decide (consumed < j.srcLen) then
      s.setDefl e { s.defl e with job := some { j with flushes := j.flushes ++ [consumed] } }
    else s
  | none => s

/-- Bytes written into the present destination. -/
def deflWrite (bytes : List Byte) (j : DeflJob) (s : State) : DeflJob × State :=
  let s := dramReq 8 true (j.dst + j.bufOut) bytes.length (s.dramWrite (j.dst + j.bufOut) bytes)
  ({ j with out := j.out ++ bytes, bufOut := j.bufOut + bytes.length }, stat48 0x50 Reg.DEFL_OUT bytes.length s)

/-- A job ends for good: `chain` is what a CONTINUE may go on with. -/
def deflEnd (e : Nat) (j : DeflJob) (chain : Option (List Byte × List Byte)) (st code : Nat) (s : State) : State :=
  let s := deflShow e j (s.setDefl e ⟨none, false, chain⟩)
  cmdEnd 0x50 (Reg.DEFL_E_STATUS e) st code 0 s

/-- The job stops for lack of output space (R320). -/
def deflStop (e : Nat) (j : DeflJob) (s : State) : State :=
  let x := s.defl e
  let s := deflShow e j (s.setDefl e { x with job := some j, stopped := true })
  cmdEnd 0x50 (Reg.DEFL_E_STATUS e) 2 0x80 0 (errInc 0x50 2 (raise 0x50 8 s))

/-- Input bytes newly consumed count (R324). -/
def deflConsume (n : Nat) (j : DeflJob) (s : State) : DeflJob × State :=
  let n := min n j.srcLen
  ({ j with inDone := max n j.inDone }, stat48 0x50 Reg.DEFL_IN (n - j.inDone) s)

/-- Blocks end where R315 has them end: after BLOCK bytes of input, at a stored block (a flush), or with the input. -/
def blocksFull (size : Nat) : List (Nat × Bool × Nat) → Bool
  | a :: b :: l => (a.1 == 0 || a.2.2 == size || b.1 == 0) && blocksFull size (b :: l)
  | _ => true

/-- A stream that a compress job may write: it inflates to the input, its blocks are of the kinds and lengths R315 allows, with FINAL
clear it ends with an empty stored block, and each flush shows the input consumed so far. -/
def deflValid (j : DeflJob) (chain : List Byte × List Byte) (src : List Byte) : Bool :=
  let final := bit j.mode 2
  let tail := fun (l : List Byte) => l ++ [3, 0]
  let whole := chain.2 ++ j.out
  let input := chain.1 ++ src
  let r := inflateRaw (2 ^ 32) (if final then whole else tail whole)
  let shape := (inflShape (2 ^ 32) (8 * whole.length + 1) (bitStream whole) []).drop
    (inflShape (2 ^ 32) (8 * chain.2.length + 1) (bitStream chain.2) []).length
  let ty := if bit j.mode 1 then 2 else 1
  let size := 4096 * 2 ^ fld j.mode 8 3
  r.1 == 0 && r.2.2 == input && decide (r.2.1.length < 8) &&
  shape.all (fun b => (b.1 == ty && decide (b.2.2 ≤ size)) || (b.1 == 0 && b.2.2 == 0 && !b.2.1)) && blocksFull size shape &&
  (final || whole.drop (whole.length - 4) == [0, 0, 255, 255]) &&
  j.flushes.all fun c => (List.range (whole.length + 1)).any fun i =>
    (whole.take i).drop (i - 4) == [0, 0, 255, 255] && (inflateRaw (2 ^ 32) (tail (whole.take i))).2.2 == chain.1 ++ src.take c

/-- A compress job runs on: `out` are the output bytes due since its last stop (R315, R319, R320). -/
def compressEnd (e : Nat) (j : DeflJob) (out : List Byte) (consumed : Nat) (s : State) : State :=
  let room := j.dstLen - j.bufOut
  let gain := j.srcLen - 1 - j.out.length
  if min room gain < out.length then
    let w := deflWrite (out.take (min room gain)) j s
    let c := deflConsume consumed w.1 w.2
    if gain ≤ room then deflEnd e c.1 none 4 0x81 (raise 0x50 9 c.2)
    else deflStop e c.1 c.2
  else
    let src := s.dramRead j.src j.srcLen
    let chain := ((s.defl e).chain).getD ([], [])
    let w := deflWrite out j s
    if !deflValid w.1 chain src then s
    else
      let c := deflConsume j.srcLen w.1 w.2
      deflEnd e c.1 (if bit j.mode 2 then none else some (chain.1 ++ src, chain.2 ++ c.1.out)) 2 0 c.2

/-- An inflate job runs on (R316, R320). -/
def inflateEnd (e : Nat) (j : DeflJob) (consumed : Nat) (s : State) : State :=
  let src := s.dramRead j.src j.srcLen
  let r := inflateRaw (2 ^ 32 - 1) src
  let due := r.2.2.drop j.out.length
  let room := j.dstLen - j.bufOut
  if room < due.length then
    let w := deflWrite (due.take room) j s
    let c := deflConsume consumed w.1 w.2
    deflStop e c.1 c.2
  else
    let w := deflWrite due j s
    if r.1 = 0 then
      let c := deflConsume (j.srcLen - r.2.1.length / 8) w.1 w.2
      deflEnd e c.1 none 2 0 c.2
    else
      let c := deflConsume (if r.1 = 2 then j.srcLen else consumed) w.1 w.2
      deflEnd e c.1 none 4 (if r.1 = 2 then 0x83 else 0x82) (errInc 0x50 0 (raise 0x50 10 c.2))

/-- How far into its source a job reads before it stops or ends: an inflate job not past the block with BFINAL (R316), a job that
stops early not past the input it has consumed (R319, R320). -/
def deflReads (j : DeflJob) (out : List Byte) (consumed : Nat) (s : State) : Nat :=
  let room := j.dstLen - j.bufOut
  if bit j.mode 0 then
    let r := inflateRaw (2 ^ 32 - 1) (s.dramRead j.src j.srcLen)
    if room < (r.2.2.drop j.out.length).length then min consumed j.srcLen
    else if r.1 = 0 then j.srcLen - r.2.1.length / 8
    else if r.1 = 2 then j.srcLen else min consumed j.srcLen
  else if min room (j.srcLen - 1 - j.out.length) < out.length then min consumed j.srcLen
  else j.srcLen

/-- DEFL_JOB_END (R316, R319, R320, R322). -/
def deflJobEnd (e : Nat) (out : List Byte) (consumed : Nat) (s : State) : State :=
  match (s.defl e).job with
  | none => s
  | some j =>
    if !s.cmdBusy (Reg.DEFL_E_STATUS e) || !dramReady s then s
    else
      let n := deflReads j out consumed s - j.inDone
      let s := dramReq 8 false (j.src + j.inDone) n s
      if s.dramBad (j.src + j.inDone) n then
        let c := deflConsume consumed j s
        deflEnd e c.1 none 4 3 (errInc 0x50 1 c.2)
      else if bit j.mode 0 then inflateEnd e j consumed s
      else compressEnd e j out consumed s

/-- An abort before the commit point (R322). -/
def deflAbort (e : Nat) (s : State) : State :=
  if s.cmdBusy (Reg.DEFL_E_STATUS e) then cmdAbort 0x50 (Reg.DEFL_E_STATUS e) (s.setDefl e ⟨none, false, none⟩) else s

end Sys2Proof.Machine
end

