-- ==== Sys2Proof/Machine/PaceOps.lean ====
section
/-! DEFINITION. Pace: the pace table, slack windows, the set-point rule, PMBus ramps and the fire-class guarantee (R65 to R76). -/
namespace Sys2Proof.Machine

/-- PACE_TABLE index of PACE_LOAD at a temperature column (R66). -/
def paceIndex (load : Word) (col : Nat) : Nat := 12 * fld load 2 1 + 3 * fld load 0 2 + col

/-- PACE_VMIN (R67). -/
def vmin (s : State) : Nat := s.rf (Reg.PACE_TABLE (paceIndex (s.reg Reg.PACE_LOAD) s.pace.col)) 0 12

/-- Tj in 0.25 °C (R76). -/
def tj (s : State) : Int := sgn 10 (s.rf Reg.PACE_TEMP 0 10)

/-- The column a temperature moves PACE_VMIN to (R67): up at once, down with 3 °C of hysteresis. -/
def nextCol (col : Nat) (t : Int) : Nat :=
  if 340 < t then 2
  else if 328 < t ∧ col = 2 then 2
  else if 200 < t then 1
  else if 188 < t ∧ 1 ≤ col then 1
  else 0

/-- The sensors report Tj (R67, R76). -/
def paceTemp (raw : Nat) (s : State) : State :=
  let s := s.setReg Reg.PACE_TEMP (W (raw % 1024))
  let s := { s with pace := { s.pace with col := nextCol s.pace.col (tj s) } }
  if 420 < tj s then raise 3 14 s else s

/-- LINEAR16 word of a voltage in mV (R70). How a mV that the exponent cannot show exactly is rounded is the model's choice: to the
nearest for a negative exponent, down otherwise (log entry 97). -/
def linear16 (mv : Nat) (e : Int) : Nat :=
  if e < 0 then (mv * 2 ^ e.natAbs + 500) / 1000 else mv / (1000 * 2 ^ e.natAbs)

/-- A PMBus transaction on the wire: a PEC byte follows while PEC_EN is 1 (R70). -/
def pmbSend (cmd data : Nat) (write : Bool) (s : State) : State := emit (.pmbus cmd data write (s.rb Reg.PACE_CTRL 1)) s

/-- A try fails: it is not acknowledged, or its PEC is wrong while packet error checking is on (R70). -/
def pmbFails (t : PmbTry) (s : State) : Bool :=
  match t with
  | .ok => false
  | .nak => true
  | .badPec => s.rb Reg.PACE_CTRL 1

/-- The tries of a transaction that has been sent: each failure is retried, three times at most, and each retry counts. Answers whether
one of them succeeded (R70). -/
def pmbTries (cmd data : Nat) (write : Bool) (tries : List PmbTry) (s : State) : Bool × State :=
  let fails := (tries.takeWhile fun t => pmbFails t s).length
  (decide (fails ≤ 3), each (List.range (min 3 fails)) (fun _ s => pmbSend cmd data write (errInc 3 0 s)) s)

/-- Send VOUT_COMMAND for the next step of a ramp to `target` (R70). -/
def rampSend (target : Nat) (s : State) : State :=
  let step := s.rf Reg.PACE_STEP 0 6
  let cur := s.pace.last
  let v := if cur < target then min target (cur + step) else max target (cur - step)
  let s := { s with pace := { s.pace with ramp := some ⟨target, v, s.now⟩ } }
  pmbSend 0x21 (linear16 v s.pace.expo) true (s.setReg Reg.PACE_RAMP_STATUS (cmdWord 1 0 v))

/-- A write of PACE_SETPOINT (R70): refused below PACE_VMIN or outside the register's range, or while a ramp runs. R70 does not say what
becomes of a write while the master does not run: the model keeps the word and ends the ramp command ERROR with code 6 (log entry
97). -/
def setpointWrite (v : Nat) (s : State) : State :=
  if v < 650 ∨ 950 < v ∨ v < vmin s ∨ s.cmdBusy Reg.PACE_RAMP_STATUS then config 3 s
  else
    let s := s.setReg Reg.PACE_SETPOINT (W v)
    if s.running 3 && s.rb Reg.PACE_CTRL 0 then rampSend v s else cmdError 3 Reg.PACE_RAMP_STATUS 6 s

/-- A ramp ends: the progress field keeps the last mV sent, `mv`. -/
def rampEnd (st code mv : Nat) (s : State) : State :=
  cmdEnd 3 Reg.PACE_RAMP_STATUS st code mv { s with pace := { s.pace with ramp := none } }

/-- A ramp step (R70): the outcome of the VOUT_COMMAND sent last and, SETTLE_US after it, the reading. A transaction that fails for good
ends the ramp PMBNAK, and the regulator keeps the voltage it accepted last. -/
def rampStep (sends reads : List PmbTry) (v : Nat) (s : State) : State :=
  match s.pace.ramp with
  | none => s
  | some r =>
    let p := pmbTries 0x21 (linear16 r.cmd s.pace.expo) true sends s
    if !p.1 then raise 3 10 (rampEnd 4 0x80 r.cmd p.2)
    else if s.now < r.sentAt + s.rf Reg.PACE_STEP 16 16 * 1000 then s
    else
      let s := { p.2 with pace := { p.2.pace with last := r.cmd } }
      let q := pmbTries 0x8B 0 false reads (pmbSend 0x8B 0 false s)
      if !q.1 then raise 3 10 (rampEnd 4 0x80 r.cmd q.2)
      else
        let s := q.2.setReg Reg.PACE_VOUT (W (v % 4096 + 2147483648))
        if r.cmd + 25 < v ∨ v + 25 < r.cmd then rampEnd 4 0x81 r.cmd s
        else if r.cmd = r.target then rampEnd 2 0 r.cmd s
        else rampSend r.target s

/-- The set-point rule (R68), at a window's end and between: the raise a slow window asks for is made once. A target that PACE_VMIN's
hysteresis leaves below PACE_VMIN is raised to PACE_VMIN, since R70 refuses a set-point below it: the rule states no value there, and
this is the model's choice (log entry 23). -/
def paceService (s : State) : State :=
  if !s.rb Reg.PACE_CTRL 2 || !svcRuns 2 s || s.cmdBusy Reg.PACE_RAMP_STATUS then s
  else
    let t := tj s + 4 * s.rf Reg.PACE_CTRL 16 8
    let col := if t ≤ 200 then 0 else if t ≤ 340 then 1 else 2
    let target := s.rf (Reg.PACE_TABLE (paceIndex (s.reg Reg.PACE_LOAD) col)) 0 12 + s.rf Reg.PACE_STEP 8 8
    let target := max (vmin s) (clampN 650 950 target)
    let sp := s.rf Reg.PACE_SETPOINT 0 12
    let step := s.rf Reg.PACE_STEP 0 6
    let go := fun v s => if v = sp then s else setpointWrite v s
    if sp < target then go target s
    else if s.pace.slow then go (min (sp + step) 950) { s with pace := { s.pace with slow := false } }
    else if decide (s.rf Reg.PACE_THRESH 16 8 ≤ s.pace.goodWins) then
      go (max (sp - step) target) { s with pace := { s.pace with goodWins := 0 } }
    else s

/-- A window of PACE_WINDOW fired lines ends (R65, R68); `more` is the least slack of each pipeline's units that no command times (log
entry 24). -/
def paceWindowEnd (more : List Int) (s : State) : State :=
  if s.pace.lines < s.rf Reg.PACE_WINDOW 0 16 then s
  else
    let sl := fun k => min (at' 32767 s.pace.slack k) (clampI (-32768) 32767 (at' 32767 more k))
    let s := each (List.range 4) (fun k s => s.setReg (Reg.PACE_SLACK k) (W (wrapN 16 (sl k)))) s
    let slow := (List.range 4).any fun k => decide (sl k < s.rf Reg.PACE_THRESH 0 8)
    let good := (List.range 4).all fun k => decide ((s.rf Reg.PACE_THRESH 8 8 : Int) < sl k)
    let s := { s with pace := { s.pace with lines := 0, slack := Reset.pace.slack, slow := slow, goodWins := if good then s.pace.goodWins + 1 else 0 } }
    let s := if slow then errInc 3 3 (raise 3 8 s) else s
    paceService s

/-- PMB_EN goes to 1: the exponent is read from VOUT_MODE, and stays as it is where the read fails for good (R70). -/
def pmbEnable (tries : List PmbTry) (mode : Nat) (s : State) : State :=
  let q := pmbTries 0x20 0 false tries (pmbSend 0x20 0 false s)
  if q.1 then { q.2 with pace := { q.2.pace with expo := sgn 5 mode } } else q.2

/-- PMB_ALERT_N falls (R71). R71 names no gate; that a fall is not seen while PMB_EN is 0, when the master does not run, is the model's
choice (log entry 97). -/
def pmbAlert (tries : List PmbTry) (status : Nat) (s : State) : State :=
  if s.rb Reg.PACE_CTRL 0 then
    let q := pmbTries 0x79 0 false tries (pmbSend 0x79 0 false s)
    raise 3 11 (if q.1 then q.2.setReg Reg.PACE_PMB_STATUS (W (status % 65536)) else q.2)
  else s

/-- The rules of R67 and R76 for a write of PACE; `w` is the word as it would stand. -/
def paceWriteOk (off : Nat) (w : Word) (s : State) : Bool :=
  if off = 0x060 then decide (fld w 0 8 < fld w 8 8)
  else if 0x100 ≤ off ∧ off < 0x160 then
    let i := (off - 0x100) / 4
    decide (at' 0 s.chip.opt.pace i ≤ fld w 0 12) && decide (fld w 0 12 ≤ 950)
  else true

/-! ## The load of a job (R66, R69) -/

/-- The pace-table entry of a load at the present column. -/
def loadEntry (load : Word) (s : State) : Nat := s.rf (Reg.PACE_TABLE (paceIndex load s.pace.col)) 0 12

/-- The class of the line rate FIRE_MIN_PERIOD allows (R66, R76). -/
def rateClass (ns : Nat) : Nat := if 20000 ≤ ns then 0 else if 10000 ≤ ns then 1 else if 20000 ≤ 3 * ns then 2 else 3

/-- PACE_LOAD as the job service writes it for a page of `width` pixels: a contone pixel finer than 1/600 in across MAP_NOZZLES nozzles of
2,400 to the inch makes it a 1,200 px/in job. How the service classes a job is the model's choice (log entry 96). -/
def pageLoad (width : Nat) (s : State) : Word :=
  W (rateClass (s.lf Reg.FIRE_MIN_PERIOD 0 16) + 4 * (decide (600 * s.rf Reg.MAP_NOZZLES 0 17 < 2400 * width)).toNat)

/-- The ramp a heavier load asked for has ended DONE, where one was needed, with the voltage read at or above PACE_VMIN (R69). -/
def loadReady (s : State) : Bool :=
  !s.cmdBusy Reg.PACE_RAMP_STATUS && s.rf Reg.PACE_RAMP_STATUS 0 3 != 4 && decide (vmin s ≤ s.rf Reg.PACE_SETPOINT 0 12) &&
    (!s.rb Reg.PACE_VOUT 31 || decide (vmin s ≤ s.rf Reg.PACE_VOUT 0 12))

/-! ## The guarantee (R73, R74) -/

/-- Bits [5:0] of PACE_GUAR as its conditions stand (R73). -/
def guarBits (s : State) : Nat :=
  ofBits [decide (vmin s ≤ s.pace.vcore), reserveOk s, refreshOk s, dramReady s && !s.rb Reg.DRAMTRN_CMD_STATUS 0,
    s.dramc.forced.isEmpty, decide (3 ≤ s.rf Reg.FIRE_CTRL 4 3)]

/-- 2 × L in ns: L is the present line period, or FIRE_MIN_PERIOD without a valid forward speed (R74). -/
def guarWait (period : Option Nat) (s : State) : Nat := 2 * period.getD (s.lf Reg.FIRE_MIN_PERIOD 0 16)

/-- PACE_GUAR follows its conditions (R73, R74). -/
def guarUpdate (period : Option Nat) (s : State) : State :=
  let old := s.reg Reg.PACE_GUAR
  let b := guarBits s
  let ok := b == 63
  let s := s.setReg Reg.PACE_GUAR (W (b + 256 * ok.toNat))
  let s := if bit old 0 && b % 2 == 0 then errInc 3 1 (raise 3 9 s) else s
  let s := if bit old 1 && b / 2 % 2 == 0 then raise 0x4A 9 s else s
  if bit old 8 && !ok then
    let s := { s with pace := { s.pace with rose := none, lapsed := true } }
    errInc 3 2 (raise 3 12 (s.setReg Reg.PACE_LAPSE_TIME (W s.timeNs)))
  else if !bit old 8 && ok && s.pace.lapsed then
    { s with pace := { s.pace with rose := some (s.now, guarWait period s) } }
  else s

/-- GUARBACK (R74). -/
def guarBack (s : State) : State :=
  match s.pace.rose with
  | some (t, l) =>
    if s.rb Reg.PACE_GUAR 8 && decide (t + l ≤ s.now) then
      raise 3 13 { s with pace := { s.pace with rose := none, lapsed := false } }
    else s
  | none => s

end Sys2Proof.Machine
end

