-- ==== Sys2Proof/Machine/TimeOps.lean ====
section
/-! DEFINITION. Press time and the servo (R282 to R286). -/
namespace Sys2Proof.Machine

/-- TIME_WRAP: wraps of TIME_NS modulo 2³² (R283). -/
def timeWrap (s : State) : Nat := s.timeNs64 / 2 ^ 32 % 2 ^ 32

/-- Epoch seconds of the applied epoch. -/
def epochSec (s : State) : Nat := (at' 0 s.time.epoch 1).toNat + 2 ^ 32 * fld (at' 0 s.time.epoch 2) 0 16

/-- SEC_VALID (R283). -/
def secValid (s : State) : Bool := bit (at' 0 s.time.epoch 2) 31

/-- Press time in ns at a value of TIME with its wraps (R283). -/
def pressAt (n : Nat) (s : State) : Nat :=
  epochSec s * 1000000000 + (at' 0 s.time.epoch 0).toNat +
    (n / 2 ^ 32 % 2 ^ 32 + 2 ^ 32 - (at' 0 s.time.epoch 3).toNat) % 2 ^ 32 * 2 ^ 32 + n % 2 ^ 32

/-- Press time in ns (R283). -/
def pressNs (s : State) : Nat := pressAt s.timeNs64 s

/-- The time service rewrites the epoch, which it does at TIMEWRAP (R283; log entry 91): from the present wrap on, in step with the
SEC and NSEC of TIME_SYNC or with PTP. Without either it leaves the epoch as it stands. -/
def epochRewrite (s : State) : State :=
  match s.time.ref with
  | none => s
  | some (n, p) =>
    let w := timeWrap s
    let t := ((p : Int) + ((s.timeNs64 / 2 ^ 32 * 2 ^ 32 : Nat) : Int) - n).toNat
    let ns := W (t % 1000000000)
    let sec := t / 1000000000
    let lo := W (sec % 2 ^ 32)
    let hi := W (sec / 2 ^ 32 % 2 ^ 16 + 2 ^ 31)
    let s := (((s.setReg Reg.TIME_EPOCH_NS ns).setReg Reg.TIME_EPOCH_SEC_LO lo).setReg Reg.TIME_EPOCH_SEC_HI hi).setReg Reg.TIME_EPOCH_WRAP (W w)
    { s with time := { s.time with epoch := [ns, lo, hi, W w] } }

/-- The greatest rate, 200 ppm (R282). -/
def rateMax : Int := 858993

/-- The servo takes an offset (R285). -/
def servo (o : Int) (s : State) : State :=
  let t := s.time
  let dt := match t.ofsAt with
    | some u => clampN 1 0x7FFFFFFF (s.timeNs64 - u)
    | none => 0x7FFFFFFF
  let sat := wrapN 32 (clampI (-2147483648) 2147483647 o)
  let s := (s.setReg Reg.TIME_OFFSET (W sat))
  let s := { s with time := { t with ofsAt := some s.timeNs64 } }
  let s : State :=
    if (s.rf Reg.TIME_JUMP_LIMIT 0 20) < o.natAbs then
      let s := errInc 0x42 0 (raise 0x42 10 s)
      { s with time := { s.time with hold := true, bad := t.bad + 1, good := 0 } }
    else
      let s := if s.rb Reg.TIME_CTRL 2 then
          let kp := s.rf Reg.TIME_SERVO 0 5
          let ki := s.rf Reg.TIME_SERVO 8 5
          let integ := clampI (-rateMax) rateMax (t.integ - divRound (o * (2 ^ (32 - ki) : Nat)) dt)
          let rate := clampI (-rateMax) rateMax (integ - divRound (o * (2 ^ (32 - kp) : Nat)) dt)
          { s with time := { s.time with integ := integ, rate := rate } }
        else s
      if o.natAbs ≤ s.rf Reg.TIME_SERVO 16 16 then
        { s with time := { s.time with hold := false, good := t.good + 1, bad := 0 } }
      else { s with time := { s.time with hold := false, bad := t.bad + 1, good := 0 } }
  let s := if !s.time.locked && decide (8 ≤ s.time.good) then raise 0x42 8 { s with time := { s.time with locked := true } } else s
  if s.time.locked && decide (4 ≤ s.time.bad) then raise 0x42 9 { s with time := { s.time with locked := false } } else s

/-- STEP (R286). -/
def timeStep (s : State) : State :=
  let v := sgn 32 (s.reg Reg.TIME_STEP_VAL).toNat
  let acc := (((s.time.acc : Int) + v * (2 ^ 32 : Nat)) % ((2 ^ 96 : Nat) : Int)).toNat
  let re := fun (x : EncSt) => { x with resync := true, valid := false }
  let s := { s with
    time := { s.time with acc := acc, good := 0, bad := 0, hold := false, wraps := min s.time.wraps (acc / 2 ^ 64) },
    web := { s.web with enc0 := re s.web.enc0, enc1 := re s.web.enc1 } }
  cmdDone 0x42 Reg.TIME_CMD_STATUS s

/-- TIME_STATUS as it stands (R292). -/
def timeStatusWord (s : State) : Word :=
  W (s.time.locked.toNat + 2 * s.time.hold.toNat + 4 * (secValid s).toNat + 65536 * s.time.lastSeq)

/-- Signed difference of two TIME_NS values. -/
def dtime (a b : Nat) : Int := sgn 32 ((a + 2 ^ 32 - b % 2 ^ 32) % 2 ^ 32)

end Sys2Proof.Machine
end

