-- ==== Sys2Proof/Machine/ChainOps.lean ====
section
/-! DEFINITION. Chain: frames, ports, forwarding, the launch queues and the time exchange (R268 to R289). -/
namespace Sys2Proof.Machine

/-- NODE_ID. -/
def nodeId (s : State) : Nat := s.rf Reg.CHAIN_CTRL 0 6

/-- The payload of a frame as it leaves now (R275, R277, R283, R284). -/
def txPayload (b : TxBody) (s : State) : List Byte :=
  match b with
  | .bytes p => p
  | .raw p => p
  | .sync seq => beBytes 1 1 ++ beBytes 1 ((secValid s).toNat + 2 * s.time.locked.toNat) ++ beBytes 2 seq ++ beBytes 4 s.timeNs ++
      beBytes 6 (pressNs s / 1000000000) ++ beBytes 4 (pressNs s % 1000000000) ++ beBytes 2 0
  | .dlyreq seq => beBytes 1 1 ++ beBytes 1 0 ++ beBytes 2 seq ++ beBytes 4 s.timeNs
  | .dlyrsp seq t4 => beBytes 1 1 ++ beBytes 1 0 ++ beBytes 2 seq ++ beBytes 4 t4
  | .keep =>
    let c := currentPage s
    beBytes 1 1 ++ beBytes 1 ((decide (s.fire.st = 2)).toNat + 2 * s.time.locked.toNat) ++ beBytes 2 (storeFree s) ++
      beBytes 2 c.2.1 ++ beBytes 2 0 ++ beBytes 4 c.2.2.1 ++ beBytes 4 c.2.2.2 ++ beBytes 4 s.timeNs
  | .event page => beBytes 1 page ++ beBytes 3 0 ++ beBytes 4 (s.reg (Reg.evtStatus page)).toNat ++ beBytes 4 s.timeNs

/-- A Chain frame without its K symbols: header, payload, CRC-32 (R270). -/
def chainFrame (f : TxFrame) (s : State) : List Byte :=
  let p := txPayload f.body s
  match f.body with
  | .raw b => frame b
  | _ => frame (beBytes 1 f.ty ++ beBytes 1 f.dst ++ beBytes 1 f.src ++ beBytes 1 f.hops ++ beBytes 2 p.length ++ beBytes 2 f.seq ++ p)

/-- G of a Chain port in ns, rounded up: 2,062 symbol times over its lanes (R288). -/
def chainG (port : Nat) (s : State) : Nat :=
  let ls := portLanes port s
  let sym := match ls with | l :: _ => symbolPs ((laneRate l s).getD 7) | [] => 0
  (2062 * sym + 1000 * max 1 ls.length - 1) / (1000 * max 1 ls.length)

/-- The ports of CHAIN_BCAST: code 0 is no port, and its bit forwards nothing (R268, R290). -/
def bcastPorts (s : State) : List Nat := (List.range 64).filter fun v => v != 0 && s.rb (Reg.CHAIN_BCAST (v / 32)) (v % 32)

/-- The ports a frame to `dst` goes to (R273). -/
def dstPorts (dst : Nat) (s : State) : List Nat :=
  if dst = 0xFF then bcastPorts s else if dst < 64 then [s.rf (Reg.CHAIN_ROUTE dst) 0 7] else []

/-- The ports of a launch frame, from the DST of what has been read from DRAM (R273). -/
def launchPorts (e : LqEntry) (s : State) : List Nat :=
  match e.bytes with
  | some b => dstPorts (beAt b 1 1) s
  | none => []

/-- The head entry of a launch queue stands within `g` ns of its launch instant: no other frame starts (R288). -/
def launchNear (q : LqSt) (g : Nat) (s : State) : Bool :=
  match q.q with
  | e :: _ => e.atTime && e.armed && (let d := (e.time + 2 ^ 32 - s.timeNs) % 2 ^ 32; decide (2 ^ 31 ≤ d) || decide (d ≤ g))
  | [] => false

/-- From LQ_TIME − G a port starts no frame but the one at the head of the launch queue (R288). -/
def launchHold (port : Nat) (s : State) : Bool :=
  launchNear s.chain.lq (chainG port s) s && (s.chain.lq.q.head?.any fun e => (launchPorts e s).contains port)

/-- The first frame of a launch leaves: it posts the stamp of the entry, and the others of the same launch post none (R288). -/
def launchStamp (f : TxFrame) (s : State) : State :=
  match f.stamp with
  | some (_, tag, late) => { s with chain := { s.chain with
      lq := lqPost ⟨tag, late, false, s.timeNs⟩ s.chain.lq
      queue := s.chain.queue.map fun g => if g.stamp = f.stamp then { g with stamp := none } else g } }
  | none => s

/-- The stream on each lane of a port between K27.7 and K29.7: byte i goes on lane i mod n, and the lanes without a byte in the last
column carry D0.0 (R271). -/
def stripe (n : Nat) (b : List Byte) : List (List Byte) :=
  (List.range n).map fun i => (List.range ((b.length + n - 1) / n)).map fun j => at' 0 b (j * n + i)

/-- A port that is free starts its next frame: highest level, oldest first (R274). -/
def chainStart (port : Nat) (s : State) : State :=
  if port ∈ s.chain.busy ∨ ¬ port ∈ s.chain.up ∨ s.quiescing 0x40 ∨ !portReady port s then s
  else
    let mine := s.chain.queue.filter fun f => f.port == port && (f.level == 1 || !launchHold port s)
    let level := mine.foldl (fun m f => min m f.level) 9
    match mine.find? fun f => f.level == level with
    | none => s
    | some f =>
      let bytes := chainFrame f s
      let q := s.chain.queue.erase f
      let s := { s with chain := { s.chain with queue := q, busy := port :: s.chain.busy } }
      let s := launchStamp f s
      let s := match f.body, s.time.exch with
        | .dlyreq seq, some e => if e.seq = seq then { s with time := { s.time with exch := some { e with t3 := s.timeNs } } } else s
        | _, _ => s
      let s := if f.fwd then stat 0x40 Reg.CHAIN_FWD_FRAMES 1 s else s
      stat 0x40 Reg.CHAIN_TX_FRAMES 1 (emit (.chain port (stripe (portLanes port s).length bytes)) s)

/-- Queue a frame on a port, and start it where the port is free (R269, R274). -/
def chainQueue (f : TxFrame) (s : State) : State :=
  if f.port ∈ s.chain.up then chainStart f.port { s with chain := { s.chain with queue := s.chain.queue ++ [f] } }
  else errInc 0x40 2 s

/-- CHAIN may start frames. -/
def chainOn (s : State) : Bool := s.enabled 0x40 && !s.quiescing 0x40

/-- Originate a frame on given ports; while CHAIN is quiesced it waits there (R442). -/
def chainOn' (ports : List Nat) (ty dst level : Nat) (body : TxBody) (s : State) : State :=
  if !s.enabled 0x40 then s
  else
    let seq := s.chain.seq
    let s := { s with chain := { s.chain with seq := (seq + 1) % 65536 } }
    each ports (fun port s =>
      if port = 0 then errInc 0x40 2 s
      else chainQueue ⟨port, level, false, ty, dst, nodeId s, s.rf Reg.CHAIN_CTRL 8 4, seq, body, none⟩ s) s

/-- Originate a frame to a node, or to every broadcast port (R273). -/
def chainSend (ty dst level : Nat) (body : TxBody) (s : State) : State :=
  chainOn' (dstPorts dst s) ty dst level body s

/-- The level at which a frame of a TYPE waits (R274). -/
def frameLevel (ty : Nat) : Nat :=
  if ty = 0x20 ∨ ty = 0x21 ∨ ty = 0x22 then 2
  else if ty = 0x40 ∨ ty = 0x30 then 3
  else if ty = 0x60 ∨ ty = 0x50 ∨ ty = 0x12 then 4
  else 5

/-- Forward a frame that passed its checks (R273). -/
def chainForward (ports : List Nat) (fr : List Byte) (s : State) : State :=
  each ports (fun port s =>
    if port = 0 then errInc 0x40 2 s
    else if 4 ≤ (s.chain.queue.filter fun f => f.port == port && f.fwd).length then errInc 0x40 2 s
    else
      let hops := beAt fr 3 1 % 16 - 1
      chainQueue ⟨port, frameLevel (beAt fr 0 1), true, beAt fr 0 1, beAt fr 1 1, beAt fr 2 1, hops, beAt fr 6 2,
        .bytes ((fr.drop 8).take (beAt fr 4 2)), none⟩ s) s

/-- The range of LEN of a type (R275): none for a reserved type. -/
def lenOk (ty len : Nat) (payload : List Byte) : Option Bool :=
  if ty = 0x01 then some (decide (13 ≤ len))
  else if ty = 0x02 then
    let c := beAt payload 0 1
    some (decide (1 ≤ c) && decide (c ≤ 63) && len == 4 + 32 * c)
  else if ty = 0x10 then some (len == 8)
  else if ty = 0x11 then some (decide (12 ≤ len) && decide (len ≤ 264))
  else if ty = 0x12 then some (decide (8 ≤ len) && decide (len ≤ 264))
  else if ty = 0x20 then some (len == 20)
  else if ty = 0x21 ∨ ty = 0x22 then some (len == 8)
  else if ty = 0x30 then some (len == 18)
  else if ty = 0x40 then some (decide (48 ≤ len) && (len - 48) % 16 == 0)
  else if ty = 0x50 then some (len == 12)
  else if ty = 0x60 then some (len == 20)
  else none

/-- A TIME frame type. -/
def isTime (ty : Nat) : Bool := ty == 0x20 || ty == 0x21 || ty == 0x22

/-- The frame that the lanes of a port have received, realigned on their K27.7 symbols; none where a K27.7 is missing or comes more than
64 symbol times after the first, or where the K29.7 symbols stand in different columns (R271). What a lane carries in the last column
beside the frame's bytes is not looked at (log entry 92). -/
def realign (n : Nat) (ls : List LaneStream) : Option (List Byte) :=
  match ls with
  | [] => none
  | l :: t =>
    if ls.length = n ∧ (ls.all fun x => decide (x.skew ≤ 64)) ∧ (t.all fun x => x.body.length == l.body.length) then
      let b := (List.range l.body.length).flatMap fun j => ls.map fun x => at' 0 x.body j
      let m := 12 + beAt b 4 2
      some (if (m + n - 1) / n = l.body.length then b.take m else b)
    else none

/-- The checks of a received frame (R272): `inl` is the error counter that counts its drop, `inr` the ports it is forwarded to. -/
def chainCheck (port : Nat) (fr : List Byte) (symOk : Bool) (s : State) : Nat ⊕ List Nat :=
  let len := beAt fr 4 2
  if !symOk || fr.length < 12 || fr.length != 12 + len || crc32 (fr.take (8 + len)) != beAt fr (8 + len) 4 then
    -- a LEN above 2,048 with a correct CRC-32 is a header error
    .inl 0
  else
    let ty := beAt fr 0 1
    let dst := beAt fr 1 1
    let src := beAt fr 2 1
    let fwd :=
      if isTime ty || dst == nodeId s then []
      else if dst == 0xFF then (bcastPorts s).filter (· != port)
      else [s.rf (Reg.CHAIN_ROUTE dst) 0 7]
    if 2048 < len || !((lenOk ty len (fr.drop 8)).getD false) || (64 ≤ dst && dst != 0xFF) || 64 ≤ src || src == nodeId s ||
        (!fwd.isEmpty && beAt fr 3 1 % 16 == 0) then .inl 1
    else .inr fwd

/-- A TIME_SYNC on a port (R284). -/
def timeSyncIn (port : Nat) (p : List Byte) (age : Nat) (s : State) : State :=
  if !s.enabled 0x42 then s
  else if beAt p 0 1 ≠ 1 then errInc 0x42 2 s
  else if s.rf Reg.TIME_CTRL 0 2 ≠ 1 ∨ s.rf Reg.TIME_CTRL 8 7 ≠ port then s
  else
    let s := if s.time.exch.isSome then errInc 0x42 1 s else s
    let t2 := (s.timeNs + 2 ^ 32 - age % 2 ^ 32) % 2 ^ 32
    let seq := beAt p 2 2
    let s := { s with time := { s.time with exch := some ⟨seq, beAt p 4 4, t2, t2,
      if beAt p 1 1 % 2 = 1 then some (beAt p 8 6 * 1000000000 + beAt p 14 4) else none⟩ } }
    chainOn' [port] 0x21 0xFF 2 (.dlyreq seq) s

/-- A TIME_DLYREQ on a port (R284). -/
def timeDlyReqIn (port : Nat) (p : List Byte) (age : Nat) (s : State) : State :=
  if !s.enabled 0x42 then s
  else if beAt p 0 1 ≠ 1 then errInc 0x42 2 s
  else chainOn' [port] 0x22 0xFF 2 (.dlyrsp (beAt p 2 2) ((s.timeNs + 2 ^ 32 - age % 2 ^ 32) % 2 ^ 32)) s

/-- A TIME_DLYRSP on a port (R284). -/
def timeDlyRspIn (port : Nat) (p : List Byte) (s : State) : State :=
  if !s.enabled 0x42 then s
  else if beAt p 0 1 ≠ 1 then errInc 0x42 2 s
  else match s.time.exch with
  | none => s
  | some e =>
    if s.rf Reg.TIME_CTRL 0 2 ≠ 1 ∨ s.rf Reg.TIME_CTRL 8 7 ≠ port ∨ e.seq ≠ beAt p 2 2 then s
    else
      let a := dtime e.t2 e.t1
      let b := dtime (beAt p 4 4) e.t3
      let s := s.setReg Reg.TIME_DELAY (W (wrapN 32 (divRound (a + b) 2)))
      let delay := divRound (a + b) 2
      let sent := ((s.timeNs64 : Int) - dtime s.timeNs e.t2 - delay).toNat
      let s := { s with time := { s.time with
        exch := none, lastSeq := e.seq, ref := match e.press with | some p => some (sent, p) | none => s.time.ref } }
      let s := stat 0x42 Reg.TIME_EXCH 1 s
      servo (divRound (a - b) 2 - sgn 16 (s.rf Reg.TIME_ASYM 0 16)) s

/-- A KEEP from a node (R277). -/
def keepIn (src : Nat) (p : List Byte) (s : State) : State :=
  if beAt p 0 1 ≠ 1 then errInc 0x40 1 s
  else
    let was := src ∈ s.chain.lost
    let s := s.setB (Reg.CHAIN_SEEN (src / 32)) (src % 32) true
    let s := { s with chain := { s.chain with
      seenAt := mset (fun _ => 0) src (s.now + 1) s.chain.seenAt, lost := s.chain.lost.filter (· != src) } }
    if was then raise 0x40 9 s else s

/-! ## Launch queues (R288, R289) -/

/-- The launch queue of a page. -/
def State.lq (s : State) (eth : Bool) : LqSt := if eth then s.eth.lq else s.chain.lq

/-- Replace it. -/
def State.setLq (s : State) (eth : Bool) (q : LqSt) : State :=
  if eth then { s with eth := { s.eth with lq := q } } else { s with chain := { s.chain with lq := q } }

/-- Page of a launch queue. -/
def lqPage (eth : Bool) : Nat := if eth then 0x41 else 0x40

/-- The frame of the head entry is read from DRAM (R289). -/
def lqFetch (eth : Bool) (s : State) : State :=
  match (s.lq eth).q with
  | e :: t => s.setLq eth { s.lq eth with q := { e with bytes := some (s.dramRead (e.addr * 64) e.len) } :: t }
  | [] => s

/-- The entry that comes to the head is judged (R288). -/
def lqArm (time : Nat) (q : LqSt) : LqSt :=
  match q.q with
  | e :: t => { q with q := { e with armed := e.armed || decide ((e.time + 2 ^ 32 - time) % 2 ^ 32 < 2 ^ 31) } :: t }
  | [] => q

/-- LQ_PUSH (R289). -/
def lqPush (eth : Bool) (s : State) : State :=
  let p := lqPage eth
  let q := s.lq eth
  let len := s.rf (Reg.LQ p 1) 0 12
  let ok := if eth then decide (60 ≤ len) && decide (len ≤ 1514) else decide (8 ≤ len) && decide (len ≤ 2056)
  if 8 ≤ q.q.length ∨ !ok then config p s
  else
    let e : LqEntry := ⟨s.rf (Reg.LQ p 0) 0 28, len, s.rf (Reg.LQ p 1) 16 8, s.rb (Reg.LQ p 1) 24, s.rf (Reg.LQ p 2) 0 32, false, none⟩
    let q' := { q with q := q.q ++ [e] }
    s.setLq eth (if q.q.isEmpty then lqArm s.timeNs q' else q')

/-- The head entry leaves the queue; the next is judged. -/
def lqDrop (eth : Bool) (s : State) : State :=
  let q := s.lq eth
  s.setLq eth (lqArm s.timeNs { q with q := q.q.drop 1 })

/-- The head launch entry of CHAIN, read as `raw`, goes (R288). -/
def launchChain (e : LqEntry) (raw : List Byte) (late : Bool) (s : State) : State :=
  let raw := raw.take 2 ++ beBytes 1 (nodeId s) ++ beBytes 1 (s.rf Reg.CHAIN_CTRL 8 4) ++ raw.drop 4
  let ty := beAt raw 0 1
  let dst := beAt raw 1 1
  let up := (dstPorts dst s).filter fun p => p ∈ s.chain.up
  let s := lqDrop false s
  if isTime ty || (lenOk ty 0 []).isNone || up.isEmpty then
    s.setLq false (lqPost ⟨e.tag, late, true, s.timeNs⟩ (s.lq false))
  else
    let level := if e.atTime then 1 else 4
    let q := s.chain.lq
    let s := { s with chain := { s.chain with
      lq := { q with no := q.no + 1 }
      queue := s.chain.queue ++ up.map fun port => ⟨port, level, false, ty, dst, nodeId s, 0, 0, .raw raw, some (q.no, e.tag, late)⟩ } }
    each up chainStart s

/-- The head entry of a launch queue, once its frame has been read, is judged: it goes at once with AT_TIME 0, at its instant, or late;
`go` is how it goes (R288). -/
def launch (eth : Bool) (go : LqEntry → List Byte → Bool → State → State) (s : State) : State :=
  let p := lqPage eth
  if !s.running p then s
  else match (s.lq eth).q with
  | [] => s
  | e :: _ =>
    match e.bytes with
    | none => s
    | some b =>
      if !e.atTime then go e b false s
      else
        let d := (e.time + 2 ^ 32 - s.timeNs) % 2 ^ 32
        if e.armed then (if d = 0 ∨ 2 ^ 31 ≤ d then go e b false s else s)
        else if 2 ^ 31 ≤ d then go e b true (errInc p 3 (raise p (if eth then 10 else 12) s))
        else s

/-- LQ_LEVEL, LQ_STAMP and LQ_STAMP_T (R289). -/
def lqWord (eth : Bool) (k : Nat) (s : State) : Word :=
  let q := s.lq eth
  match k, q.stamps with
  | 4, _ => W (q.q.length + 256 * q.stamps.length + 32768 * q.lost.toNat)
  | 5, st :: _ => W (st.tag + 256 * st.late.toNat + 512 * st.notSent.toNat + 2147483648)
  | 6, st :: _ => W st.time
  | _, _ => 0

/-- LQ_STAMP_POP (R289). -/
def lqPop (eth : Bool) (s : State) : State :=
  let q := s.lq eth
  s.setLq eth { q with stamps := q.stamps.drop 1, lost := false }

end Sys2Proof.Machine
end

