-- ==== Sys2Proof/Machine/IntakeOps.lean ====
section
/-! DEFINITION. INTAKE and INFL: descriptors, the sequencer, band streams, inflation, due positions and failure records
(R78 to R105, R444, R445). -/
namespace Sys2Proof.Machine

/-! ## Bands of pages -/

/-- A band of which nothing has arrived. -/
def bandNew (no : Nat) : Band := ⟨no, .absent, false, false, [], 0, 0xFFFFFFFF, none, none, none, false⟩

/-- The band of a number in a page's bands. -/
def bandOf (no : Nat) (bs : List Band) : Band := (bs.find? fun b => b.no == no).getD (bandNew no)

/-- Replace a band in a page's bands. -/
def putBand (b : Band) : List Band → List Band
  | [] => [b]
  | c :: t => if c.no = b.no then b :: t else c :: putBand b t

/-- The descriptor and bands of a page in the queue or the sequencer. -/
def findPage (job page : Nat) (s : State) : Option (Desc × List Band) :=
  match s.intake.seq.find? fun p => p.d.job == job && p.d.page == page with
  | some p => some (p.d, p.bands)
  | none => s.intake.queue.find? fun q => q.1.job == job && q.1.page == page

/-- Apply `f` to the bands of a page. -/
def modBands (job page : Nat) (f : List Band → List Band) (s : State) : State :=
  let seq := s.intake.seq.map fun p => if p.d.job == job && p.d.page == page then { p with bands := f p.bands } else p
  let queue := s.intake.queue.map fun q => if q.1.job == job && q.1.page == page then (q.1, f q.2) else q
  { s with intake := { s.intake with seq := seq, queue := queue } }

/-- Store a band of a page. -/
def setBand (job page : Nat) (b : Band) (s : State) : State := modBands job page (putBand b) s

/-- Replace a page of the sequencer. -/
def setPage (p : Page) (s : State) : State :=
  { s with intake := { s.intake with
      seq := s.intake.seq.map fun q => if q.d.job == p.d.job && q.d.page == p.d.page then p else q } }

/-! ## Failure records (R102) -/

/-- Post one record. A first line or a strip that the spec does not state is a free value (log entry 60). -/
def postFail (job page band : Nat) (first : Option Nat) (lines reason : Nat) (blanked : Bool) (strip : Option Nat)
    (s : State) : State :=
  if 64 ≤ s.intake.fails.length then count 0x10 Reg.INTAKE_FAIL_LOST (raise 0x10 10 s)
  else
    let w := s.freeW
    let s := if first.isSome && strip.isSome then s else w.2
    let r : FailRec := ⟨job, page, band, first.getD (w.1.toNat % 2 ^ 24), lines, reason, blanked,
      strip.getD (w.1.toNat / 2 ^ 24 % 16), s.timeNs⟩
    let s := raise 0x10 8 (errInc 0x10 0 { s with intake := { s.intake with fails := s.intake.fails ++ [r] } })
    if blanked then raise 0x10 9 s else s

/-! ## Inflation staging and engines (R93 to R96) -/

/-- The engine works on a strip. -/
def engBusy (e : Engine) : Bool := e.st == 1 || e.st == 2

/-- Bytes written to staging by engine `e` (R105). -/
def inflBytes (e n : Nat) (s : State) : State := stat48 0x11 Reg.INFL_BYTES_LO n (stat 0x11 (Reg.INFL_E_OUT e) n s)

/-- Uncompressed bytes of strip `k` (R85). -/
def stripBytes (h : BandHdr) (k : Nat) : Nat := (min ((k + 1) * h.stripPx) h.width - k * h.stripPx) * h.lines

/-- The strip an engine runs is stopped: it becomes idle, having written a free number of the strip's bytes (R96). -/
def stopEngine (e : Nat) (s : State) : State :=
  let x := tget Reset.engine s.infl.engines e
  if engBusy x then
    let w := s.freeW
    let size := match x.band with
      | some b => match findPage b.1 b.2.1 s with
        | some q => match (bandOf b.2.2 q.2).hdr with
          | some h => stripBytes h x.strip
          | none => 0
        | none => 0
      | none => 0
    let s := inflBytes e (w.1.toNat % (size + 1)) w.2
    { s with infl := { s.infl with engines := tset Reset.engine s.infl.engines e { x with st := 0 } } }
  else s

/-- The staging slot and the engines of a band are freed (R96, R98). -/
def dropBand (job page no : Nat) (s : State) : State :=
  let s := each (List.range 16) (fun e s =>
    if (tget Reset.engine s.infl.engines e).band == some (job, page, no) then stopEngine e s else s) s
  { s with infl := { s.infl with staging := s.infl.staging.map fun o => match o with
      | some g => if g.job = job ∧ g.page = page ∧ g.band = no then none else some g
      | none => none } }

/-- The staging slot of a band. -/
def stagingOf (job page no : Nat) (s : State) : Option Staging :=
  (s.infl.staging.filterMap id).find? fun g => g.job == job && g.page == page && g.band == no

/-- Replace the staging slot of a band. -/
def setStaging (g : Staging) (s : State) : State :=
  { s with infl := { s.infl with staging := s.infl.staging.map fun o => match o with
      | some x => if x.job = g.job ∧ x.page = g.page ∧ x.band = g.band then some g else some x
      | none => none } }

/-- Place of a band in print order (R94). -/
def printOrder (job page no : Nat) (s : State) : Nat :=
  (s.intake.seq.takeWhile fun p => !(p.d.job == job && p.d.page == page)).length * 65536 + no

/-- Staged bands in print order. -/
def stagedInOrder (s : State) : List Staging :=
  match s.infl.staging.filterMap id with
  | [a, b] => if printOrder a.job a.page a.band s ≤ printOrder b.job b.page b.band s then [a, b] else [b, a]
  | l => l

/-- Hand the next strip of a staged band to the lowest idle engine of its mask (R94). -/
def handStrip (g : Staging) (s : State) : Option State :=
  match findPage g.job g.page s with
  | none => none
  | some q =>
    match (bandOf g.band q.2).hdr with
    | none => none
    | some h =>
      if h.strips ≤ g.nextStrip then none
      else
        match (List.range 16).find? fun e => g.mask / 2 ^ e % 2 == 1 && !engBusy (tget Reset.engine s.infl.engines e) with
        | none => none
        | some e =>
          let f := s.freeB
          let s := setStaging { g with nextStrip := g.nextStrip + 1 } f.2
          let x : Engine := ⟨if f.1 then 1 else 2, g.nextStrip, some (g.job, g.page, g.band), s.now⟩
          some { s with infl := { s.infl with engines := tset Reset.engine s.infl.engines e x } }

/-- Hand strips to idle engines, earlier bands first, at most `fuel` of them (R94). -/
def handOut : Nat → State → State
  | 0, s => s
  | f + 1, s =>
    if s.quiescing 0x11 then s
    else
      match (stagedInOrder s).findSome? fun g => handStrip g s with
      | some t => handOut f t
      | none => s

/-- A band becomes absent with a record of BLANKED 0 (R91, R92). The header's lines and first line are known once one has been accepted
for the band, in this stream or an earlier one (R102). -/
def bandFail (d : Desc) (b : Band) (reason : Nat) (strip : Option Nat) (s : State) : State :=
  let s := dropBand d.job d.page b.no s
  let s := setBand d.job d.page
    { b with st := .absent, recorded := true, hdrBytes := [], next := 0, crc := 0xFFFFFFFF, slot := none } s
  match b.hdr with
  | some h => postFail d.job d.page b.no (some h.firstLine) h.lines reason false strip s
  | none => postFail d.job d.page b.no none 0 reason false strip s

/-! ## The band header (R84 to R88) -/

/-- Fields of a band header. -/
def bandHdr (l : List Byte) : BandHdr :=
  let coding := beAt l 3 1
  let px := beAt l 0x14 2
  { lines := beAt l 2 1, stored := coding % 4 == 0, blank := coding / 4 % 2 == 1, firstLine := beAt l 0x0C 4,
    width := beAt l 0x10 4, stripPx := if px = 0 then 65536 else px, strips := beAt l 0x16 1, compLen := beAt l 0x18 4,
    compCrc := beAt l 0x1C 4, uncCrc := beAt l 0x20 4,
    stripLen := (List.range 16).map fun k => beAt l (0x2C + 4 * k) 4 }

/-- The end of band `no`'s extent where R98 or an accepted header gives it. -/
def bandEnd (no : Nat) (bs : List Band) : Option Nat :=
  let b := bandOf no bs
  match b.extent with
  | some x => some (x.1 + x.2)
  | none => b.hdr.map fun h => h.firstLine + h.lines

/-- The checks of a complete header (R84 to R88, R91). -/
def hdrOk (d : Desc) (no : Nat) (bs : List Band) (l : List Byte) : Bool :=
  let h := bandHdr l
  let coding := beAt l 3 1
  let px := beAt l 0x14 2
  let last := coding / 8 % 2 == 1
  let fin := h.firstLine + h.lines
  crc32c (l.take 0x6C) == beAt l 0x6C 4 && beAt l 0 1 == 0xB1 && beAt l 1 1 == 1 &&
  decide (1 ≤ h.lines) && decide (h.lines ≤ 64) && decide (coding % 4 ≤ 1) && coding / 16 == 0 &&
  beAt l 4 2 == d.job && beAt l 6 2 == no && beAt l 8 4 == d.page && h.width == d.width &&
  px % 64 == 0 && decide (1 ≤ h.strips) && decide (h.strips ≤ 16) && beAt l 0x17 1 == d.sep && beAt l 0x24 8 == 0 &&
  ((List.range 16).all fun k => decide (k < h.strips) || at' 0 h.stripLen k == 0) &&
  decide ((h.strips - 1) * h.stripPx < h.width) && decide (h.width ≤ h.strips * h.stripPx) &&
  (if h.blank then h.compLen == 0 && h.compCrc == 0 && h.uncCrc == 0 && h.stripLen.all (· == 0)
   else h.stripLen.foldl (· + ·) 0 == h.compLen && ((List.range h.strips).all fun k =>
     let n := at' 0 h.stripLen k
     if h.stored then n == stripBytes h k else decide (1 ≤ n) && decide (n ≤ stripBytes h k + 1024))) &&
  (if no = 0 then h.firstLine == 0
   else match bandEnd (no - 1) bs with
     | some e => h.firstLine == e
     | none => true) &&
  decide (fin ≤ d.length) &&
  (if last then fin == d.length && no + 1 == d.bands else decide (fin < d.length) && decide (no + 1 < d.bands))

/-! ## Due positions (R98) -/

/-- A page's start position in the present FIRE_PITCH_DEN parts of a count. -/
def startIn (d : Nat) (start pden : Nat) : Nat := if d = pden then start else start * d / max 1 pden

/-- First line and lines of the next band of a page to fall due (R98). -/
def dueExtent (p : Page) : Nat × Nat :=
  let n := p.nextBand
  let first := if n = 0 then 0 else match (bandOf (n - 1) p.bands).extent with
    | some x => x.1 + x.2
    | none => 0
  match (bandOf n p.bands).hdr with
  | some h => (first, h.lines)
  | none =>
    let t := min 64 (p.d.length - first)
    match (bandOf (n + 1) p.bands).hdr with
    | some h => if first + 1 ≤ h.firstLine ∧ h.firstLine ≤ first + 64 then (first, h.firstLine - first) else (first, t)
    | none => (first, t)

/-- The due position of a page's next band moved by `pitches` line pitches, in 1/DEN counts (R98). -/
def duePos (p : Page) (pitches : Int) (s : State) : Option Nat :=
  p.start.map fun x =>
    let e := dueExtent p
    moveD (den s) (startIn (den s) x p.den) (((e.1 : Int) - e.2 + pitches) * num s)

/-- The web has reached the next due position of a page, moved by `pitches`. -/
def dueReached (p : Page) (pitches : Int) (s : State) : Bool :=
  match duePos p pitches s with
  | some x => posValid s && reached (den s) x s
  | none => false

/-- The page has a band still to fall due. -/
def dueLeft (p : Page) : Bool := p.st != .done && decide (p.nextBand < p.d.bands) && decide ((dueExtent p).1 < p.d.length)

/-- The pages of the sequencer before the first that waits for its start: the others wait behind it (R82). -/
def seqKnown (s : State) : List Page := s.intake.seq.takeWhile (·.start.isSome)

/-- The web has reached the due position of the band that falls due next on a page, this one: a segment that arrives at that instant is
too late (R98). -/
def dueNow (job page no : Nat) (s : State) : Bool :=
  (seqKnown s).any fun p => p.d.job == job && p.d.page == page && p.nextBand == no && dueLeft p && dueReached p 0 s

/-! ## Segments (R89 to R91) -/

/-- DRAM address of a store slot (R90). -/
def slotAddr (slot : Nat) (s : State) : Nat := s.rf Reg.INTAKE_STORE_BASE 0 18 * 65536 + slot * 4259840

/-- The lowest free store slot (R90). -/
def freeSlot (s : State) : Option Nat :=
  let held := slotsHeld s
  if slotsFree s = 0 then none else (List.range (s.rf Reg.INTAKE_STORE_SLOTS 0 11)).find? fun k => !(k ∈ held)

/-- Stream bytes of a band in its slot reach the store (R90). -/
def storeWrite (slot at_ : Nat) (l : List Byte) (s : State) : State :=
  if l.isEmpty then s else dramReq 2 true (slotAddr slot s + at_) l.length (s.dramWrite (slotAddr slot s + at_) l)

/-- The stream's bytes after the header: the end of the stream, the store and COMP_CRC (R91). `seg` is the whole segment's data. -/
def streamData (d : Desc) (b : Band) (h : BandHdr) (seg body : List Byte) (s : State) : State :=
  if 112 + h.compLen < b.next + body.length then bandFail d b 2 none s
  else
    let s := stat48 0x10 Reg.INTAKE_BYTES_LO seg.length s
    let s := match b.slot with
      | some k => storeWrite k b.next body s
      | none => s
    let b := { b with next := b.next + body.length, crc := crc32cRun b.crc body }
    if b.next = 112 + h.compLen then
      if h.blank || crc32cEnd b.crc == h.compCrc then setBand d.job d.page { b with st := .stored } s
      else bandFail d b 3 none s
    else setBand d.job d.page b s

/-- A segment continues the stream in progress (R91). A header that finds no store slot counts as not accepted: the record's lines and
later extents do not take it, which R91 does not state and is the model's choice (log entry 98). -/
def streamSeg (d : Desc) (b : Band) (data : List Byte) (s : State) : State :=
  if 112 ≤ b.next then
    match b.hdr with
    | some h => streamData d b h data data s
    | none => s
  else if b.next + data.length < 112 then
    setBand d.job d.page { b with hdrBytes := b.hdrBytes ++ data, next := b.next + data.length }
      (stat48 0x10 Reg.INTAKE_BYTES_LO data.length s)
  else
    let n := 112 - b.next
    let l := b.hdrBytes ++ data.take n
    let bs := match findPage d.job d.page s with
      | some q => q.2
      | none => []
    if !hdrOk d b.no bs l then bandFail d b 1 none s
    else
      let h := bandHdr l
      let slot := if h.blank then none else freeSlot s
      if !h.blank && slot.isNone then bandFail d b 4 none s
      else
        let b := { b with hdrBytes := [], next := 112, hdr := some h, slot := slot }
        let s := setBand d.job d.page b s
        let s := match slot with
          | some k => if b.next + (data.length - n) ≤ 112 + h.compLen then storeWrite k 0 l s else s
          | none => s
        streamData d b h data (data.drop n) s

/-- A segment dropped with no record (R91). -/
def segDup (s : State) : State := count 0x10 Reg.INTAKE_DUP s

/-- INTAKE handles a segment by the first case that applies (R91). -/
def segIn (seg : List Byte) (s : State) : State :=
  let job := beAt seg 0 2
  let no := beAt seg 2 2
  let page := beAt seg 4 4
  let ofs := beAt seg 8 4
  let data := seg.drop 12
  match findPage job page s with
  | none => if ofs = 0 then postFail job page no none 0 12 false none s else segDup s
  | some q =>
    let b := { bandOf no q.2 with begun := true }
    if dueNow job page no s then segDup s
    else match b.st with
    | .mapping | .past | .stored | .inflating | .verified => segDup s
    | .receiving =>
      if ofs = 0 then
        let s := bandFail q.1 b 2 none s
        streamSeg q.1 { b with recorded := false, hdrBytes := [], next := 0, crc := 0xFFFFFFFF, slot := none } data
          (setBand job page { b with recorded := false, hdrBytes := [], next := 0, crc := 0xFFFFFFFF, slot := none } s)
      else if ofs ≠ b.next then bandFail q.1 b 2 none s
      else streamSeg q.1 b data s
    | .absent =>
      if ofs = 0 then
        let b := { b with st := .receiving, recorded := false, hdrBytes := [], next := 0, crc := 0xFFFFFFFF, slot := none }
        streamSeg q.1 b data (setBand job page b s)
      else if b.recorded then segDup (setBand job page b s)
      else bandFail q.1 b 2 none s

/-! ## Descriptors (R78 to R80, R104) -/

/-- Fields of a PAGE descriptor (R79). -/
def descFields (l : List Byte) : Desc :=
  ⟨beAt l 1 1, beAt l 2 2, beAt l 4 4, beAt l 8 4, beAt l 12 4, beAt l 16 2, beAt l 18 1, beAt l 20 4, sgn 32 (beAt l 24 4)⟩

/-- Codes and ranges of a PAGE descriptor (R79). -/
def descOk (l : List Byte) : Bool :=
  let d := descFields l
  decide (d.mode ≤ 2) && decide (1 ≤ d.length) && decide (d.length < 2 ^ 24) && decide (1 ≤ d.bands) && beAt l 19 1 == 0 &&
  decide (1 ≤ d.width) && decide (d.width ≤ 65536) && (d.mode == 2 || beAt l 24 4 == 0)

/-- The bytes of a CANCEL_JOB or END_JOB descriptor that must be 0 (R79). -/
def descPad (l : List Byte) : Bool := beAt l 1 1 == 0 && beAt l 4 24 == 0

/-- A descriptor is refused (R80). -/
def descRefuse (ev : Nat) (s : State) : State := errInc 0x10 3 (raise 0x10 ev s)

/-- Remove pages: their bands leave staging and the engines, and their store slots are free (R104). -/
def removePages (queued armed : Desc → Bool) (s : State) : State :=
  let goneQ := s.intake.queue.filter fun q => queued q.1
  let goneS := s.intake.seq.filter fun p => p.st == .armed && armed p.d
  let bands := (goneQ.flatMap fun q => q.2.map fun b => (q.1.job, q.1.page, b.no)) ++
    (goneS.flatMap fun p => p.bands.map fun b => (p.d.job, p.d.page, b.no))
  let s := each bands (fun b s => if (stagingOf b.1 b.2.1 b.2.2 s).isSome then dropBand b.1 b.2.1 b.2.2 s else s) s
  handOut 32 { s with intake := { s.intake with
    queue := s.intake.queue.filter fun q => !queued q.1,
    seq := s.intake.seq.filter fun p => !(p.st == .armed && armed p.d) } }

/-- Descriptors and armed pages that a removal takes. -/
def removeCount (queued armed : Desc → Bool) (s : State) : Nat :=
  (s.intake.queue.filter fun q => queued q.1).length + (s.intake.seq.filter fun p => p.st == .armed && armed p.d).length

/-- CANCEL_JOB (R104). -/
def cancelJob (job : Nat) (s : State) : State := removePages (fun d => d.job == job) (fun d => d.job == job) s

/-- One descriptor is judged (R80). -/
def descIn (l : List Byte) (s : State) : State :=
  let ty := beAt l 0 1
  let d := descFields l
  let inQ := s.intake.queue.any fun q => q.1.job == d.job && q.1.page == d.page
  let inS := s.intake.seq.any fun p => p.d.job == d.job && p.d.page == d.page
  let earlier := (s.intake.queue.any fun q => q.1.job == d.job) || (s.intake.seq.any fun p => p.d.job == d.job)
  if crc32c (l.take 28) ≠ beAt l 28 4 then descRefuse 12 s
  else if ty = 2 then (if descPad l then cancelJob d.job s else descRefuse 12 s)
  else if ty = 3 then
    (if descPad l then { s with intake := { s.intake with ended := d.job :: s.intake.ended.filter (· != d.job) } }
     else descRefuse 12 s)
  else if ty ≠ 1 ∨ !descOk l then descRefuse 12 s
  else if inQ || inS then descRefuse 12 s
  else if d.mode = 0 && !earlier then descRefuse 12 s
  else if 256 ≤ s.intake.queue.length then descRefuse 11 s
  else { s with intake := { s.intake with queue := s.intake.queue ++ [(d, [])] } }

/-- The descriptors of a JOB payload in order (R275): COUNT, three reserved bytes, COUNT descriptors. -/
def jobIn (p : List Byte) (s : State) : State :=
  each (List.range (beAt p 0 1)) (fun i s => descIn ((p.drop (4 + 32 * i)).take 32) s) s

/-- A JOB payload (true) or BAND segment (false) is taken, or held while INTAKE is quiesced (R442). -/
def intakeTake (job : Bool) (l : List Byte) (s : State) : State :=
  if !s.enabled 0x10 then s
  else if s.quiescing 0x10 then { s with intake := { s.intake with hold := s.intake.hold ++ [(job, l)] } }
  else if job then jobIn l s else segIn l s

/-- What was held while INTAKE was quiesced is taken in arrival order (R442). -/
def intakeResume (s : State) : State :=
  each s.intake.hold (fun x s => intakeTake x.1 x.2 s) { s with intake := { s.intake with hold := [] } }

/-- The bytes of INTAKE_DESC(0) to (7) (R103). -/
def descWords (s : State) : List Byte := (List.range 8).flatMap fun w => beBytes 4 (s.reg (Reg.INTAKE_DESC w)).toNat

/-- A command of INTAKE that removes pages (R104). -/
def intakeRemove (queued armed : Desc → Bool) (s : State) : State :=
  cmdGate 0x10 Reg.INTAKE_CMD_STATUS (fun s =>
    cmdEnd 0x10 Reg.INTAKE_CMD_STATUS 2 0 (removeCount queued armed s) (removePages queued armed s)) s

/-! ## Arming and start positions (R81, R82) -/

/-- The start position of the last page armed for a job is kept for the job's next FOLLOW page (R81). -/
def keepStart (job : Nat) (s : State) : State :=
  match (s.intake.seq.filter fun p => p.d.job == job).getLast? with
  | some p => match p.start with
    | some x => { s with intake := { s.intake with
        last := ⟨job, x, p.den, p.d.length⟩ :: s.intake.last.filter fun y => y.job != job } }
    | none => s
  | none => s

/-- START of a FOLLOW page behind a page of `len` lines that starts at `start` (R81). -/
def startAfter (start pden len : Nat) (d : Desc) (s : State) : Nat :=
  moveD (den s) (startIn (den s) start pden) (((len + d.startPos) * num s : Nat) : Int)

/-- The start position of a page as it is armed behind the pages `ahead` (R81): none where it waits for a cue. -/
def startOf (d : Desc) (ahead : List Page) (s : State) : Option Nat :=
  if d.mode = 1 then some (d.startPos * den s)
  else if d.mode = 0 then
    match (ahead.filter fun p => p.d.job == d.job).getLast? with
    | some p => p.start.map fun x => startAfter x p.den p.d.length d s
    | none => (s.intake.last.find? fun x => x.job == d.job).map fun x => startAfter x.start x.den x.length d s
  else none

/-- Every FOLLOW page whose previous page's start is now known gets its own (R81). -/
def followStarts (s : State) : State :=
  { s with intake := { s.intake with seq := s.intake.seq.foldl (fun l p => l ++ [
      if p.start.isNone && p.d.mode == 0 then { p with start := startOf p.d l s, den := den s } else p]) [] } }

/-- The job service sees to the load of a page it is about to arm (R69): a heavier PACE_LOAD is written ahead and its ramp waited for, a
lighter one is written where no page ahead still prints. -/
def jobLoad (d : Desc) (s : State) : State :=
  let want := pageLoad d.width s
  let s := if loadEntry (s.reg Reg.PACE_LOAD) s < loadEntry want s then
      { s.setReg Reg.PACE_LOAD want with intake := { s.intake with loadWait := true } }
    else if !s.intake.loadWait && s.intake.seq.all (·.st == .done) then s.setReg Reg.PACE_LOAD want
    else s
  { s with intake := { s.intake with loadWait := s.intake.loadWait && !loadReady s } }

/-- After the last line of a job the job service writes the load of the pages that follow it, where it is lighter (R69). -/
def loadLighter (job : Nat) (s : State) : State :=
  let live := s.intake.seq.filter fun p => p.st != .done
  let more := (live.any fun p => p.d.job == job) || (s.intake.queue.any fun q => q.1.job == job)
  match live with
  | p :: t =>
    let top := t.foldl (fun w q => if loadEntry w s < loadEntry (pageLoad q.d.width s) s then pageLoad q.d.width s else w) (pageLoad p.d.width s)
    if !more && svcRuns 0 s && !s.intake.loadWait && decide (loadEntry top s < loadEntry (s.reg Reg.PACE_LOAD) s)
      then s.setReg Reg.PACE_LOAD top else s
  | [] => s

/-- The first queued page takes a free sequencer slot (R69, R81, Page states): the job service arms it, and arms none while it is stopped. -/
def pageArm (s : State) : State :=
  match s.intake.queue with
  | [] => s
  | (d, bs) :: q =>
    if !s.running 0x10 || !svcRuns 0 s || decide (4 ≤ s.intake.seq.length) then s
    else
      let s := jobLoad d s
      if s.intake.loadWait then s
      else
        let p : Page := ⟨d, .armed, startOf d s.intake.seq s, den s, false, false, 0, 0, none, bs⟩
        keepStart d.job { s with intake := { s.intake with queue := q, seq := s.intake.seq ++ [p] } }

/-- A cue edge fixes the start of the first armed AT_CUE page that waits for one and has reached START_POS (R81, R82), and with it those of
the FOLLOW pages behind it. -/
def cueFix (pos : Nat) (s : State) : State :=
  match s.intake.seq.find? fun p => p.start.isNone && p.d.mode == 2 with
  | none => s
  | some p =>
    if !s.enabled 0x10 || dpos pos p.d.startPos < 0 then s
    else
      let x := wrapN 32 ((pos : Int) + p.d.cueOfs) * den s
      keepStart p.d.job (followStarts (setPage { p with start := some x, den := den s } s))

/-! ## Dispatch and strips (R94 to R96) -/

/-- Bands of an armed page become eligible (Page states). -/
def pageEligible (s : State) : State :=
  match (seqKnown s).find? fun p => p.st == .armed && !p.eligible && dueReached p (-64) s with
  | some p => if s.enabled 0x10 then setPage { p with eligible := true } s else s
  | none => s

/-- The first band of a page, from `no` on, that is neither dispatched nor BLANK. -/
def nextToInflate (p : Page) : Nat → Nat → Option Band
  | 0, _ => none
  | f + 1, no =>
    if p.d.bands ≤ no then none
    else
      let b := bandOf no p.bands
      let blank := match b.hdr with
        | some h => h.blank
        | none => false
      match b.st with
      | .inflating | .verified | .mapping | .past => nextToInflate p f (no + 1)
      | .stored => if blank then nextToInflate p f (no + 1) else some b
      | _ => some b

/-- The next band in print order (R94): none where a band that is not complete, or a page that is not yet eligible, holds it
back. -/
def dispatchBand : List Page → Option (Desc × Band)
  | [] => none
  | p :: t =>
    if p.sepBad || p.st == .done then dispatchBand t
    else
      match nextToInflate p (p.bands.length + 1) p.nextBand with
      | none => dispatchBand t
      | some b => if b.st = .stored ∧ (p.eligible || p.st == .printing) then some (p.d, b) else none

/-- The dispatcher starts the next band (R94). -/
def bandDispatch (s : State) : State :=
  let mask := (s.inForce Reg.INFL_ENGINE_MASK).toNat
  let s := if s.released 0x11 then handOut 32 s else s
  let idle := (List.range 16).any fun e => mask / 2 ^ e % 2 == 1 && !engBusy (tget Reset.engine s.infl.engines e)
  match dispatchBand s.intake.seq, s.infl.staging.findIdx? (·.isNone) with
  | some (d, b), some i =>
    if s.running 0x11 && idle then
      let g : Staging := ⟨d.job, d.page, b.no, s.now, mask, 0, [], [], []⟩
      let s := { s with infl := { s.infl with staging := setAt s.infl.staging i (some g) } }
      handOut 32 (setBand d.job d.page { b with st := .inflating } s)
    else s
  | _, _ => s

/-- DRAM address and length of the strip an engine runs. -/
def stripPlace (b : Band) (h : BandHdr) (k : Nat) (s : State) : Nat × Nat :=
  (slotAddr (b.slot.getD 0) s + 112 + ((h.stripLen.take k).foldl (· + ·) 0), at' 0 h.stripLen k)

/-- What an engine finds in a strip (R95): 0 and the output, 6 for ECC or 7 for INFLATE and the output so far. -/
def stripRun (b : Band) (h : BandHdr) (k : Nat) (s : State) : Nat × List Byte × List Byte :=
  let a := stripPlace b h k s
  let unc := stripBytes h k
  let good := (List.range a.2).takeWhile fun i => !s.dramBad (a.1 + i) 1
  let raw := s.dramRead a.1 good.length
  let short := decide (good.length < a.2)
  if h.stored then (if short then (6, raw, raw) else (0, raw, raw))
  else
    let r := inflateRaw unc raw
    if r.1 = 2 ∧ short then (6, r.2.2, raw)
    else if r.1 = 0 ∧ r.2.2.length = unc ∧ r.2.1.length < 8 ∧ !short then (0, r.2.2, raw)
    else (7, r.2.2.take unc, raw)

/-- The band an engine works on. -/
def engBand (e : Nat) (s : State) : Option (Desc × Band × BandHdr × Staging) :=
  let x := tget Reset.engine s.infl.engines e
  match engBusy x, x.band with
  | true, some i =>
    match findPage i.1 i.2.1 s, stagingOf i.1 i.2.1 i.2.2 s with
    | some q, some g => (bandOf i.2.2 q.2).hdr.map fun h => (q.1, bandOf i.2.2 q.2, h, g)
    | _, _ => none
  | _, _ => none

/-- Line `i` of a band from its strips' outputs (R85). -/
def bandLine (h : BandHdr) (outs : List (Nat × List Byte × List Byte)) (i : Nat) : List Byte :=
  (List.range h.strips).flatMap fun k =>
    let n := stripBytes h k / max 1 h.lines
    match outs.find? fun o => o.1 == k with
    | some o => (o.2.1.drop (i * n)).take n
    | none => []

/-- Slack of pipeline 0: the band is ready in staging one whole band ahead of its first fire (R65, R98). -/
def bandSlack (d : Desc) (h : BandHdr) (s : State) : State :=
  match (s.intake.seq.find? fun p => p.d.job == d.job && p.d.page == d.page).bind fun p => p.start.map (startIn (den s) · p.den) with
  | some x => slackNote 0 (moveD (den s) x (((h.firstLine : Int) - h.lines) * num s)) s
  | none => s

/-- The collector of a band whose strips have all finished (R96). -/
def collect (d : Desc) (b : Band) (h : BandHdr) (g : Staging) (s : State) : State :=
  let raws := (List.range h.strips).flatMap fun k => match g.outs.find? fun o => o.1 == k with
    | some o => o.2.2
    | none => []
  let lines := (List.range h.lines).map (bandLine h g.outs)
  if crc32c raws ≠ h.compCrc then bandFail d b 5 none (errInc 0x11 2 (raise 0x11 9 s))
  else if crc32c (lines.flatMap id) ≠ h.uncCrc then bandFail d b 8 none (errInc 0x11 3 (raise 0x11 9 s))
  else
    let us := min 0xFFFF ((s.now - g.since) / 1000)
    let s := if s.rf Reg.INFL_BAND_TIME_MAX 0 16 < us then s.setReg Reg.INFL_BAND_TIME_MAX (W us) else s
    let s := bandSlack d h s
    setBand d.job d.page { b with st := .verified, slot := none } (setStaging { g with lines := lines, crcs := lines.map crc32c } s)

/-- Output rate of a strip in MB/s, free where no time has passed (R105, log entry 61). -/
def stripRate (n ns : Nat) (s : State) : Word × State :=
  if ns = 0 then (let w := s.freeW; (W (w.1.toNat % 65536), w.2)) else (W (min 0xFFFF (n * 1000 / ns)), s)

/-- The engines of a list in ascending number (R48). -/
def ascending (es : List (Fin 16)) : List Nat := (List.range 16).filter fun e => es.any (·.val == e)

/-- An engine finishes its strip and posts it (R95, R96). -/
def stripPost (e : Nat) (s : State) : State :=
  match engBand e s with
  | none => s
  | some (_, b, h, g) =>
    let x := tget Reset.engine s.infl.engines e
    let r := stripRun b h x.strip s
    if r.1 ≠ 0 then s
    else
      let a := stripPlace b h x.strip s
      let s := inflBytes e r.2.1.length (dramReq 3 false a.1 a.2 s)
      let q := stripRate r.2.1.length (s.now - x.since) s
      let s := q.2.setReg (Reg.INFL_E_RATE e) q.1
      setStaging { g with outs := g.outs ++ [(x.strip, r.2.1, r.2.2)] }
        { s with infl := { s.infl with engines := tset Reset.engine s.infl.engines e { x with st := 3 } } }

/-- Bands in inflation whose strips have all finished are collected (R96). -/
def collectDone (s : State) : State :=
  each (stagedInOrder s) (fun g s =>
    match findPage g.job g.page s with
    | some q =>
      let b := bandOf g.band q.2
      match b.hdr with
      | some h => if b.st = .inflating ∧ g.outs.length = h.strips then collect q.1 b h g s else s
      | none => s
    | none => s) s

/-- Engines finish their strips at one instant (R48, R95, R96). -/
def stripDone (es : List (Fin 16)) (s : State) : State :=
  if !dramReady s ∨ !s.released 0x11 then s
  else handOut 32 (collectDone (each (ascending es) (fun e s => stripPost e s) s))

/-- A strip an engine runs fails: its band, the reason and the strip (R95). -/
def stripBad (e : Nat) (s : State) : Option ((Nat × Nat × Nat) × Nat × Nat) :=
  match engBand e s with
  | none => none
  | some (d, b, h, _) =>
    let x := tget Reset.engine s.infl.engines e
    let r := stripRun b h x.strip s
    if r.1 = 0 then none else some ((d.job, d.page, b.no), r.1, x.strip)

/-- An engine's failed strip is counted (R95, R105). -/
def stripCount (e : Nat) (s : State) : State :=
  match engBand e s with
  | none => s
  | some (_, b, h, _) =>
    let x := tget Reset.engine s.infl.engines e
    let r := stripRun b h x.strip s
    let a := stripPlace b h x.strip s
    let s := inflBytes e r.2.1.length (dramReq 3 false a.1 r.2.2.length s)
    let s := count 0x11 (Reg.INFL_E_ERR e) (raise 0x11 8 s)
    let s := errInc 0x11 (if r.1 = 7 then 0 else 1) s
    { s with infl := { s.infl with engines := tset Reset.engine s.infl.engines e { x with st := 4 } } }

/-- Strips fail at one instant: each counts, and a band fails for the reason of its lowest-numbered engine (R48, R95, R96). -/
def stripFail (es : List (Fin 16)) (s : State) : State :=
  if !dramReady s ∨ !s.released 0x11 then s
  else
    let bad := (ascending es).filter fun e => (stripBad e s).isSome
    let fails := (bad.filterMap fun e => stripBad e s).foldl (fun l x => if l.any fun y => y.1 == x.1 then l else l ++ [x])
      ([] : List ((Nat × Nat × Nat) × Nat × Nat))
    let s := each bad (fun e s => stripCount e s) s
    handOut 32 (each fails (fun x s => match findPage x.1.1 x.1.2.1 s with
      | some q => bandFail q.1 (bandOf x.1.2.2 q.2) x.2.1 (some x.2.2) s
      | none => s) s)

/-- INFL_E_STATE as it stands (R105). -/
def engWord (e : Nat) (s : State) : Word :=
  let x := tget Reset.engine s.infl.engines e
  match x.band with
  | some b => W (x.st + 256 * x.strip + 65536 * b.2.2)
  | none => W x.st

/-- INFL_ACTIVE as it stands (R105). -/
def inflActive (s : State) : Nat := ofBits ((List.range 16).map fun e => engBusy (tget Reset.engine s.infl.engines e))

end Sys2Proof.Machine
end

