-- ==== Sys2Proof/Machine/MapOps.lean ====
section
/-! DEFINITION. MAP and SCREEN: the nozzle map, screening, banks, trims, the page boundary and the lines handed to DELAY
(R83, R98, R101, R106 to R129, R445, R446). -/
namespace Sys2Proof.Machine

/-! ## The live set -/

/-- MAP_NOZZLES. -/
def nozzles (s : State) : Nat := s.rf Reg.MAP_NOZZLES 0 18

/-- Working rods (R106). -/
def workRods (s : State) : Nat := (nozzles s + 2047) / 2048

/-- The live map bank. -/
def liveBank (s : State) : Nat := s.rf Reg.MAP_BANK 0 1

/-- INACT_VALID (R117). -/
def inactValid (s : State) : Bool := s.rb Reg.MAP_BANK 1

/-- Set INACT_VALID. -/
def setValid (v : Bool) (s : State) : State := s.setB Reg.MAP_BANK 1 v

/-- Words of the entries of nozzles 0 to MAP_NOZZLES − 1 of a bank that differ from 0. -/
def bankWords (bank : Nat) (s : State) : List (Nat × Word) :=
  mrange (Reg.MAP_ENTRY bank 0 0) (Reg.MAP_ENTRY bank (nozzles s) 0) s.words

/-- Word `w` of nozzle `n` (R109). -/
def entryWord (ws : List (Nat × Word)) (bank n w : Nat) : Word := mget resetWord ws (Reg.MAP_ENTRY bank n w)

/-- The recorded window base of a rod in a bank (R117). -/
def noWin (_ : Nat) : Option Nat := none

/-- The window bases recorded with a bank. -/
def windows (bank : Nat) (s : State) : List (Nat × Option Nat) := if bank = 0 then s.map.win0 else s.map.win1

/-- Record the window bases of a bank. -/
def setWindows (bank : Nat) (w : List (Nat × Option Nat)) (s : State) : State :=
  if bank = 0 then { s with map := { s.map with win0 := w } } else { s with map := { s.map with win1 := w } }

/-- Nozzles missing in the live set (R114, MAP_MISSING). -/
def mapMissingCount (s : State) : Nat :=
  let bank := liveBank s
  let n := nozzles s
  let trims := s.map.trimLive.filter fun e => decide (e.1 < n) && bit e.2 16
  let ents := (bankWords bank s).filter fun e => e.1 % 16 == 12 && bit e.2 16
  let both := trims.filter fun e => bit (entryWord ents bank e.1 3) 16
  trims.length + ents.length - both.length

/-- MAP_PX_MAX: the highest pixel the live bank references (R128). -/
def mapPxMax (s : State) : Nat :=
  ((bankWords (liveBank s) s).filter fun e => e.1 % 16 == 0).foldl
    (fun m e => max m (fld e.2 0 16 + (if fld e.2 16 8 = 0 then 0 else 1))) 0

/-! ## Screening (R110 to R116, R127) -/

/-- A threshold cell, 4,095 in a word with an uncorrectable error, and whether that error was met (R112, R127). -/
def tileCell (bank k y x : Nat) (s : State) : Nat × Bool :=
  let a := Reg.TILE bank k y x
  if a ∈ s.map.bad then (4095, true) else (s.rf a (16 * (x % 2)) 12, false)

/-- The level of a screened value: planes 3, 2 and 1 in turn (R110). -/
def levelLoop (bank x y q : Nat) (inv : Bool) (s : State) : List Nat → Nat × Bool
  | [] => (0, false)
  | k :: t =>
    let c := tileCell bank (if inv then 4 - k else k) y x s
    let thr := if inv then 4095 - c.1 else c.1
    if thr < q then (k, c.2)
    else
      let r := levelLoop bank x y q inv s t
      (r.1, c.2 || r.2)

/-- A contone pixel as a rod reads it (R110). -/
def rodPx (line : List Byte) (width : Nat) (win : Option Nat) (j : Nat) : Nat :=
  match win with
  | none => 0
  | some b => if j < width ∧ b ≤ j ∧ j < b + 4096 then (at' 0 line j).toNat else 0

/-- One nozzle in the first pass: its value, whether it is missing, and whether its words have an uncorrectable error. -/
structure NozIn where
  v : Nat
  missing : Bool
  bad : Bool
  w1 : Word
  w2 : Word
  w3 : Word
  trim : Word
  deriving DecidableEq, Repr, Inhabited

/-- First pass (R110). -/
def nozIn (line : List Byte) (width : Nat) (ws : List (Nat × Word)) (s : State) (n : Nat) : NozIn :=
  let bank := liveBank s
  let e := fun w => entryWord ws bank n w
  let win := mget noWin (windows bank s) (n / 2048)
  let px := fld (e 0) 0 16
  let fr := fld (e 0) 16 8
  let a := rodPx line width win px
  let b := if fr = 0 then 0 else rodPx line width win (px + 1)
  let t := mget noTrim s.map.trimLive n
  let bad := (List.range 4).any (fun w => Reg.MAP_ENTRY bank n w ∈ s.map.bad) || (2 ^ 32 + n) ∈ s.map.bad
  ⟨(((256 - fr) * a + fr * b) * fld (e 0) 24 8 + 1024) / 2048, bit (e 3) 16 || bit t 16, bad, e 1, e 2, e 3, t⟩

/-- A neighbour's nozzle number, where its offset is not 0 and names a nozzle (R109, R114). -/
def neighbour (n count : Nat) (ofs : Int) : Option Nat :=
  let t := (n : Int) + ofs
  if ofs ≠ 0 ∧ 0 ≤ t ∧ t < count then some t.toNat else none

/-- The donations of a missing nozzle (R110, R114). -/
def donations (count n : Nat) (x : NozIn) : List (Nat × Nat) :=
  if x.missing && !x.bad then
    let wa := fld x.w3 0 8
    let wb := fld x.w3 8 8
    match neighbour n count (sfld x.w2 0 12), neighbour n count (sfld x.w2 16 12) with
    | some a, some b => if a = b then [(a, x.v * (wa + wb) / 128)] else [(a, x.v * wa / 128), (b, x.v * wb / 128)]
    | some a, none => [(a, x.v * wa / 128)]
    | none, some b => [(b, x.v * wb / 128)]
    | none, none => []
  else []

/-- What the second pass gives for a nozzle: its level, a clamped sum, and a tile word with an uncorrectable error met. -/
def nozLevel (i : Nat) (x : NozIn) (don : Nat) (s : State) : Nat × Bool × Bool :=
  if x.missing || x.bad then (0, false, false)
  else
    let sum := x.v + don
    let sat := decide (4095 < sum)
    let v := min 4095 sum
    if v = 0 then (0, sat, false)
    else
      let o := clampI (-2048) 2047 (sfld x.w1 0 16 + sfld x.trim 0 16)
      let q := (clampI 0 4095 ((v : Int) + o)).toNat
      let tile := s.inForce Reg.SCREEN_TILE
      let tx := fld x.w1 16 8 % max 1 (fld tile 0 9)
      let ty := (i + fld x.w1 24 8) % max 1 (fld tile 16 9)
      let r := levelLoop (s.rf Reg.SCREEN_BANK 0 1) tx ty q (bit x.w3 17) s [3, 2, 1]
      (s.lf Reg.SCREEN_LEVEL_REMAP (2 * r.1) 2, sat, r.2)

/-- Four 2-bit levels per byte, the lowest nozzle in bits [1:0] (R107). -/
def packLevels : List Nat → List Byte
  | a :: b :: c :: d :: t => BitVec.ofNat 8 (a + 4 * b + 16 * c + 64 * d) :: packLevels t
  | [] => []
  | l => [BitVec.ofNat 8 (at' 0 l 0 + 4 * at' 0 l 1 + 16 * at' 0 l 2)]

/-- Map and screen line `i` of a page (R110), with the counts it leaves: the line's bytes. -/
def screenLine (line : List Byte) (width i : Nat) (s : State) : List Byte × State :=
  let n := nozzles s
  let ws := bankWords (liveBank s) s
  let ins := (List.range n).map (nozIn line width ws s)
  let dons := (ins.zipIdx).flatMap fun p => donations n p.2 p.1
  let outs := (ins.zipIdx).map fun p =>
    nozLevel i p.1 ((dons.filter fun d => d.1 == p.2).map (·.2) |>.foldl (· + ·) 0) s
  let levels := outs.map (·.1)
  let s := countN 0x14 Reg.MAP_COMPSAT (outs.filter fun o => o.2.1).length s
  let s := each [1, 2, 3] (fun k s => stat 0x15 (Reg.SCREEN_DROPS k) (levels.filter (· == k)).length s) s
  let s := if ins.any (·.bad) then errInc 0x14 0 (raise 0x14 8 s) else s
  let s := if outs.any fun o => o.2.2 then errInc 0x15 0 (raise 0x15 8 s) else s
  let full := workRods s * 512
  let b := packLevels levels
  (b ++ List.replicate (full - b.length) 0, s)

/-! ## Commands on the tables (R117 to R119) -/

/-- Copy the words of one bank over another. -/
def copyBank (src dst len : Nat) (s : State) : State :=
  let move := fun (a : Nat) => dst + (a - src)
  let ws := (mrange src (src + len) s.words).map fun e => (move e.1, e.2)
  let bad := (s.map.bad.filter fun a => decide (src ≤ a) && decide (a < src + len)).map move
  { s with words := msplice dst (dst + len) ws s.words,
           map := { s.map with bad := bad ++ s.map.bad.filter fun a => !(decide (dst ≤ a) && decide (a < dst + len)) } }

/-- COPY_LIVE of MAP completes (R119). -/
def mapCopyDone (s : State) : State :=
  let live := liveBank s
  let s := copyBank (Reg.MAP_ENTRY live 0 0) (Reg.MAP_ENTRY (1 - live) 0 0) 0x200000 s
  let s := setWindows (1 - live) (windows live s) s
  cmdEnd 0x14 Reg.MAP_CMD_STATUS 2 0 64 (setValid true s)

/-- COPY_LIVE of SCREEN completes (R119). -/
def screenCopyDone (s : State) : State :=
  let live := s.rf Reg.SCREEN_BANK 0 1
  cmdEnd 0x15 Reg.SCREEN_CMD_STATUS 2 0 0 (copyBank (Reg.TILE live 1 0 0) (Reg.TILE (1 - live) 1 0 0) 0x60000 s)

/-- Namings of nozzles by the entries of a bank (R115). -/
def namings (ws : List (Nat × Word)) (bank n : Nat) : List Nat :=
  (List.range n).flatMap fun d =>
    let e := entryWord ws bank d 2
    (neighbour d n (sfld e 0 12)).toList ++ (neighbour d n (sfld e 16 12)).toList

/-- An offset that names no nozzle (R117). -/
def nbBad (n count : Nat) (ofs : Int) : Bool := ofs != 0 && (neighbour n count ofs).isNone

/-- The entry checks of one nozzle in table order: 0, or the code (R117). `lo` and `hi` are its rod's span so far. -/
def entryCheck (ws : List (Nat × Word)) (names : List Nat) (bank count n lo hi : Nat) : Nat :=
  let e := fun w => entryWord ws bank n w
  let o := sfld (e 1) 0 16
  if 128 < fld (e 0) 24 8 then 0x80
  else if o < -2048 ∨ 2047 < o then 0x81
  else if nbBad n count (sfld (e 2) 0 12) || nbBad n count (sfld (e 2) 16 12) then 0x82
  else if 4 < (names.filter (· == n)).length then 0x83
  else if lo + 4096 ≤ hi then 0x84
  else if fld (e 2) 12 4 ≠ 0 ∨ fld (e 2) 28 4 ≠ 0 ∨ fld (e 3) 18 14 ≠ 0 then 0x85
  else 0

/-- The checks over the nozzles in ascending order: the first failure, or the window bases (R117). -/
def validateLoop (ws : List (Nat × Word)) (names : List Nat) (bank count : Nat) :
    List Nat → Nat → Nat → List (Nat × Option Nat) → (Nat × Nat) ⊕ List (Nat × Option Nat)
  | [], _, _, win => .inr win
  | n :: t, lo, hi, win =>
    let e := entryWord ws bank n 0
    let px := fld e 0 16
    let top := px + (if fld e 16 8 = 0 then 0 else 1)
    let lo := if n % 2048 = 0 then px else min lo px
    let hi := if n % 2048 = 0 then top else max hi top
    let c := entryCheck ws names bank count n lo hi
    if c ≠ 0 then .inl (c, n) else validateLoop ws names bank count t lo hi (mset noWin (n / 2048) (some lo) win)

/-- VALIDATE completes (R117). -/
def validateDone (s : State) : State :=
  let bank := 1 - liveBank s
  let n := nozzles s
  let ws := bankWords bank s
  match validateLoop ws (namings ws bank n) bank n (List.range n) 0 0 [] with
  | .inl f => cmdEnd 0x14 Reg.MAP_CMD_STATUS 4 f.1 (f.2 / 2048) (s.setReg Reg.MAP_VAL_NOZZLE (W f.2))
  | .inr win => cmdEnd 0x14 Reg.MAP_CMD_STATUS 2 0 (workRods s) (setValid true (setWindows bank win s))

/-- A table command of MAP starts (R119). -/
def mapCmd (op : Nat) (s : State) : State :=
  cmdGateSet 0x14 Reg.MAP_CMD_STATUS (fun s =>
    if s.shadowPending 0x14 then cmdError 0x14 Reg.MAP_CMD_STATUS 1 s
    else
      let s := cmdStart Reg.MAP_CMD_STATUS { s with map := { s.map with op := op } }
      if op = 2 then setValid false s else s) s

/-- COPY_LIVE of SCREEN starts (R119). -/
def screenCmd (s : State) : State :=
  cmdGateSet 0x15 Reg.SCREEN_CMD_STATUS (fun s =>
    if s.shadowPending 0x15 then cmdError 0x15 Reg.SCREEN_CMD_STATUS 1 s else cmdStart Reg.SCREEN_CMD_STATUS s) s

/-- Abort on MAP: only VALIDATE is before its commit point (R117, R119). The rods checked so far are free (log entry 62). -/
def mapAbort (s : State) : State :=
  if s.cmdBusy Reg.MAP_CMD_STATUS && s.map.op == 2 then
    let w := s.freeW
    cmdEnd 0x14 Reg.MAP_CMD_STATUS 3 0 (w.1.toNat % (workRods s + 1)) w.2
  else s

/-- MAP_NOZZLES is written (R108). -/
def mapNozzlesWrite (w : Word) (s : State) : State :=
  let n := fld w 0 18
  if s.enabled 0x16 || n == 0 || decide (131072 < n) then config 0x14 s
  else
    let s := if n = nozzles s then s else setValid false s
    let s := s.setReg Reg.MAP_NOZZLES (W n)
    travNoCal ((s.setReg Reg.MAP_RODS (W ((n + 2047) / 2048))).setReg Reg.MAP_LINE_BYTES (W (512 * ((n + 2047) / 2048))))

/-- A write into the nozzle map window (R44, R109, R117). -/
def mapWindowWrite (ofs : Nat) (w : Word) (s : State) : State :=
  if 0x200000 ≤ ofs % 0x800000 then s
  else if ofs / 0x800000 = liveBank s || s.shadowPending 0x14 || s.cmdBusy Reg.MAP_CMD_STATUS then config 0x14 s
  else
    let a := 0x50000000 + ofs
    setValid false ({ s with map := { s.map with bad := s.map.bad.filter (· != a) } }.setReg a w)

/-- A write into the threshold matrix window (R44, R112, R119): cells are 12 bits (R10). -/
def tileWindowWrite (ofs : Nat) (w : Word) (s : State) : State :=
  if 0x60000 ≤ ofs % 0x80000 then s
  else if ofs / 0x80000 = s.rf Reg.SCREEN_BANK 0 1 || s.shadowPending 0x15 || s.cmdBusy Reg.SCREEN_CMD_STATUS then config 0x15 s
  else
    let a := 0x51000000 + ofs
    { s with map := { s.map with bad := s.map.bad.filter (· != a) } }.setReg a (w &&& 0x0FFF0FFF)

/-- MAP_TRIM_ADDR steps on (R122). -/
def trimNext (s : State) : State := s.setF Reg.MAP_TRIM_ADDR 0 17 (s.rf Reg.MAP_TRIM_ADDR 0 17 + 1)

/-- MAP_TRIM_DATA is written (R122). -/
def trimWrite (w : Word) (s : State) : State :=
  let n := s.rf Reg.MAP_TRIM_ADDR 0 17
  let s := if s.rb Reg.MAP_TRIM_CTRL 0 && !s.rb Reg.MAP_TRIM_ADDR 31 then
      trimStage n (w &&& 0x1FFFF) s
    else errInc 0x14 2 (config 0x14 s)
  trimNext s

/-- MAP_TRIM_DATA is read (R122). -/
def trimRead (s : State) : Word × State :=
  let n := s.rf Reg.MAP_TRIM_ADDR 0 17
  (mget noTrim (if s.rb Reg.MAP_TRIM_ADDR 31 then s.map.trimLive else s.map.trimStaged) n, trimNext s)

/-! ## The page boundary (R83, R118 to R121, R445) -/

/-- MAP at a page boundary (R118): whether its commit was applied. -/
def mapBoundary (s : State) : State :=
  if !s.shadowPending 0x14 then s
  else if inactValid s && !s.cmdBusy Reg.MAP_CMD_STATUS then
    travResetAll (commitApply 0x14 (s.setF Reg.MAP_BANK 0 2 (1 - liveBank s + 2)))
  else commitRefuse 0x14 (errInc 0x14 3 s)

/-- SCREEN at a page boundary (R118). -/
def screenBoundary (s : State) : State :=
  if !s.shadowPending 0x15 then s
  else if s.cmdBusy Reg.SCREEN_CMD_STATUS then commitRefuse 0x15 s
  else commitApply 0x15 (s.setF Reg.SCREEN_BANK 0 1 (1 - s.rf Reg.SCREEN_BANK 0 1))

/-- The staged trims become live (R121). `line` is the page's first serial. An ACTIVE unit records Traverse's for MIRROR
(R363). -/
def trimBoundary (page line : Nat) (s : State) : State :=
  let held := trimsHeld s
  let due := held.foldl (fun l e => mset noTrim e.1 e.2 l) s.map.trimStaged
  let changed := s.map.trimLive != due
  let s := each (s.trav.noz.filter fun e => e.2.trimWait && held.all (·.1 != e.1)) (fun e s =>
    mirrorRec 2 e.1 (mget noTrim due e.1).toNat page s) s
  let staged := s.map.bad.filter fun a => decide (2 ^ 33 ≤ a)
  let s := travTrimLive line { s with map := { s.map with
    trimLive := due, bad := (s.map.bad.filter fun a => decide (a < 2 ^ 32)) ++ staged ++ staged.map (· - 2 ^ 32) } }
  if changed then raise 0x14 9 s else s

/-- The greatest delay of an enabled row of a head in use. -/
def rowMax (s : State) : Nat :=
  (heads32.filter fun h => headCfg h s).foldl (fun m h =>
    (List.range 8).foldl (fun m r => if rowEn h r s then max m (rowDelay h r s) else m) m) 0

/-- A page enters PRINTING (R83, R132, R445). -/
def pageBoundary (p : Page) (s : State) : State :=
  let before := mapMissingCount s
  let s := mapBoundary s
  let s := screenBoundary s
  let s := commitAt 0x10 true s
  let s := commitAt 0x11 true s
  let start := match p.start with
    | some x => startIn (den s) x p.den
    | none => 0
  let g := anchorPage start p.d.length (rowMax s) s
  let s := trimBoundary p.d.page g.1 g.2
  let s := if mapMissingCount s = before then s else raise 0x14 10 s
  let sep := p.d.sep != s.lf Reg.INTAKE_CTRL 16 8
  let s := if sep then each p.bands (fun b s => dropBand p.d.job p.d.page b.no s) s else s
  let bands := if sep then p.bands.map fun c => { c with slot := none } else p.bands
  let s := setPage { p with st := .printing, serial0 := some g.1, sepBad := sep, bands := bands } s
  let pages := (s.insp.pages ++ [(g.1, p.d.length, p.d.job, p.d.page)]).drop (s.insp.pages.length + 1 - 1024)
  raise 0x10 13 { s with intake := { s.intake with current := some (p.d.job, p.d.page, 0, false) },
                         insp := { s.insp with pages := pages },
                         pair := { s.pair with held := false, blanked := false } }

/-- The lines of bands that are past are passed, and the page is DONE after its last line (Page states, R444). -/
def passLines (job page : Nat) (s : State) : State :=
  match s.intake.seq.find? fun p => p.d.job == job && p.d.page == page with
  | none => s
  | some p =>
    let line := p.bands.foldl (fun n b => match b.st, b.extent with
      | .past, some x => if x.1 ≤ n ∧ n < x.1 + x.2 then x.1 + x.2 else n
      | _, _ => n) p.nextLine
    if p.st = .printing ∧ p.d.length ≤ line then
      let s := setPage { p with nextLine := line, st := .done } s
      let cur := s.intake.current.map fun c => if c.1 = job ∧ c.2.1 = page then (c.1, c.2.1, c.2.2.1, true) else c
      loadLighter job (raise 0x10 14 { s with intake := { s.intake with current := cur } })
    else setPage { p with nextLine := line } s

/-- The rods may map (R446). -/
def rodsOn (s : State) : Bool := s.enabled 0x14 && s.enabled 0x15

/-- A band reaches its due position (R98, R445, R446). -/
def bandMeetsDue (p : Page) (s : State) : State :=
  let e := dueExtent p
  let b := { bandOf p.nextBand p.bands with extent := some e }
  let d := p.d
  let blank := match b.hdr with
    | some h => h.blank
    | none => false
  let next := fun (b : Band) (s : State) =>
    let s := setPage { p with nextBand := p.nextBand + 1, bands := putBand b p.bands } s
    let r : BandRec := ⟨p.serial0.getD 0 + e.1, e.2, d.job, d.page, b.no⟩
    let recs := (s.insp.bands ++ [r]).drop (s.insp.bands.length + 1 - 1024)
    passLines d.job d.page { s with insp := { s.insp with bands := recs } }
  if !rodsOn s then next { b with st := .past, slot := none } (dropBand d.job d.page b.no s)
  else if !p.sepBad && (b.st = .verified || (b.st = .stored && blank)) then next { b with st := .mapping } s
  else
    let reason := if p.sepBad then 13 else if b.begun then 9 else 10
    let s := next { b with st := .mapping, zero := true, slot := none, recorded := true } (dropBand d.job d.page b.no s)
    let s := errInc 0x10 1 (stat 0x10 Reg.INTAKE_LINES_BLANK e.2 s)
    let s := if s.pair.role = 2 then
        { s with pair := { s.pair with blanked := true, aligned := false, checksOk := false, held := true } } else s
    handOut 32 (postFail d.job d.page b.no (some e.1) e.2 reason true none s)

/-- The first page of which a band has reached its due position (R98). -/
def bandDue (s : State) : State :=
  match (seqKnown s).find? fun p => dueLeft p && dueReached p 0 s with
  | none => s
  | some p =>
    if !s.enabled 0x10 then s
    else
      let s := if p.nextBand = 0 then pageBoundary p s else s
      match s.intake.seq.find? fun q => q.d.job == p.d.job && q.d.page == p.d.page with
      | some p => bandMeetsDue p s
      | none => s

/-! ## Lines (R101, R123 to R127, R446) -/

/-- The page and band whose line the rods map next. -/
def nextLine (s : State) : Option (Page × Band × (Nat × Nat)) :=
  s.intake.seq.findSome? fun p =>
    p.bands.findSome? fun b => match b.st, b.extent with
      | .mapping, some x => if x.1 ≤ p.nextLine ∧ p.nextLine < x.1 + x.2 then some (p, b, x) else none
      | _, _ => none

/-- Slack of pipeline 1: line `k` is handed to the ring ahead of its first row read (R65, R141). -/
def lineSlack (k : Nat) (s : State) : State :=
  let ds := (heads32.filter fun h => headCfg h s).flatMap fun h =>
    ((List.range 8).filter fun r => rowEn h r s).map fun r => rowDelay h r s
  match ds with
  | d :: t =>
    if s.fire.anchored then
      slackNote 1 (moveD (den s) (tickPos (k + t.foldl min d) s) (-(((lead s + 1) * num s : Nat) : Int))) s
    else s
  | [] => s

/-- A line is handed to DELAY (R446): `none` is a zero line. -/
def handLine (p : Page) (l : Option (List Byte)) (upset : List Nat) (s : State) : State :=
  let serial := p.serial0.getD 0 + p.nextLine
  let s := lineSlack serial s
  let wrote := s.enabled 0x16 && (tagOf serial s).isNone
  let s := ringWrite serial l upset s
  let s := match l with
    | some l => if wrote then
        each (List.range (l.length / 512)) (fun r s => dramReq 0 true (lineAddr serial s + 512 * r) 512 s) s else s
    | none => s
  let s := stat 0x15 Reg.SCREEN_LINES 1 (stat 0x14 Reg.MAP_LINES 1 s)
  { s with intake := { s.intake with current := s.intake.current.map fun c =>
      if c.1 = p.d.job ∧ c.2.1 = p.d.page then (c.1, c.2.1, p.nextLine, c.2.2.2) else c } }

/-- Pixels of a line as an upset of staging memory leaves them. -/
def upsetLine (line : List Byte) (upset : List (Nat × Byte)) : List Byte := upset.foldl (fun l u => setAt l u.1 u.2) line

/-- Words of the on-chip memories are found uncorrectable: table words and trims (R127), and slot tags, numbered from 2^34 (R159). -/
def newErrors (new : List Nat) (s : State) : State :=
  let add := fun (l old : List Nat) => (l.filter fun a => !(a ∈ old)) ++ old
  { s with map := { s.map with bad := add (new.filter fun a => decide (a < 2 ^ 34)) s.map.bad },
           delay := { s.delay with bad := add ((new.filter fun a => decide (2 ^ 34 ≤ a)).map (· - 2 ^ 34)) s.delay.bad } }

/-- A line is mapped (R101, R110, R123 to R127). -/
def mapLine (p : Page) (b : Band) (x : Nat × Nat) (upset : List (Nat × Byte)) (fixedMap fixedTile : Nat)
    (rodUpset : List Nat) (s : State) : State :=
  if b.zero then handLine p none [] s
  else
    let s := countN 0x14 (Reg.errCount 0x14 1) fixedMap s
    let s := countN 0x15 (Reg.errCount 0x15 1) fixedTile s
    let i := p.nextLine - x.1
    match stagingOf p.d.job p.d.page b.no s with
    | none =>
      let r := screenLine [] p.d.width p.nextLine s
      handLine p (some r.1) rodUpset r.2
    | some g =>
      let line := upsetLine (at' [] g.lines i) upset
      if crc32c line ≠ at' 0 g.crcs i then
        let s := stat 0x10 Reg.INTAKE_LINES_BLANK 1 (errInc 0x10 2 s)
        handLine p none [] (postFail p.d.job p.d.page b.no (some p.nextLine) 1 11 true none s)
      else
        let r := screenLine line p.d.width p.nextLine s
        handLine p (some r.1) rodUpset r.2

/-- The next line of the bands being mapped (R110). -/
def lineMap (upset : List (Nat × Byte)) (newBad : List Nat) (fixedMap fixedTile : Nat) (rodUpset : List Nat)
    (s : State) : State :=
  match nextLine s with
  | none => s
  | some (p, b, x) =>
    if !s.running 0x14 || !s.running 0x15 || s.quiescing 0x16 || !(b.zero || dramReady s) then s
    else
      let s := mapLine p b x upset fixedMap fixedTile rodUpset (newErrors newBad s)
      let last := p.nextLine + 1 = x.1 + x.2
      let blank := match b.hdr with
        | some h => h.blank
        | none => false
      let s := setPage { p with nextLine := p.nextLine + 1,
                                bands := if last then putBand { b with st := .past } p.bands else p.bands } s
      let s := if last then handOut 32 (dropBand p.d.job p.d.page b.no s) else s
      let s := if last && !b.zero && !blank then stat 0x10 Reg.INTAKE_BANDS_OK 1 s else s
      passLines p.d.job p.d.page s

/-- A DONE page leaves the sequencer once the last row of its last line has fired, or nothing is left to fire it
(Page states, log entry 63). -/
def seqFree (s : State) : State :=
  if s.intake.seq.all fun p => p.st != .done then s
  else
    let m := rowMax s
    let gone := fun (p : Page) => p.st == .done && (match p.serial0 with
      | some k =>
        let last := k + p.d.length - 1 + m
        decide (s.fire.st < 2) || s.fire.lastLine.isNone ||
          (decide (last < s.fire.nextCom) && s.fire.ticks.all fun t => decide (last < t.serial))
      | none => true)
    { s with intake := { s.intake with seq := s.intake.seq.filter fun p => !gone p } }

end Sys2Proof.Machine
end

