-- ==== Sys2Proof/Machine/PairOps.lean ====
section
/-! DEFINITION. PAIR: roles, heartbeat, MIRROR frames, joins and takeovers (R356 to R370). -/
namespace Sys2Proof.Machine

/-- Replace PAIR's state. -/
def State.setPair (s : State) (x : PairSt) : State := { s with pair := x }

/-- HLINK sends a head one keepalive, once its lane carries role traffic: now, or at the K29.7 of the line frame on the lane (R164,
R257, R414). -/
def keepaliveSend (h : Nat) (s : State) : State :=
  let x := s.head h
  let body := beBytes 2 (claim s) ++ beBytes 1 x.kaSeq
  let wait := (x.laneFree - s.timeNs64 * 1000 + 999) / 1000
  if laneWait (headLane h s) s == some 0 && !linkQuiesced s then
    emit (.keepalive h (claim s) x.kaSeq (crc8 body)) (s.setHead h { x with kaSeq := (x.kaSeq + 1) % 256, kaAt := some (s.now + wait) })
  else s

/-- MARGIN_OK (R368). -/
def marginOk (s : State) : Bool :=
  (heads32.filter fun h => headInUse h s).all fun h =>
    let f := (payloadBytes (headCount h s) + 24) * symbolPs (s.lf (Reg.HEADS_CFG h) 1 3)
    decide ((s.rf Reg.PAIR_CFG 0 16 + 1500 + s.rf Reg.HLINK_KA_PERIOD 0 16) * 1000 + f ≤ s.rf Reg.PAIR_CFG 24 8 * 1000000)

/-- PAIR_STATE as it stands (R370). -/
def pairStateWord (s : State) : Word :=
  let x := s.pair
  W (x.role + ofBits [x.aligned, x.peerAlive, x.mirrorOk, marginOk s, x.yielding, x.takeArmed, x.lastUnaligned] * 4)

/-- PAIR_ALIVE_OUT toggles (R357). -/
def aliveToggle (s : State) : State :=
  if pairEn s && s.pair.role != 0 && !s.pair.yielding && decide (s.pair.outAt + 500 ≤ s.now) then
    s.setPair { s.pair with out := !s.pair.out, outAt := s.now }
  else s

/-- The claim that a raise gives (R358): none from EPOCH 4,095. -/
def raisedEpoch (s : State) : Option Nat :=
  let e := max (s.rf Reg.PAIR_CLAIM 4 12) (s.rf Reg.PAIR_PEER_CLAIM 4 12)
  if 4095 ≤ e then none else some (e + 1)

/-- A takeover (R358, R359, R364): by TAKE, or automatic. -/
def takeover (auto : Bool) (s : State) : State :=
  match raisedEpoch s with
  | none => cmdError 0x68 Reg.PAIR_CMD_STATUS 0x82 (raise 0x68 14 s)
  | some e =>
    let s := s.setF Reg.PAIR_CLAIM 4 12 e
    let s := s.setPair { s.pair with role := 1, lastUnaligned := !s.pair.aligned, joining := false, gapCounted := false, gap := [] }
    let s := each (heads32.filter fun h => headInUse h s) (fun h s =>
      keepaliveSend h (s.setHead h { s.head h with gapFrom := some (s.head h).lastFired, gapWait := true })) s
    let s := each ((List.range 128).filter fun i => slotOn i s) (fun i s =>
      s.setSlot i { s.slot i with fresh := true, heatOk := none }) s
    let s := raise 0x68 8 (stat 0x68 Reg.PAIR_TAKEOVERS 1 (s.setReg Reg.PAIR_LAST_TAKE (W s.timeNs)))
    cmdDone 0x68 Reg.PAIR_CMD_STATUS (if auto then errInc 0x68 0 s else s)

/-- The automatic takeover where its conditions hold (R359). -/
def autoTake (s : State) : State :=
  let x := s.pair
  if pairEn s && x.role == 2 && x.takeArmed && s.rb Reg.PAIR_CTRL 1 && x.peerActive && !x.peerAlive then takeover true s else s

/-- No edge within PAIR_TAKEOVER_WAIT (R357, R359). -/
def peerLost (s : State) : State :=
  match s.pair.edgeAt with
  | some t =>
    if s.enabled 0x68 && s.pair.peerAlive && decide (t + s.rf Reg.PAIR_CFG 0 16 < s.now) then
      autoTake (raise 0x68 10 (s.setPair { s.pair with peerAlive := false }))
    else s
  | none => s

/-- An edge on PAIR_ALIVE_IN (R357). -/
def aliveEdge (s : State) : State :=
  if !s.enabled 0x68 then s else
  let s := peerLost s
  if s.pair.peerAlive then s.setPair { s.pair with edgeAt := some s.now }
  else raise 0x68 11 (s.setPair { s.pair with edgeAt := some s.now, peerAlive := true, aliveSince := s.now })

/-- PEER_ALIVE has been 1 for 1 ms in STANDBY (R359). -/
def takeArm (s : State) : State :=
  if pairEn s && s.pair.role == 2 && s.pair.peerAlive && decide (s.pair.aliveSince + 1000000 ≤ s.now) then
    s.setPair { s.pair with takeArmed := true }
  else s

/-- The unit becomes DETACHED (R359); a JOIN that waits ends ERROR ROLE (log entry 105). -/
def pairDetach (s : State) : State :=
  let s := if s.pair.joining then cmdError 0x68 Reg.PAIR_CMD_STATUS 0x80 s else s
  s.setPair { s.pair with role := 0, yielding := false, out := false, aligned := false, joining := false, joined := none }

/-- The role follows PAIR_EN (R359). -/
def pairSync (s : State) : State :=
  if pairEn s then
    if s.pair.role = 0 then motionStandby (s.setPair { s.pair with role := 2, takeArmed := false, aligned := false, outAt := s.now })
    else s
  else if s.pair.role = 0 then s else pairDetach s

/-- Every head in use is SHADOW or not READY, at least one SHADOW: the active is demoted (R359). -/
def pairDemote (s : State) : State :=
  if s.pair.role = 1 ∧ pairEn s then
    let hs := heads32.filter fun h => headInUse h s
    if (hs.all fun h => !(s.head h).ready) && hs.any (fun h => (s.head h).shadow) then
      let armed := s.pair.takeArmed && s.pair.yielding
      motionStandby (raise 0x68 9 (s.setPair { s.pair with role := 2, takeArmed := armed, yielding := false }))
    else s
  else s

/-- A command of PAIR whose role is judged (R370). -/
def pairCmd (ok : State → Bool) (f : State → State) (s : State) : State :=
  cmdGate 0x68 Reg.PAIR_CMD_STATUS (fun s => if ok s then f s else cmdError 0x68 Reg.PAIR_CMD_STATUS 0x80 s) s

/-- JOIN (R364). FIRE outside READY ends it ERROR CONFIG (log entry 64). -/
def pairJoin (s : State) : State :=
  pairCmd (fun s => s.pair.role == 2) (fun s =>
    if s.fire.st ≠ 1 then cmdError 0x68 Reg.PAIR_CMD_STATUS 1 s
    else cmdStart Reg.PAIR_CMD_STATUS (s.setPair { s.pair with joining := true })) s

/-- TAKE (R359). -/
def pairTake (force : Bool) (s : State) : State :=
  pairCmd (fun s => s.pair.role == 2) (fun s =>
    if s.pair.aligned || force then takeover false s else cmdError 0x68 Reg.PAIR_CMD_STATUS 0x81 s) s

/-- DETACH (R359). -/
def pairDetachCmd (s : State) : State :=
  pairCmd (fun s => s.pair.role == 1 || s.pair.role == 2) (fun s => cmdDone 0x68 Reg.PAIR_CMD_STATUS (pairDetach s)) s

/-- YIELD (R359). -/
def pairYield (s : State) : State :=
  pairCmd (fun s => s.pair.role == 1) (fun s =>
    cmdDone 0x68 Reg.PAIR_CMD_STATUS (s.setPair { s.pair with yielding := true, out := false })) s

/-- Abort on PAIR: only a JOIN waits before its commit point (R364). -/
def pairAbort (s : State) : State :=
  if s.pair.joining then cmdAbort 0x68 Reg.PAIR_CMD_STATUS (s.setPair { s.pair with joining := false }) else s

/-! ## MIRROR (R362, R363) -/

/-- FLAGS of a MIRROR frame. -/
def mirrorFlags (s : State) : Nat := ofBits [s.pair.role == 1, s.fire.st == 2, s.pair.yielding]

/-- The 48-byte body and the records of a MIRROR frame (R362). -/
def mirrorBytes (recs : List (List Byte)) (s : State) : List Byte :=
  let d := den s
  let c := currentPage s
  let k := (s.fire.lastCom.map (·.1)).getD 0
  let t := (s.fire.lastCom.map (·.2)).getD 0
  let g := match s.fire.anchored, s.fire.segs with
    | true, g :: _ => g
    | _, _ => ⟨0, 0, 1, 1⟩
  beBytes 1 1 ++ beBytes 1 (mirrorFlags s) ++ beBytes 2 (claim s) ++ beBytes 2 s.pair.mseq ++ beBytes 2 recs.length ++
    beBytes 4 k ++ beBytes 4 (s.fire.bench / d) ++ beBytes 2 (s.fire.bench % d) ++ beBytes 2 c.2.1 ++ beBytes 4 c.2.2.1 ++
    beBytes 4 c.2.2.2 ++ beBytes 4 (g.pos / max 1 g.den) ++ beBytes 2 (g.pos % max 1 g.den) ++ beBytes 2 0 ++
    beBytes 4 g.first ++ beBytes 4 t ++ beBytes 4 0 ++ recs.flatMap id

/-- A MIRROR frame is sent where one is due (R363). -/
def mirrorSend (s : State) : State :=
  let x := s.pair
  let age := decide (x.sentAt + 20000 ≤ s.now)
  let due := (x.role == 1 && (decide (s.rf Reg.PAIR_CFG 16 8 ≤ x.ticks) || age || x.sentFlags != mirrorFlags s)) ||
    (x.role == 2 && age)
  if !pairEn s || !due || s.quiescing 0x40 then s
  else
    let recs := if x.role = 1 then x.recs.take 125 else []
    let rest := if x.role = 1 then x.recs.drop 125 else []
    let p := mirrorBytes recs s
    let flags := mirrorFlags s
    let s := s.setPair { x with recs := rest, ticks := 0, sentAt := s.now, sentFlags := flags, mseq := (x.mseq + 1) % 65536 }
    chainSend 0x40 (s.rf Reg.PAIR_PEER 0 6) 3 (.bytes p) (stat 0x68 Reg.PAIR_MIRROR_TX 1 s)

/-- An ACTIVE unit sends MIRROR at once when its FLAGS change or MIRROR_LINES ticks have been committed (R363). -/
def mirrorNow (s : State) : State :=
  let x := s.pair
  if x.role = 1 ∧ (x.sentFlags ≠ mirrorFlags s ∨ s.rf Reg.PAIR_CFG 16 8 ≤ x.ticks) then mirrorSend s else s

/-- A 32-bit serial as the nearest serial counted without wrap. -/
def unwrapSerial (k : Nat) (s : State) : Nat := ((s.fire.nextDec : Int) + sgn 32 ((k + 2 ^ 32 - s.fire.nextDec % 2 ^ 32) % 2 ^ 32)).toNat

/-- A STANDBY unit applies one MIRROR record (R363). -/
def mirrorApply (r : List Byte) (s : State) : State :=
  let ty := beAt r 0 1
  let a := beAt r 4 4
  let b := beAt r 8 4
  let page := beAt r 12 4
  if beAt r 1 3 ≠ 0 then s
  else if ty = 1 then
    let k := unwrapSerial a s
    each (heads32.filter fun h => b / 2 ^ h % 2 == 1) (fun h s => histClear h k s) s
  else if ty = 2 then
    let n := a % 2 ^ 17
    let s := trimStage n (W (b % 2 ^ 17)) s
    if s.insp.pages.any fun q => q.2.2.2 == page then count 0x68 Reg.PAIR_LATE_TRIM s else s
  else if ty = 3 then
    let n := a % 2 ^ 17
    s.setNoz n { s.noz n with sub := b % 16 }
  else s

/-- The join: FIRE enters RUN on the active's grid (R364). -/
def pairJoined (p : List Byte) (s : State) : State :=
  if s.fire.st ≠ 1 ∨ !s.enabled 0x16 then s
  else
    let s := unanchor s
    let d := den s
    let inv := !posValid s
    let first := unwrapSerial (beAt p 0x24 4) s
    let last := unwrapSerial (beAt p 8 4) s
    let s := { s with fire := { s.fire with
      anchored := true, segs := ⟨first, beAt p 0x1C 4 * d + beAt p 0x20 2, d, num s⟩ :: s.fire.segs,
      bench := beAt p 0x0C 4 * d + beAt p 0x10 2, nextRead := last + 1, nextDec := last + 1, nextCom := last + 1,
      posInv := inv, st := if inv || s.fire.latch then 3 else 2, lastLine := none } }
    let s := s.setPair { s.pair with joining := false, joined := some 0, checksOk := false, held := false, blanked := false,
                                     aligned := false }
    cmdDone 0x68 Reg.PAIR_CMD_STATUS (if inv then raise 0x17 14 s else s)

/-- The checks of a STANDBY unit against an accepted MIRROR (R363). -/
def mirrorCheck (p : List Byte) (s : State) : Bool :=
  let k := unwrapSerial (beAt p 8 4) s
  let pos := tickPos k s
  let c := match s.pair.cursors.find? fun c => c.1 == k with
    | some c => c.2
    | none => (currentPage s).2
  pos / den s == beAt p 0x0C 4 && pos % den s == beAt p 0x10 2 && c == (beAt p 0x12 2, beAt p 0x14 4, beAt p 0x18 4)

/-- MIRROR has aged beyond PAIR_MIRROR_TMO (R363, R364). -/
def mirrorLost (s : State) : State :=
  if s.enabled 0x68 && s.pair.mirrorOk && decide (s.pair.mirrorAt + s.rf Reg.PAIR_MIRROR_TMO 0 14 * 1000 < s.now) then
    raise 0x68 12 (s.setPair { s.pair with mirrorOk := false, aligned := false, checksOk := false, held := true })
  else s

/-- A MIRROR frame arrives (R363, R364). -/
def mirrorIn (p : List Byte) (s : State) : State :=
  if !s.enabled 0x68 then s
  else if beAt p 0 1 ≠ 1 ∨ p.length ≠ 48 + 16 * beAt p 6 2 ∨ beAt p 2 2 % 16 = s.chip.straps then errInc 0x68 2 s
  else
    let flags := beAt p 1 1
    let s := mirrorLost s
    let s := stat 0x68 Reg.PAIR_MIRROR_RX 1 (s.setReg Reg.PAIR_PEER_CLAIM (W (beAt p 2 2)))
    let s := s.setPair { s.pair with mirrorAt := s.now, mirrorOk := true, peerActive := flags % 2 == 1 }
    if s.pair.role ≠ 2 then s
    else
      let s := each (List.range (beAt p 6 2)) (fun i s => mirrorApply ((p.drop (48 + 16 * i)).take 16) s) s
      let s :=
        if s.pair.joining then (if flags / 2 % 2 = 1 then pairJoined p s else s)
        else if s.pair.joined.isNone || decide (s.fire.st < 2) || !s.fire.anchored then s
        else if mirrorCheck p s then (if s.pair.held then s else s.setPair { s.pair with checksOk := true })
        else errInc 0x68 1 (raise 0x68 13 (s.setPair { s.pair with aligned := false, checksOk := false, held := true }))
      autoTake s

/-- ALIGNED rises once every condition holds (R364). -/
def pairAlign (s : State) : State :=
  let x := s.pair
  match x.joined with
  | some n =>
    if x.role = 2 ∧ !x.aligned ∧ x.checksOk ∧ !x.blanked ∧ x.mirrorOk ∧ delayRowMax s + lead s + 1 ≤ n then
      s.setPair { x with aligned := true }
    else s
  | none => s

/-- A head's telemetry after a takeover (R367): with ACCEPTED 0 it gives the last tick the old active fired; the first with
ACCEPTED 1 that shows a later one gives the first tick fired from this unit's port, and the ticks between were fired by neither. -/
def gapCount (h : Nat) (s : State) : State :=
  let x := s.head h
  match x.gapWait, x.gapFrom with
  | true, some from_ =>
    let n := (x.lastFired + 2 ^ 32 - from_ % 2 ^ 32) % 2 ^ 32
    if x.port / 2 % 2 = 0 then s.setHead h { x with gapFrom := some x.lastFired }
    else if n = 0 ∨ 2 ^ 31 ≤ n then s
    else each (List.range (n - 1)) (fun i s =>
      let k := unwrapSerial ((from_ + 1 + i) % 2 ^ 32) s
      let s := markShares k [h] s
      if k ∈ s.pair.gap then s
      else
        let s := stat 0x68 Reg.PAIR_GAP_LINES 1 (s.setPair { s.pair with gap := k :: s.pair.gap })
        if s.pair.gapCounted then s else errInc 0x68 3 (s.setPair { s.pair with gapCounted := true }))
      (s.setHead h { x with gapWait := false, gapFrom := none })
  | _, _ => s

/-- PAIR_CLAIM is written (R358): EPOCH only while DETACHED. -/
def pairClaimWrite (w : Word) (s : State) : State :=
  if s.pair.role = 0 then s.setF Reg.PAIR_CLAIM 4 12 (fld w 4 12) else config 0x68 s

end Sys2Proof.Machine
end

