-- ==== Sys2Proof/Machine/PageOps.lean ====
section
/-! DEFINITION. The page header at work: units of work, PAGE_STATUS, quiesce, ENABLE, ABORT and RESET_REQ (R32 to R34, R47,
R413 to R416, R442). -/
namespace Sys2Proof.Machine

/-! ## Units of work (R34, R442) -/

/-- The command status registers of a page (R46). -/
def cmdRegs (p : Nat) : List Nat :=
  match p with
  | 0x03 => [Reg.PACE_RAMP_STATUS]
  | 0x09 => [Reg.SVC_CMD_STATUS]
  | 0x10 => [Reg.INTAKE_CMD_STATUS]
  | 0x14 => [Reg.MAP_CMD_STATUS]
  | 0x15 => [Reg.SCREEN_CMD_STATUS]
  | 0x17 => [Reg.FIRE_CMD_STATUS, Reg.FIRE_HIST_CMD_STATUS]
  | 0x18 => [Reg.HLINK_HCMD_STATUS]
  | 0x1C => [Reg.WEB_CMD_STATUS]
  | 0x20 => [Reg.CAM_CCI_STATUS 0]
  | 0x21 => [Reg.CAM_CCI_STATUS 1]
  | 0x22 => [Reg.CAM_CCI_STATUS 2]
  | 0x23 => [Reg.CAM_CCI_STATUS 3]
  | 0x24 => [Reg.ISP_CMD_STATUS]
  | 0x28 => [Reg.TRAV_CMD_STATUS]
  | 0x42 => [Reg.TIME_CMD_STATUS]
  | 0x49 => [Reg.DRAMTRN_CMD_STATUS]
  | 0x50 => [Reg.DEFL_E_STATUS 0, Reg.DEFL_E_STATUS 1]
  | 0x59 => [Reg.LOOPCAP_CMD_STATUS]
  | 0x60 => [Reg.MOTION_CMD_STATUS 0, Reg.MOTION_CMD_STATUS 1, Reg.MOTION_CMD_STATUS 2, Reg.MOTION_CMD_STATUS 3]
  | 0x68 => [Reg.PAIR_CMD_STATUS]
  | _ => []

/-- A command of the page is BUSY. -/
def cmdsBusy (p : Nat) (s : State) : Bool := (cmdRegs p).any fun a => s.cmdBusy a

/-- A camera port is receiving a frame. -/
def camBusy (p : Nat) (s : State) : Bool := (s.cam p).cur.isSome || (s.cam p).skipping

/-- The page's unit of work is in progress: the *Quiesced when* column of R414, or a command (R442). -/
def unitBusy (p : Nat) (s : State) : Bool :=
  match p with
  | 0x11 => (List.range 16).any fun e => engBusy (tget Reset.engine s.infl.engines e)
  | 0x16 => s.fire.reads.any fun r => r.levels.isNone
  | 0x17 => !s.fire.ticks.isEmpty
  | 0x18 | 0x19 => heads32.any fun h => decide (s.timeNs64 * 1000 < max (s.head h).laneFree (s.head h).cmdFree)
  | 0x20 => camBusy 0 s
  | 0x21 => camBusy 1 s
  | 0x22 => camBusy 2 s
  | 0x23 => camBusy 3 s
  | 0x24 | 0x25 => (List.range 4).any fun q => camBusy q s
  | 0x28 => s.trav.win.isSome
  | 0x3C => lanes48.any fun l => laneSending l s
  | 0x40 => !s.chain.busy.isEmpty
  | 0x48 | 0x49 | 0x4A => !s.dramc.issued.isEmpty
  | 0x50 => cmdsBusy 0x50 s
  | 0x58 | 0x59 => (List.range 8).any fun g => (s.group g).due
  | 0x60 => (List.range 4).any fun a => (s.axis a).st != 0 && (s.axis a).st != 2
  | 0x08 | 0x10 | 0x14 | 0x15 | 0x1C | 0x41 | 0x68 | 0x7E | 0x7F => false
  | _ => if 0x30 ≤ p ∧ p ≤ 0x3B then [0, 1, 2, 3].any fun i => laneSending (4 * (p - 0x30) + i) s else cmdsBusy p s

/-- Work is queued and not started (R34, R442). -/
def workQueued (p : Nat) (s : State) : Bool :=
  match p with
  | 0x08 => s.reg Reg.MBX_FULL != 0
  | 0x10 => !s.intake.queue.isEmpty || s.intake.seq.any (fun q => q.st != .done) || !s.intake.hold.isEmpty
  | 0x11 => (allBands s).any fun b => b.st == .stored || b.st == .inflating
  | 0x14 | 0x15 => (allBands s).any fun b => b.st == .mapping
  | 0x18 | 0x19 => heads32.any fun h => !(s.head h).queue.isEmpty
  | 0x25 => !s.insp.reads.isEmpty
  | 0x28 => !s.trav.wait.isEmpty
  | 0x40 => !s.chain.queue.isEmpty || !s.chain.lq.q.isEmpty
  | 0x41 => !s.eth.lq.q.isEmpty || !s.eth.txq.isEmpty
  | 0x48 | 0x49 | 0x4A => !s.dramc.queue.isEmpty || !s.fab.isEmpty
  | 0x68 => !s.pair.recs.isEmpty
  | 0x7F => !s.dbg.tx.isEmpty
  | _ => false

/-- PAGE_STATUS as it reads (R34): QUIESCED, FAULT, SHADOW_PENDING and FORCED_RESET are stored, the rest follows the block. -/
def pageStatusWord (p : Nat) (s : State) : Word :=
  let busy := unitBusy p s || cmdsBusy p s
  let st := s.reg (Reg.pageStatus p)
  let st := putBit st 0 (!busy && !workQueued p s)
  let st := putBit st 2 busy
  putBit st 6 (s.rb (Reg.pageLock p) 0)

/-! ## Quiesce (R442) -/

/-- PAGE_STATUS.QUIESCED. -/
def quiesced (p : Nat) (s : State) : Bool := s.rb (Reg.pageStatus p) 1

/-- What a quiesce request does to a block beyond holding new work back (R414). -/
def quiesceAct (p : Nat) (s : State) : State :=
  match p with
  | 0x40 => { s with chain := { s.chain with lq := { s.chain.lq with q := [] } } }
  | 0x41 => { s with eth := { s.eth with lq := { s.eth.lq with q := [] } } }
  | 0x50 => each [0, 1] (fun e s => if (s.defl e).stopped then s.setDefl e ⟨none, false, none⟩ else s) s
  | 0x60 => each (List.range 4) axisHalt s
  | _ => s

/-- QUIESCED becomes 1 once no unit of work is in progress; a DEFL job that has stopped OUTFULL by then is discarded (R414). -/
def quiesceCheck (p : Nat) (s : State) : State :=
  if s.quiescing p && !quiesced p s && !unitBusy p s then
    (if p = 0x50 then quiesceAct p s else s).setB (Reg.pageStatus p) 1 true
  else s

/-- QUIESCE_REQ is written 1. -/
def quiesceReq (p : Nat) (s : State) : State :=
  if s.quiescing p then s else quiesceCheck p (quiesceAct p (s.setB (Reg.pageCtrl p) 1 true))

/-- Work that a quiesce held back starts in its usual order. -/
def quiesceStart (p : Nat) (s : State) : State :=
  match p with
  | 0x10 => intakeResume s
  | 0x11 => handOut 32 s
  | 0x18 | 0x19 => each heads32 (fun h s => pumpHead h ((s.head h).queue.length + 2) s) (each lanes48 showTx s)
  | 0x40 => each s.chain.up chainStart s
  | _ => s

/-- QUIESCE_REQ is written 0. -/
def quiesceRelease (p : Nat) (s : State) : State :=
  if s.quiescing p then quiesceStart p ((s.setB (Reg.pageCtrl p) 1 false).setB (Reg.pageStatus p) 1 false) else s

/-! ## ENABLE (R32, R133, R269, R325, R351, R359, R413) -/

/-- The ring lies in populated DRAM and apart from the band store (R133). -/
def ringPlaceOk (s : State) : Bool :=
  let base := s.rf Reg.DELAY_RING_BASE 0 18 * 65536
  let len := ringLines s * lineBytes s
  let store := s.rf Reg.INTAKE_STORE_BASE 0 18 * 65536
  let size := s.rf Reg.INTAKE_STORE_SLOTS 0 11 * 4259840
  decide (base + len ≤ dramBytes s) && (decide (base + len ≤ store) || decide (store + size ≤ base))

/-- A head that is no longer served leaves: its frames are given up and it is neither READY nor SHADOW. -/
def headOff (h : Nat) (s : State) : State :=
  if headInUse h s then s
  else showHead h (dropFrames h (s.setHead h { s.head h with ready := false, shadow := false, telRun := 0, rejoinAt := none }))

/-- Every compare output goes low (R205). -/
def cmpOff (s : State) : State :=
  each (List.range 8) (fun c s =>
    let o := tget Reset.cmp s.web.cmp c
    let s := if cmpHigh c s then emit (.cmp c false) s else s
    { s with web := { s.web with cmp := tset Reset.cmp s.web.cmp c { o with pulse := none, active := false } } }) s

/-- A camera port is off: the frame it receives and its window end. -/
def camOff (p : Nat) (s : State) : State := s.setCam p { s.cam p with win := none, hits := [], cur := none, skipping := false }

/-- A block has been enabled or disabled. -/
def pageSwitched (p : Nat) (on : Bool) (s : State) : State :=
  match p with
  | 0x17 => if on then { s with fire := { s.fire with st := if s.fire.st = 0 then 1 else s.fire.st } } else lineBoundaryNow (fireHalt 0 s)
  | 0x18 | 0x19 => each lanes48 showTx (if on then s else each heads32 headOff s)
  | 0x1C => if on then each (List.range 8) (fun c s => if cmpHigh c s then emit (.cmp c true) s else s) s else cmpOff s
  | 0x20 | 0x21 | 0x22 | 0x23 => if on then s else inspWork (travNoCal (camCommitNow (camOff (p - 0x20) s)))
  | 0x24 | 0x25 => if on then s else camCommitNow s
  | 0x40 =>
    let s := if on then
        { ((s.setReg (Reg.CHAIN_SEEN 0) 0).setReg (Reg.CHAIN_SEEN 1) 0) with
          chain := { s.chain with since := s.now, seenAt := [], lost := [], keepAt := none } }
      else s
    chainLinks (each lanes48 showTx s)
  | 0x41 =>
    let up := s.rb Reg.ETH_STATUS 2
    let s := each lanes48 showTx s
    if on then s
    else
      let s := { s.setReg Reg.ETH_STATUS 0 with eth := { s.eth with ptp := Reset.ptp } }
      if up then raise 0x41 9 s else s
  | 0x58 => if on then s else loopDisable s
  | 0x60 => if on then s else each (List.range 4) axisDisable s
  | 0x68 => pairSync s
  | _ => if 0x30 ≤ p ∧ p ≤ 0x3C then chainLinks (each lanes48 showTx s) else s

/-- ENABLE is written (R32). A block that starts drives its outputs, and their pad hold is released (R413). -/
def enableWrite (p : Nat) (on : Bool) (s : State) : State :=
  if s.rb (Reg.pageCtrl p) 0 == on then s
  else if on && p == 0x16 && !ringPlaceOk s then config 0x16 s
  else
    let s := s.setB (Reg.pageCtrl p) 0 on
    let s := if on && !(s.chip.padFree.contains p) then { s with chip := { s.chip with padFree := p :: s.chip.padFree } } else s
    pageSwitched p on s

/-! ## ABORT (R47) -/

/-- A RESYNC_SUB of which no frame has been sent ends ABORTED (R245). -/
def travAbort (s : State) : State :=
  if s.trav.resync.isSome then cmdAbort 0x28 Reg.TRAV_CMD_STATUS { s with trav := { s.trav with resync := none } }
  else match s.trav.syncs.find? (·.cmd) with
  | none => s
  | some y =>
    let x := s.head y.head
    let subs := x.queue.filter fun c => c.src == .sub
    if y.left ≤ subs.length then
      let gone := subs.length - y.left
      let rest := x.queue.filter fun c => c.src != .sub
      let s := s.setHead y.head { x with queue := (subs.take gone).foldl (fun l c => insertCmd c l) rest }
      let mine := s.trav.inFlight.filter fun f => f.1 == y.head && f.2.isNone
      let drop := min y.left mine.length
      let inFlight := (s.trav.inFlight.filter fun f => !(f.1 == y.head && f.2.isNone)) ++ mine.take (mine.length - drop)
      cmdAbort 0x28 Reg.TRAV_CMD_STATUS { s with trav := { s.trav with syncs := s.trav.syncs.erase y, inFlight := inFlight } }
    else s

/-- An HLINK_HCMD command not yet sent ends ABORTED (R187). -/
def hcmdAbort (s : State) : State :=
  match heads32.find? fun h => (s.head h).queue.any fun c => c.src == .hcmd with
  | some h => cmdAbort 0x18 Reg.HLINK_HCMD_STATUS (s.setHead h { s.head h with queue := (s.head h).queue.filter fun c => c.src != .hcmd })
  | none => s

/-- A QUEUE_FS that waits for its frame start ends ABORTED (R214). -/
def cciAbort (p : Nat) (s : State) : State :=
  match (s.cam p).cci with
  | some r => if r.started then s else cmdAbort (camPage p) (Reg.CAM_CCI_STATUS p) (s.setCam p { s.cam p with cci := none })
  | none => s

/-- A LEARN_OFS that waits for its word ends ABORTED (R208). -/
def learnAbort (s : State) : State :=
  if s.web.stake.learn.isSome then
    cmdAbort 0x1C Reg.WEB_CMD_STATUS { s with web := { s.web with stake := { s.web.stake with learn := none } } }
  else s

/-- A COPY_LIVE whose first word is not copied, or a SWEEP before its first tap, ends ABORTED: when it comes to that point is free
(R119, R309, log entry 59). -/
def longAbort (p a : Nat) (s : State) : State := abortFree a (cmdEnd p a 3 0 0) s

/-- ABORT is written: every command of the page that is before its commit point ends ABORTED (R47). -/
def pageAbort (p : Nat) (s : State) : State :=
  match p with
  | 0x14 => if s.map.op = 2 then mapAbort s else longAbort 0x14 Reg.MAP_CMD_STATUS s
  | 0x15 => longAbort 0x15 Reg.SCREEN_CMD_STATUS s
  | 0x17 => longAbort 0x17 Reg.FIRE_HIST_CMD_STATUS s
  | 0x18 => hcmdAbort s
  | 0x1C => learnAbort s
  | 0x20 | 0x21 | 0x22 | 0x23 => cciAbort (p - 0x20) s
  | 0x24 => longAbort 0x24 Reg.ISP_CMD_STATUS s
  | 0x28 => travAbort s
  | 0x49 => longAbort 0x49 Reg.DRAMTRN_CMD_STATUS s
  | 0x50 => deflAbort 1 (deflAbort 0 s)
  | 0x68 => pairAbort s
  | _ => s

/-! ## RESET_REQ (R33, R414, R415) -/

/-- A block reset of the page is refused (R33, R414). -/
def resetRefused (p : Nat) (s : State) : Bool :=
  match p with
  | 0x00 | 0x01 | 0x02 | 0x04 | 0x05 | 0x03 | 0x42 | 0x09 => true
  | 0x10 | 0x11 | 0x14 | 0x15 | 0x16 | 0x17 | 0x18 | 0x19 | 0x1C | 0x48 | 0x49 | 0x4A => decide (2 ≤ s.fire.st)
  | 0x3C => lanes48.any fun l => laneInUse l s
  | 0x68 => s.pair.role != 0
  | _ => if 0x30 ≤ p ∧ p ≤ 0x3B then [0, 1, 2, 3].any fun i => laneInUse (4 * (p - 0x30) + i) s else false

/-- Lowest page of a page's group. -/
def groupLow (p : Nat) : Nat := (blkGroup p).headD p

/-- RESET_REQ is written. -/
def resetReq (p : Nat) (s : State) : State :=
  if resetRefused p s then errInc 1 1 (config p s)
  else
    let same := fun (r : BlkReset) => blkGroup r.page == blkGroup p
    if s.chip.pend.any same || (s.chip.run.any same) then s
    else { s with chip := { s.chip with pend := s.chip.pend ++ [⟨groupLow p, p, s.now, false, none⟩] } }

end Sys2Proof.Machine
end

