-- ==== Sys2Proof/Machine/CmdOps.lean ====
section
/-! DEFINITION. What a word written to a command register starts (R46, R47): one operation per command, shared by the command's
own row and by a plain register write, and one reading of each command word. -/
namespace Sys2Proof.Machine

/-! ## WEB (R195, R202, R204, R207, R208) -/

/-- ARM_INDEX0 and ARM_INDEX1 (R195). -/
def webArm (e : Nat) (s : State) : State :=
  cmdGateSet 0x1C Reg.WEB_CMD_STATUS (fun s => cmdDone 0x1C Reg.WEB_CMD_STATUS (s.setEnc e { s.enc e with armed := true })) s

/-- LOAD (R208): the value is applied at this sample. -/
def webLoad (e : Nat) (s : State) : State :=
  cmdGateSet 0x1C Reg.WEB_CMD_STATUS (fun s =>
    if e = 0 ∧ 2 ≤ s.fire.st then cmdError 0x1C Reg.WEB_CMD_STATUS 0x81 s
    else
      let v := (s.reg Reg.WEB_LOAD_VAL).toNat
      let s := s.setEnc e (encJump v s.timeNs64 (s.enc e))
      let s := if e = 1 then cmpSkip true v s else if s.web.src = .enc then cmpSkip false v s else s
      cmdDone 0x1C Reg.WEB_CMD_STATUS s) s

/-- LEARN_OFS (R202, R208). -/
def webLearn (s : State) : State :=
  cmdGateSet 0x1C Reg.WEB_CMD_STATUS (fun s =>
    if s.web.enc0.faulty then cmdError 0x1C Reg.WEB_CMD_STATUS 0x80 s
    else cmdStart Reg.WEB_CMD_STATUS { s with web := { s.web with stake := { s.web.stake with learn := some s.now } } }) s

/-- ENC_RESUME (R202, R208). -/
def webResume (s : State) : State :=
  cmdGateSet 0x1C Reg.WEB_CMD_STATUS (fun s => cmdDone 0x1C Reg.WEB_CMD_STATUS (encResume s)) s

/-- CMP_RESTART (R204): each output of the mask latches the entry its WEB_CMP_CFG names. -/
def webRestart (mask : Nat) (s : State) : State :=
  cmdGateSet 0x1C Reg.WEB_CMD_STATUS (fun s =>
    cmdDone 0x1C Reg.WEB_CMD_STATUS
      (each (List.range 8) (fun c s => if mask / 2 ^ c % 2 = 1 then cmpLatch c (s.rf (Reg.WEB_CMP_CFG c) 8 9) s else s) s)) s

/-- A word written to WEB_CMD. -/
def webCmd (w : Word) (s : State) : State :=
  match fld w 0 4 with
  | 1 => webArm 0 s
  | 2 => webArm 1 s
  | 3 => webLoad (fld w 4 1) s
  | 4 => webLearn s
  | 5 => webResume s
  | 6 => webRestart (fld w 8 8) s
  | _ => config 0x1C s

/-! ## HLINK (R186, R188) -/

/-- The parameter bytes of HLINK_HCMD_PARAM. -/
def hcmdParams (n : Nat) (s : State) : List Byte :=
  ((List.range ((n + 3) / 4)).flatMap fun w => beBytes 4 (s.reg (Reg.HLINK_HCMD_PARAM w)).toNat).take n

/-- HLINK_HCMD: a command to a head. -/
def hlinkCmd (w : Word) (s : State) : State :=
  cmdGate 0x18 Reg.HLINK_HCMD_STATUS (fun s =>
    if 1024 < fld w 16 11 then cmdError 0x18 Reg.HLINK_HCMD_STATUS 1 s
    else headCommand (fld w 0 5) ⟨.hcmd, fld w 8 8, hcmdParams (fld w 16 11) s⟩ (cmdStart Reg.HLINK_HCMD_STATUS s)) s

/-- HLINK_REJOIN (R186): each head named, in use and not held, is sent its FLUSH; one that is neither READY nor SHADOW rejoins by
it (log entry 66). -/
def hlinkRejoin (w : Word) (s : State) : State :=
  each heads32 (fun h s =>
    if bit w h && headInUse h s && !holdSet h s then (if headUp h s then flushHead h s else rejoin h s) else s) s

/-! ## FIRE (R147, R160, FIRE states) -/

/-- START. -/
def fireCmdStart (s : State) : State := cmdGate 0x17 Reg.FIRE_CMD_STATUS fireStart s
/-- STOP. -/
def fireCmdStop (s : State) : State := cmdGate 0x17 Reg.FIRE_CMD_STATUS (fun s => lineBoundaryNow (fireStop s)) s
/-- RESUME. -/
def fireCmdResume (s : State) : State := cmdGate 0x17 Reg.FIRE_CMD_STATUS fireResume s

/-- A word written to FIRE_CMD. -/
def fireCmd (w : Word) (s : State) : State :=
  match fld w 0 4 with
  | 1 => fireCmdStart s
  | 2 => fireCmdStop s
  | 3 => fireCmdResume s
  | _ => config 0x17 s

/-- COPY_LIVE of the history tables starts (R119, R143): its commit point is the first word copied, at once. -/
def histCmdCopy (s : State) : State :=
  cmdGateSet 0x17 Reg.FIRE_HIST_CMD_STATUS (fun s =>
    if s.shadowPending 0x17 then cmdError 0x17 Reg.FIRE_HIST_CMD_STATUS 1 s else cmdStart Reg.FIRE_HIST_CMD_STATUS s) s

/-- A word written to FIRE_HIST_CMD. -/
def histCmd (w : Word) (s : State) : State := if fld w 0 4 = 1 then histCmdCopy s else config 0x17 s

/-- COPY_LIVE of the history tables completes. -/
def histCopyDone (s : State) : State :=
  if s.cmdBusy Reg.FIRE_HIST_CMD_STATUS then
    let live := s.rf Reg.FIRE_HIST_BANK 0 1
    let src := Reg.HIST live 0 0
    let dst := Reg.HIST (1 - live) 0 0
    cmdDone 0x17 Reg.FIRE_HIST_CMD_STATUS (copyBank src dst 0x2000 s)
  else s

/-! ## TRAV (R249) -/

/-- A TRAV command that commits at its write. -/
def travCmdNow (f : State → State) (s : State) : State :=
  cmdGate 0x28 Reg.TRAV_CMD_STATUS (fun s => cmdDone 0x28 Reg.TRAV_CMD_STATUS (f s)) s

/-- FREEZE. -/
def travFreeze (s : State) : State := travCmdNow (fun s => { s with trav := { s.trav with frozen := true } }) s
/-- THAW. -/
def travThaw (s : State) : State := travCmdNow (fun s => { s with trav := { s.trav with frozen := false } }) s
/-- SPLICE (R238). -/
def travSplice (s : State) : State := travCmdNow (fun s => spliceMark (srcX s) s) s

/-- The nozzles of RESET_STATE and UNMISS: first and count, none where they leave the numbering. -/
def travRange (s : State) : Option (Nat × Nat) :=
  let f := s.rf Reg.TRAV_CMD_FIRST 0 17
  let n := s.rf Reg.TRAV_CMD_COUNT 0 18
  if f + n ≤ 131072 then some (f, n) else none

/-- RESET_STATE (R247, R249). -/
def travResetState (s : State) : State :=
  cmdGate 0x28 Reg.TRAV_CMD_STATUS (fun s =>
    match travRange s with
    | none => cmdError 0x28 Reg.TRAV_CMD_STATUS 1 s
    | some (f, n) =>
      cmdDone 0x28 Reg.TRAV_CMD_STATUS (travReset false (fun i => decide (f ≤ i) && decide (i < f + n) && !noCal i s) s)) s

/-- UNMISS (R247, R249): the staged mark of every MISSING nozzle of the range goes, and the nozzle waits for it to go live. -/
def travUnmiss (s : State) : State :=
  cmdGate 0x28 Reg.TRAV_CMD_STATUS (fun s =>
    match travRange s with
    | none => cmdError 0x28 Reg.TRAV_CMD_STATUS 1 s
    | some (f, n) =>
      if s.rb Reg.MAP_TRIM_CTRL 0 then cmdError 0x28 Reg.TRAV_CMD_STATUS 0x80 s
      else
        let hit := s.trav.noz.filter fun e => decide (f ≤ e.1) && decide (e.1 < f + n) && e.2.st == 4 && !noCal e.1 s
        cmdDone 0x28 Reg.TRAV_CMD_STATUS (each hit (fun e s =>
          let s := trimStage e.1 (putBit (mget noTrim s.map.trimStaged e.1) 16 false) s
          s.setNoz e.1 { e.2 with st := 3, trimWait := true, mark := false }) s)) s

/-- RESYNC_SUB (R245, R249). -/
def travResync (h : Nat) (s : State) : State :=
  cmdGate 0x28 Reg.TRAV_CMD_STATUS (fun s =>
    if !(s.head h).ready then cmdError 0x28 Reg.TRAV_CMD_STATUS 0x81 s
    else resyncDue (cmdStart Reg.TRAV_CMD_STATUS { s with trav := { s.trav with resync := some h } })) s

/-- A word written to TRAV_CMD. -/
def travCmd (w : Word) (s : State) : State :=
  match fld w 0 4 with
  | 1 => travFreeze s
  | 2 => travThaw s
  | 3 => travResetState s
  | 4 => travUnmiss s
  | 5 => travSplice s
  | 6 => travResync (fld w 8 5) s
  | _ => config 0x28 s

/-! ## Cameras and ISP (R214, R223) -/

/-- A CCI command starts: QUEUE_FS waits for the next frame start, the others start at once (R214). -/
def cciCmd (p op arg : Nat) (s : State) : State :=
  cmdGate (camPage p) (Reg.CAM_CCI_STATUS p) (fun s =>
    cmdStart (Reg.CAM_CCI_STATUS p) (s.setCam p { s.cam p with cci := some ⟨op, arg, op != 1, s.now⟩ })) s

/-- A word written to CAM_CCI_CMD. -/
def cciWrite (p : Nat) (w : Word) (s : State) : State :=
  match fld w 0 4 with
  | 1 => cciCmd p 1 (fld w 8 8) s
  | 2 => cciCmd p 2 0 s
  | 3 => cciCmd p 3 (fld w 16 16) s
  | _ => config (camPage p) s

/-- COPY_LIVE of the camera tables starts (R119, R223). -/
def ispCopy (mask : Nat) (s : State) : State :=
  cmdGateSet 0x24 Reg.ISP_CMD_STATUS (fun s =>
    if s.shadowPending 0x24 then cmdError 0x24 Reg.ISP_CMD_STATUS 1 s
    else cmdStart Reg.ISP_CMD_STATUS { s with insp := { s.insp with mask := mask } }) s

/-- A word written to ISP_CMD. -/
def ispCmd (w : Word) (s : State) : State := if fld w 0 4 = 1 then ispCopy (fld w 8 4) s else config 0x24 s

/-- COPY_LIVE of the camera tables completes. -/
def ispCopyDone (s : State) : State :=
  if s.cmdBusy Reg.ISP_CMD_STATUS then
    let s := each (List.range 4) (fun p s =>
      if s.insp.mask / 2 ^ p % 2 = 1 then
        let live := camBank p s
        copyBank (Reg.CAM_TABLE p live 0) (Reg.CAM_TABLE p (1 - live) 0) 0x8000 s
      else s) s
    cmdDone 0x24 Reg.ISP_CMD_STATUS s
  else s

/-! ## TIME and DRAMTRN (R286, R308, R309) -/

/-- STEP (R286). -/
def timeCmdStep (s : State) : State :=
  cmdGate 0x42 Reg.TIME_CMD_STATUS (fun s =>
    if 2 ≤ s.fire.st then cmdError 0x42 Reg.TIME_CMD_STATUS 0x80 s else timeStep s) s

/-- A word written to TIME_CMD. -/
def timeCmd (w : Word) (s : State) : State := if fld w 0 4 = 1 then timeCmdStep s else config 0x42 s

/-- A word written to TIME_OFS_IN: an offset for the servo, with SRC 2 (R284, R285). -/
def timeOfsIn (w : Word) (s : State) : State :=
  if s.rf Reg.TIME_CTRL 0 2 = 2 then servo (sgn 32 w.toNat) s else s

/-- A DRAMTRN command. -/
def trnGate (f : State → State) (s : State) : State := cmdGate 0x49 Reg.DRAMTRN_CMD_STATUS f s

/-- MRW (R308): the mode register of a channel-rank is written. -/
def trnMrw (w : Word) (s : State) : State :=
  trnGate (fun s =>
    if dramReady s then cmdError 0x49 Reg.DRAMTRN_CMD_STATUS 0x80 s
    else cmdDone 0x49 Reg.DRAMTRN_CMD_STATUS
      (emit (.mrw (fld w 4 2) (fld w 6 1) (s.rf Reg.DRAMTRN_MR 0 7) (s.rf Reg.DRAMTRN_MR 8 8)) s)) s

/-- MRR (R308): the mode register of a channel-rank is read; `mr` is what the device answers. -/
def trnMrr (mr : Nat) (s : State) : State :=
  trnGate (fun s =>
    if dramReady s then cmdError 0x49 Reg.DRAMTRN_CMD_STATUS 0x80 s
    else cmdDone 0x49 Reg.DRAMTRN_CMD_STATUS (s.setReg Reg.DRAMTRN_MRR (W (mr % 256)))) s

/-- A word written to DRAMTRN_CMD. An MRR reached by a burst has no device answer, which is then free (log entry 4). -/
def trnCmd (w : Word) (s : State) : State :=
  match fld w 0 4 with
  | 1 => trnGate (dramSweep w) s
  | 2 => trnMrw w s
  | 3 => let f := s.freeW; trnMrr (f.1.toNat % 256) f.2
  | 4 => trnGate dramFinish s
  | 5 => trnGate dramRetrain s
  | _ => config 0x49 s

/-! ## The other blocks -/

/-- CANCEL_JOB (R104). -/
def intakeCancel (job : Nat) (s : State) : State := intakeRemove (fun d => d.job == job) (fun d => d.job == job) s
/-- CLEAR_QUEUE (R104). -/
def intakeClear (s : State) : State := intakeRemove (fun _ => true) (fun _ => false) s

/-- A word written to INTAKE_CMD. -/
def intakeCmd (w : Word) (s : State) : State :=
  match fld w 0 4 with
  | 1 => intakeCancel (fld w 16 16) s
  | 2 => intakeClear s
  | _ => config 0x10 s

/-- A word written to MAP_CMD. -/
def mapCmdWrite (w : Word) (s : State) : State :=
  if fld w 0 4 = 1 ∨ fld w 0 4 = 2 then mapCmd (fld w 0 4) s else config 0x14 s

/-- A word written to SCREEN_CMD. -/
def screenCmdWrite (w : Word) (s : State) : State := if fld w 0 4 = 1 then screenCmd s else config 0x15 s

/-- START of a DEFLATE engine (R314). -/
def deflCmdStart (svc : Bool) (e : Nat) (s : State) : State := cmdGate 0x50 (Reg.DEFL_E_STATUS e) (deflStart svc e) s
/-- RESUME of a DEFLATE engine (R321). -/
def deflCmdResume (svc : Bool) (e : Nat) (s : State) : State := cmdGate 0x50 (Reg.DEFL_E_STATUS e) (deflResume svc e) s

/-- A word written to DEFL_E_CMD. -/
def deflCmd (svc : Bool) (e : Nat) (w : Word) (s : State) : State :=
  match fld w 0 4 with
  | 1 => deflCmdStart svc e s
  | 2 => deflCmdResume svc e s
  | _ => config 0x50 s

/-- LOOPCAP commands. -/
def capCmdArm (g : Nat) (s : State) : State := cmdGate 0x59 Reg.LOOPCAP_CMD_STATUS (capArm g) s
def capCmdTrigger (g : Nat) (s : State) : State := cmdGate 0x59 Reg.LOOPCAP_CMD_STATUS (capTrigger g) s
def capCmdStop (g : Nat) (s : State) : State := cmdGate 0x59 Reg.LOOPCAP_CMD_STATUS (capStop g) s

/-- A word written to LOOPCAP_CMD. -/
def capCmd (w : Word) (s : State) : State :=
  match fld w 0 4 with
  | 1 => capCmdArm (fld w 4 3) s
  | 2 => capCmdTrigger (fld w 4 3) s
  | 3 => capCmdStop (fld w 4 3) s
  | _ => config 0x59 s

/-- A word written to MOTION_CMD(a). -/
def motionCmd (a : Nat) (w : Word) (s : State) : State :=
  match fld w 0 4 with
  | 1 => axisMove a s
  | 2 => axisSpeed a s
  | 3 => axisHome a s
  | _ => config 0x60 s

/-- MOTION_STOP.STOP (R350): the pulses stop at once. -/
def motionStop (a : Nat) (s : State) : State := if s.enabled 0x60 then axisStopWrite a s else s
/-- MOTION_STOP.HALT (R350). -/
def motionHalt (a : Nat) (s : State) : State := if s.enabled 0x60 then axisHalt a s else s

/-- A word written to MOTION_STOP(a): STOP goes before HALT. -/
def motionStopWrite (a : Nat) (w : Word) (s : State) : State :=
  let s := if bit w 0 then motionStop a s else s
  if bit w 1 then motionHalt a s else s

/-- A word written to MOTION_STATE(a): DRV_EN is its only writable field (R351). -/
def motionStateWrite (a : Nat) (w : Word) (s : State) : State :=
  if bit w 5 == (s.axis a).drvEn then s else if bit w 5 then axisEnable a s else axisDisable a s

/-- A word written to PAIR_CMD. -/
def pairCmdWrite (w : Word) (s : State) : State :=
  match fld w 0 4 with
  | 1 => pairJoin s
  | 2 => pairTake (bit w 4) s
  | 3 => pairDetachCmd s
  | 4 => pairYield s
  | _ => config 0x68 s

/-- A word written to SVC_CMD. -/
def svcCmdWrite (w : Word) (s : State) : State := if fld w 0 4 = 1 then svcRestart (fld w 4 2) s else config 9 s

end Sys2Proof.Machine
end

