-- ==== Sys2Proof/Machine/ReadOps.lean ====
section
/-! DEFINITION. What a read of a register returns (R8, R31, R42, R43): stored words, views of the blocks behind the registers,
wide counters and the latches of the access paths. -/
namespace Sys2Proof.Machine

/-! ## Events (R35, R36, R39) -/

/-- Highest event bit of a page (R35 and the event tables of the chapters). -/
def evtTop (p : Nat) : Nat :=
  match p with
  | 0x00 => 6 | 0x01 => 9 | 0x02 => 9 | 0x03 => 14 | 0x04 => 8 | 0x05 => 6 | 0x08 => 10 | 0x09 => 11
  | 0x10 => 14 | 0x11 => 9 | 0x14 => 10 | 0x15 => 8 | 0x16 => 10 | 0x17 => 15 | 0x18 => 14 | 0x19 => 6 | 0x1C => 22
  | 0x20 => 17 | 0x21 => 17 | 0x22 => 17 | 0x23 => 17 | 0x24 => 8 | 0x25 => 9 | 0x28 => 14
  | 0x3C => 6 | 0x40 => 12 | 0x41 => 10 | 0x42 => 11 | 0x48 => 12 | 0x49 => 6 | 0x4A => 9 | 0x50 => 10
  | 0x58 => 12 | 0x59 => 9 | 0x60 => 12 | 0x68 => 14 | 0x70 => 6 | 0x7E => 8 | 0x7F => 9
  | _ => if 0x30 ≤ p ∧ p ≤ 0x3B then 14 else 6

/-- The event bits of a page: bit 7 is reserved (R35). -/
def evtMask (p : Nat) : Word := W (2 ^ (evtTop p + 1) - 1) &&& W 0xFFFFFF7F

/-- The pending bits of a page (R36). -/
def evtPending (p : Nat) (s : State) : Word := s.reg (Reg.evtStatus p) &&& s.reg (Reg.evtEnable p)

/-- The page has a pending event routed to IRQ_N[n] (R36, R37). -/
def pinPends (n p : Nat) (s : State) : Bool := evtPending p s != 0 && s.rb (Reg.evtRoute p) n

/-- IRQ_PIN_PEND(n, w) (R39). -/
def pinPendWord (n w : Nat) (s : State) : Word :=
  W (ofBits ((List.range 32).map fun b => 32 * w + b ∈ pages && pinPends n (32 * w + b) s))

/-- IRQ_N[n] is asserted (R37, R39). -/
def irqLevel (n : Nat) (s : State) : Bool :=
  s.rb Reg.IRQ_PIN_CTRL (4 + n) || (s.rb Reg.IRQ_PIN_CTRL n && pages.any fun p => pinPends n p s)

/-- The page has a pending event that goes to the service firmware (R36). -/
def svcPends (p : Nat) (s : State) : Bool := evtPending p s != 0 && s.rb (Reg.evtRoute p) 4

/-- IRQ_N takes its levels (R37), and the service firmware sees the pages whose pending events are routed to it (R36). While the
pages are in reset the pins are released (R412). -/
def irqShow (s : State) : State :=
  { s with irqN := (List.range 4).map fun n => decide (2 ≤ s.chip.rel) && irqLevel n s
           svcEvt := pages.filter fun p => decide (4 ≤ s.chip.rel) && svcPends p s }

/-! ## Views by page -/

/-- The factory defaults encoded in the option block's layout, with CHECK 0 (R408, R417). -/
def factoryBlock : List Byte :=
  beBytes 4 0x534B4F42 ++ [1, 0, 0, 0] ++ beBytes 4 0x0000311F ++ beBytes 4 0 ++ [0x3F] ++ List.replicate 239 0

/-- The option block in force (R417). -/
def optBlock (s : State) : List Byte := if s.chip.opt.defaulted then factoryBlock else s.chip.opt.block

/-- Byte groups of four, most significant first. -/
def beWord (l : List Byte) (w : Nat) : Word := W (beAt l (4 * w) 4)

/-- SYS_UPTIME in µs (R57). -/
def uptime (s : State) : Nat := (s.now - s.chip.upSince) / 1000

/-- Registers of SYS, RST, OPT, PACE, FAB and IRQ that show more than a stored word (R39, R57, R76, R403, R417). -/
def viewSys (p o : Nat) (s : State) : Option Word :=
  match p with
  | 0x00 =>
    if o = 0x050 then some (W (s.chip.cause + 4 * s.chip.cold.toNat + 8 * s.chip.optCut.toNat))
    else if o = 0x054 then some (W s.chip.resets)
    else if o = 0x058 then some (W s.chip.straps)
    else none
  | 0x02 =>
    let x := s.chip.opt
    if o = 0x040 then some (W (x.valid.toNat + 2 * x.defaulted.toNat + 4 * x.otpValid.toNat + 8 * s.chip.loading.toNat + 16 * x.fail))
    else if o = 0x044 then some (W x.check)
    else if o = 0x048 then some (W x.calcCrc)
    else if o = 0x04C ∨ o = 0x050 then some (beWord s.chip.otp.serial ((o - 0x04C) / 4))
    else if 0x060 ≤ o ∧ o < 0x080 then some (beWord x.keyHash ((o - 0x060) / 4))
    else if 0x080 ≤ o ∧ o < 0x180 then some (beWord (optBlock s) ((o - 0x080) / 4))
    else none
  | 0x03 => if o = 0x050 then some (W (vmin s)) else none
  | 0x05 =>
    if 0x040 ≤ o ∧ o < 0x080 then some (pinPendWord ((o - 0x040) / 0x10) ((o - 0x040) % 0x10 / 4) s) else none
  | _ => none

/-- Registers of INTAKE and INFL (R103, R105). -/
def viewIntake (p o : Nat) (s : State) : Option Word :=
  let c := currentPage s
  if p = 0x10 then
    match o with
    | 0x04C => some (W (storeFree s))
    | 0x050 => some (intakeSeqWord s)
    | 0x054 => some (W c.2.2.1)
    | 0x058 => some (W c.2.2.2)
    | 0x05C => some (W (s.intake.queue.length + 65536 * (256 - s.intake.queue.length)))
    | 0x080 => some (W s.intake.fails.length)
    | _ =>
      if 0x084 ≤ o ∧ o ≤ 0x094 then
        match s.intake.fails with
        | [] => some 0
        | f :: _ =>
          some (W (if o = 0x084 then f.band + 65536 * f.job else if o = 0x088 then f.page
            else if o = 0x08C then f.first % 2 ^ 24 + 2 ^ 24 * f.lines
            else if o = 0x090 then f.reason + 16 * f.blanked.toNat + 256 * f.strip else f.time))
      else none
  else if o = 0x044 then some (W (inflActive s))
  else if 0x080 ≤ o ∧ o < 0x880 ∧ o % 0x80 = 0 then some (engWord (o / 0x80 - 1) s)
  else none

/-- Registers of DELAY, FIRE, HLINK, HEADS, WEB and PAIR (R159, R160, R188, R189, R207, R370). -/
def viewFire (p o : Nat) (s : State) : Option Word :=
  match p with
  | 0x16 =>
    if o = 0x048 then some (W (ringLines s * lineBytes s / 1024))
    else if o = 0x04C then some (W (delayRowMax s))
    else if o = 0x050 then some (W (inspLines s))
    else none
  | 0x17 =>
    match o with
    | 0x044 => some (W (den s))
    | 0x060 => some (fireStateWord s)
    | 0x064 => some (W (s.fire.bench / den s))
    | 0x068 => some (W (s.fire.bench % den s))
    | 0x06C => some (fireDeficit s)
    | 0x070 => some (W ((s.fire.lastCom.map (·.1)).getD 0))
    | 0x07C => some (tapcalWord s)
    | _ => none
  | 0x18 => if o = 0x050 then some (W (claim s)) else none
  | 0x19 =>
    let h := (o - 0x40) / 0x40
    if o < 0x040 ∨ 0x840 ≤ o then none
    else if o % 0x40 = 0x14 then some (putBit (s.reg (pg p o)) 31 (telOk h s))
    else if o % 0x40 = 0x30 then
      some (W (match (s.head h).telAt with
        | some t => min 0xFFFF ((s.now - t) / 1000)
        | none => 0xFFFF))
    else none
  | 0x1C =>
    if o = 0x078 then some (webStateWord s)
    else if o = 0x080 then some (W (srcX s))
    else if 0x0A0 ≤ o ∧ o < 0x0E0 then
      let x := s.enc ((o - 0x0A0) / 0x20)
      match (o - 0x0A0) % 0x20 with
      | 0x00 => some (W x.cnt)
      | 0x04 => some (W x.edgeT)
      | 0x08 => some (W (if x.valid then x.tCount else 0))
      | 0x0C => some (W (wrapN 32 (if x.valid then speedOf (x.dir == 1) x.tCount else 0)))
      | _ => none
    else if o = 0x0EC then
      some (W (match s.web.stake.at_ with
        | some t => min 0xFFFF ((s.now - t) / 1000)
        | none => 0xFFFF))
    else if 0x100 ≤ o ∧ o < 0x180 then
      let c := tget Reset.cmp s.web.cmp ((o - 0x100) / 0x10)
      if o % 0x10 = 4 then some (W (c.entry + 65536 * c.left))
      else if o % 0x10 = 8 then some (W c.next)
      else none
    else none
  | 0x68 => if o = 0x050 then some (pairStateWord s) else none
  | _ => none

/-- Registers of MAP, CAM, INSPECT and TRAV (R128, R230, R232, R248); SCREEN and ISP show their stored words (R129, R231). -/
def viewCam (p o : Nat) (s : State) : Option Word :=
  if p = 0x14 then
    if o = 0x060 then some (W (mapMissingCount s)) else if o = 0x06C then some (W (mapPxMax s)) else none
  else if p = 0x25 then
    if o = 0x070 then some (W s.insp.reports.length)
    else if 0x074 ≤ o ∧ o ≤ 0x098 then
      match s.insp.reports with
      | [] => some 0
      | r :: _ => some (at' 0 r ((o - 0x074) / 4))
    else none
  else if p = 0x28 then
    if o = 0x080 then some (travStatusWord s)
    else if o = 0x0A4 then some (nozStateWord (s.rf Reg.TRAV_NOZ_ADDR 0 17) s)
    else none
  else if p < 0x20 ∨ 0x24 ≤ p then none
  else
    let x := s.cam (p - 0x20)
    if o = 0x070 then
      let busy := match x.cci with
        | some r => if r.op = 1 then r.arg else 0
        | none => 0
      some (W (x.setId + 256 * (x.stamp.2 || x.failed).toNat + 65536 * busy))
    else if o = 0x080 then some (at' 0 x.stats 0)
    else none

/-- Registers of LANEQ, LANE, CHAIN, ETH and TIME (R266, R267, R289 to R292). -/
def viewNet (p o : Nat) (s : State) : Option Word :=
  if 0x30 ≤ p ∧ p ≤ 0x3B then
    let l := 4 * (p - 0x30) + (o - 0x100) / 0x80
    if o < 0x100 ∨ 0x300 ≤ o then none
    else match (o - 0x100) % 0x80 with
      | 0x10 => some (laneStatusWord l s)
      | 0x14 => some (W (s.lane l).ctle)
      | 0x18 => some (W (s.lane l).dfe)
      | _ => none
  else if p = 0x3C then
    match o with
    | 0x040 => some (laneLockWord 0 s)
    | 0x044 => some (laneLockWord 1 s)
    | 0x050 => some (laneRoleCount s)
    | _ => none
  else if p = 0x42 then
    match o with
    | 0x044 => some (W s.timeNs)
    | 0x04C => some (W (wrapN 32 s.time.rate))
    | 0x06C => some (timeStatusWord s)
    | _ => none
  else if 0x0D0 ≤ o ∧ o ≤ 0x0D8 then some (lqWord (p == 0x41) ((o - 0x0C0) / 4) s)
  else if p = 0x40 ∧ (o = 0x06C ∨ o = 0x070) then
    some (W (ofBits ((List.range 32).map fun i => (32 * ((o - 0x06C) / 4) + i) ∈ s.chain.up)))
  else none

/-- Registers of DRAM, DRAMTRN, DRAMQOS, LOOP, MOTION, GPIO and DEBUG (R310 to R312, R343, R355, R435, R437). -/
def viewRest (p o : Nat) (s : State) : Option Word :=
  match p with
  | 0x48 =>
    if o = 0x044 then some (W ((dramReady s).toNat + 2 * (s.cmdBusy Reg.DRAMTRN_CMD_STATUS).toNat))
    else if 0x068 ≤ o ∧ o < 0x088 then some (dramEyeWord ((o - 0x068) / 4) s)
    else none
  | 0x49 =>
    if 0x100 ≤ o ∧ o < 0x180 ∧ o % 0x10 = 4 ∧ dramReady s then
      let k := (o - 0x100) / 0x10
      some (W ((tget Reset.eye s.dramc.eyes (2 * k)).delay + 256 * (tget Reset.eye s.dramc.eyes (2 * k + 1)).delay))
    else none
  | 0x4A =>
    match o with
    | 0x040 => some (W (qosCap s))
    | 0x048 => some (W (qosDemand s))
    | 0x04C => some (W (qosResv (fun q => qosRate q s)))
    | _ => none
  | 0x58 =>
    if o = 0x044 then some (loopMon o s)
    else if o = 0x07C then some (W (loopBudget s))
    else none
  | 0x60 => if 0x100 ≤ o ∧ o < 0x300 then motionView ((o - 0x100) / 0x80) ((o - 0x100) % 0x80) s else none
  | 0x7E =>
    if o = 0x064 then
      let cue := if s.rb Reg.INTAKE_CTRL 1 then 2 ^ s.lf Reg.INTAKE_CTRL 8 4 else 0
      let spl := if s.lb Reg.TRAV_CTRL 4 then 2 ^ s.lf Reg.TRAV_CTRL 8 4 else 0
      some (W cue ||| W spl)
    else none
  | 0x7F => if o = 0x044 then some (W (s.dbg.tx.length + 256 * s.dbg.rx.length)) else none
  | _ => none

/-- A register that shows more than a stored word. -/
def viewWord (p o : Nat) (s : State) : Option Word :=
  if o = 0x008 then some (pageStatusWord p s)
  else if o < 0x040 then none
  else if p < 0x08 then viewSys p o s
  else if p = 0x10 ∨ p = 0x11 then viewIntake p o s
  else if (0x16 ≤ p ∧ p ≤ 0x1C) ∨ p = 0x68 then viewFire p o s
  else if 0x14 ≤ p ∧ p ≤ 0x28 then viewCam p o s
  else if 0x30 ≤ p ∧ p ≤ 0x42 then viewNet p o s
  else if p = 0x70 then (if o = 0x040 then some (tallyWord o s.tally) else none)
  else viewRest p o s

/-! ## Latches (R42, R199, R230, R283, R343, R385) -/

/-- The low words of the wide counters (R42). -/
def wideLow (p o : Nat) : Bool :=
  (p == 0x00 && o == 0x048) || (p == 0x10 && o == 0x078) || (p == 0x11 && o == 0x048) ||
  (p == 0x48 && (o == 0x08C || o == 0x094)) || (p == 0x50 && (o == 0x040 || o == 0x048)) ||
  (decide (0x30 ≤ p) && decide (p ≤ 0x3B) && decide (0x100 ≤ o) && decide (o < 0x300) && (o - 0x100) % 0x80 == 0x30)

/-- Low and upper word of a wide counter. -/
def wideWords (p o : Nat) (s : State) : Word × Word :=
  if p = 0x00 then (W (uptime s), W (uptime s / 2 ^ 32 % 2 ^ 16))
  else if 0x30 ≤ p ∧ p ≤ 0x3B then
    let n := prbsBits (4 * (p - 0x30) + (o - 0x100) / 0x80) s
    (W n, W (n / 2 ^ 32 % 2 ^ 16))
  else (s.reg (pg p o), s.reg (pg p (o + 4)))

/-- A word that always reads its path's snapshot. -/
def snapReg (p o : Nat) : Bool :=
  (p == 0x1C && decide (0x084 ≤ o) && decide (o ≤ 0x08C)) ||
  (p == 0x42 && (o == 0x048 || (decide (0x080 ≤ o) && decide (o ≤ 0x08C)))) ||
  (decide (0x20 ≤ p) && decide (p ≤ 0x23) && decide (0x084 ≤ o) && decide (o ≤ 0x094)) ||
  (p == 0x58 && decide (0x048 ≤ o) && decide (o ≤ 0x050)) ||
  (p == 0x70 && decide (0x044 ≤ o))

/-- A read of ENC_POS latches WEB_X_TIME, WEB_T_COUNT and WEB_SPEED (R199). -/
def encLatch (q : Path) (s : State) : State :=
  let s' := snapPut q Reg.WEB_X_TIME (W (wrapN 32 (srcT s))) (snapPut q Reg.WEB_T_COUNT (W (srcTc s)) s)
  snapPut q Reg.WEB_SPEED (W (wrapN 32 (speedOf (srcFwd s) (srcTc s)))) s'

/-- A read of TIME_NS latches TIME_WRAP and the applied epoch (R283). -/
def timeLatch (q : Path) (s : State) : State :=
  let s' := snapPut q Reg.TIME_WRAP (W (timeWrap s)) s
  each (List.range 4) (fun i s => snapPut q (Reg.TIME_EPOCH_NS + 4 * i) (at' 0 s.time.epoch i) s) s'

/-- A read of CAM_FSTAT_NO latches the statistics of the frame (R230). -/
def fstatLatch (q : Path) (p : Nat) (s : State) : State :=
  each [1, 2, 3, 4, 5] (fun k s => snapPut q (Reg.CAM_FSTAT p k) (at' 0 (s.cam p).stats k) s) s

/-- A read of LOOP_MON_Y latches the other three words (R343). -/
def monLatch (q : Path) (s : State) : State :=
  each [0x048, 0x04C, 0x050] (fun o s => snapPut q (pg 0x58 o) (loopMon o s) s) s

/-- What else a read does: the latch it takes. -/
def readLatch (q : Path) (p o : Nat) (s : State) : State :=
  if p = 0x1C ∧ o = 0x080 then encLatch q s
  else if p = 0x42 ∧ o = 0x044 then timeLatch q s
  else if 0x20 ≤ p ∧ p ≤ 0x23 ∧ o = 0x080 then fstatLatch q (p - 0x20) s
  else if p = 0x58 ∧ o = 0x044 then monLatch q s
  else if p = 0x70 ∧ o = 0x040 then tallyLatch q s
  else s

/-! ## Reads that change the block -/

/-- TRAV_NOZ_ADDR steps on (R248). -/
def nozNext (s : State) : State := s.setF Reg.TRAV_NOZ_ADDR 0 17 (s.rf Reg.TRAV_NOZ_ADDR 0 17 + 1)

/-- A read of TRAV_NOZ_EST (R248). -/
def nozEstRead (s : State) : Word × State :=
  let x := s.noz (s.rf Reg.TRAV_NOZ_ADDR 0 17)
  (W (x.lastG % 65536 + 65536 * wrapN 16 x.lastD), nozNext s)

/-- A read of TRAV_SUB_DATA (R245). -/
def subDataRead (s : State) : Word × State := (W (s.noz (s.rf Reg.TRAV_NOZ_ADDR 0 17)).sub, nozNext s)

/-- A read of DEBUG_UART_RX (R438). -/
def uartRead (s : State) : Word × State :=
  match s.dbg.rx with
  | [] => (0, s)
  | b :: t => (W (b.toNat + 256), { s with dbg := { s.dbg with rx := t } })

/-- A read of a read-clear register (R8). -/
def readClear (a : Nat) (s : State) : Word × State := (s.reg a, s.setReg a 0)

/-- A read of a register page word that the path may make. -/
def readReg (q : Path) (p o : Nat) (s : State) : Word × State :=
  let a := pg p o
  let s := if 0x20 ≤ p ∧ p ≤ 0x28 then camArrive s else s
  if p = 0x14 ∧ o = 0x05C then trimRead s
  else if p = 0x28 ∧ o = 0x0A8 then nozEstRead s
  else if p = 0x28 ∧ o = 0x0AC then subDataRead s
  else if p = 0x59 ∧ o = 0x04C then capRead s
  else if p = 0x7F ∧ o = 0x04C then uartRead s
  else if wideLow p o then ((wideWords p o s).1, latchHi q a (wideWords p o s).2 s)
  else if 4 ≤ o ∧ wideLow p (o - 4) then (latchedHi q (pg p (o - 4)) s, s)
  else if snapReg p o then (snapGet q a s, s)
  else match viewWord p o s with
    | some w => (w, readLatch q p o s)
    | none =>
      match descOf a with
      | none => (0, s)
      | some d =>
        match d.acc with
        | .wo => (0, s)
        | .rc => readClear a s
        | _ => (if s.rb (Reg.shadowCtrl p) 0 then s.inForce a else s.reg a, s)

end Sys2Proof.Machine
end

