-- ==== Sys2Proof/Machine/WriteOps.lean ====
section
/-! DEFINITION. What a write of a register does (R8, R10, R11, R36, R40, R43 to R45): the stored word with its limits, what a
page refuses, what its block does at the write, and the page header. -/
namespace Sys2Proof.Machine

/-! ## Fields (R11) -/

/-- Chain port codes that are not reserved (R268). -/
def portCodeOk (v : Nat) : Bool := v ≤ 0x0C || (0x10 ≤ v && v ≤ 0x3F)

/-- Coded fields whose legal values are no single range: low bit, width and the values that are not reserved. -/
def codedFields (p o : Nat) : List (Nat × Nat × (Nat → Bool)) :=
  if p = 0x40 ∧ 0x100 ≤ o ∧ o < 0x200 then [(0, 7, portCodeOk)]
  else if p = 0x42 ∧ o = 0x040 then [(8, 7, portCodeOk)]
  else if p = 0x42 ∧ o = 0x060 then [(0, 7, portCodeOk), (8, 7, portCodeOk), (16, 7, portCodeOk), (24, 7, portCodeOk)]
  else if p = 0x58 ∧ 0x400 ≤ o ∧ (o - 0x400) % 0x18 = 0 then [(8, 8, srcOk), (16, 8, sinkOk), (24, 8, srcOk)]
  else if p = 0x60 ∧ 0x100 ≤ o ∧ o < 0x300 ∧ o % 0x80 = 0x48 then [(0, 8, fun v => v == 0 || v / 16 == 1)]
  else []

/-- A field outside its legal values keeps what it held; the flag says that one did. -/
def keepField (old : Word) (lo n : Nat) (ok : Bool) (r : Word × Bool) : Word × Bool :=
  if ok then r else (put r.1 lo n (fld old lo n), true)

/-- The word a write would store: the stored bits of `w`, with each illegal field kept. -/
def mergeWord (p o : Nat) (d : RegDesc) (old w : Word) : Word × Bool :=
  let m := w &&& W d.mask
  let r := each d.lim (fun f r =>
    let v := fld m f.1 f.2.1
    keepField old f.1 f.2.1 (decide (f.2.2.1 ≤ v) && decide (v ≤ f.2.2.2)) r) (m, false)
  each (codedFields p o) (fun f r => keepField old f.1 f.2.1 (f.2.2 (fld m f.1 f.2.1)) r) r

/-! ## Words a page refuses whole (R35, R49 and the rules of the blocks) -/

/-- INTAKE, INFL, MAP, SCREEN and DELAY (R90, R133). -/
def pressOk (p o : Nat) (s : State) : Bool :=
  if p = 0x10 ∧ (o = 0x044 ∨ o = 0x048) then !s.rb Reg.INTAKE_CTRL 0
  else if p = 0x16 ∧ (o = 0x040 ∨ o = 0x044) then
    !s.enabled 0x16
  else true

/-- The shortest period FIRE holds, live or staged. -/
def leastPeriod (s : State) : Nat := min (minPeriod s) (s.rf Reg.FIRE_MIN_PERIOD 0 16)

/-- FIRE (R145, R154, R159). -/
def fireOk (o : Nat) (m : Word) (s : State) : Bool :=
  match o with
  | 0x040 => decide (s.fire.st < 2)
  | 0x04C => decide (s.rf Reg.FIRE_PULSE 0 12 + 100 ≤ fld m 0 16)
  | 0x050 => decide (fld m 0 12 + 100 ≤ leastPeriod s) && decide (2 * fld m 0 12 ≤ s.rf Reg.FIRE_MAX_WIDTH 0 16)
  | 0x054 => decide (2 * s.rf Reg.FIRE_PULSE 0 12 ≤ fld m 0 16)
  | _ => true

/-- WEB (R202): WEB_ENC_CFG(0), and a change of SRC or FALLBACK, wait for DISABLED or READY. -/
def webOk (o : Nat) (old m : Word) (s : State) : Bool :=
  match o with
  | 0x040 => decide (s.fire.st < 2) || fld old 0 2 == fld m 0 2
  | 0x044 => decide (s.fire.st < 2)
  | _ => true

/-- The cameras (R216, R226, R230). -/
def camWriteOk (p o : Nat) (m : Word) (s : State) : Bool :=
  let x := s.cam p
  if o = 0x04C then
    x.changes.isEmpty && match x.cci with
      | some r => r.op != 1
      | none => true
  else if o = 0x048 then decide (fld m 0 16 < fld m 16 16)
  else if o = 0x0D8 ∨ o = 0x0E8 then m.toNat % 64 == 0
  else true

/-- The lane quads (R250, R260, R266). -/
def laneqOk (q o : Nat) (m : Word) (s : State) : Bool :=
  if o = 0x040 then !s.rb (Reg.LANEQ_PLL q 0) 0 && !s.rb (Reg.LANEQ_PLL q 1) 0
  else if o = 0x044 ∨ o = 0x048 then
    [0, 1, 2, 3].all fun i =>
      laneRole (4 * q + i) s == 0 || s.rf (Reg.LANE_CFG (4 * q + i)) 3 1 != (o - 0x044) / 4
  else if 0x100 ≤ o ∧ o % 0x80 = 0x08 then decide (fld m 0 4 + fld m 8 4 ≤ 16)
  else true

/-- CHAIN, ETH and TIME (R277, R290, R291, R292). -/
def netOk (p o : Nat) (old m : Word) (s : State) : Bool :=
  if p = 0x40 then
    match o with
    | 0x040 => !s.enabled 0x40 || (old ^^^ m) &&& 0xF3F == 0
    | 0x044 => decide (2 * fld m 0 10 ≤ s.rf Reg.CHAIN_KEEP_TIMEOUT 0 16)
    | 0x048 => decide (2 * s.rf Reg.CHAIN_KEEP_PERIOD 0 10 ≤ fld m 0 16)
    | _ => true
  else if p = 0x41 then
    match o with
    | 0x044 | 0x048 | 0x04C => !s.rb Reg.ETH_CTRL 0
    | 0x058 => fld m 0 16 != 319 && fld m 0 16 != 320
    | _ => true
  else
    match o with
    | 0x04C => !s.rb Reg.TIME_CTRL 2 && decide (-858993 ≤ sgn 32 m.toNat) && decide (sgn 32 m.toNat ≤ 858993)
    | 0x054 => decide (fld m 0 5 ≤ fld m 8 5)
    | 0x074 => decide (-(2 ^ 30) ≤ sgn 32 m.toNat) && decide (sgn 32 m.toNat ≤ 2 ^ 30)
    | _ => true

/-- DRAM and DRAMTRN (R310, R311). -/
def dramWriteOk (p o : Nat) (m : Word) (s : State) : Bool :=
  if p = 0x48 then o != 0x040 || !dramReady s
  else if p = 0x49 then
    if 0x100 ≤ o ∧ o < 0x180 then !dramReady s
    else o != 0x048 || decide (fld m 0 7 ≤ fld m 8 7)
  else true

/-- LOOP and LOOPCAP (R326, R328, R330, R335, R339). -/
def loopWriteOk (p o : Nat) (m : Word) (s : State) : Bool :=
  if p = 0x59 then
    if 0x080 ≤ o ∧ o < 0x180 ∧ o % 0x20 = 0 then capState ((o - 0x080) / 0x20) s != 1 && capState ((o - 0x080) / 0x20) s != 2 else true
  else if 0x080 ≤ o ∧ o < 0x100 then o % 0x10 != 0 || periodOk ((o - 0x080) / 0x10) (fld m 0 20) s
  else if 0x100 ≤ o ∧ o < 0x180 then
    o % 0x20 != 0 || spiCfgOk m
  else if 0x400 ≤ o then (o - 0x400) % 0x18 != 0 || slotCfgOk ((o - 0x400) / 0x18) m s
  else true

/-- DEBUG (R439). -/
def debugOk (o : Nat) (m : Word) (s : State) : Bool :=
  match o with
  | 0x050 =>
    !bit m 0 || s.rb Reg.DEBUG_TRACE_CTRL 0 ||
      decide (s.rf Reg.DEBUG_TRACE_BASE 0 18 * 65536 + s.rf Reg.DEBUG_TRACE_SIZE 0 16 * 65536 ≤ dramBytes s)
  | 0x054 | 0x058 => !s.rb Reg.DEBUG_TRACE_CTRL 0
  | 0x060 => m.toNat % 16 == 0
  | _ => true

/-- Is the word `m` taken, as a whole, where `old` stood? -/
def writeOk (p o : Nat) (old m : Word) (s : State) : Bool :=
  match p with
  | 0x03 => paceWriteOk o m s
  | 0x10 | 0x16 => pressOk p o s
  | 0x17 => fireOk o m s
  | 0x1C => webOk o old m s
  | 0x20 | 0x21 | 0x22 | 0x23 => camWriteOk (p - 0x20) o m s
  | 0x40 | 0x41 | 0x42 => netOk p o old m s
  | 0x48 | 0x49 => dramWriteOk p o m s
  | 0x58 | 0x59 => loopWriteOk p o m s
  | 0x60 => motionWriteOk ((o - 0x100) / 0x80) ((o - 0x100) % 0x80) m s
  | 0x7F => debugOk o m s
  | _ => if 0x30 ≤ p ∧ p ≤ 0x3B then laneqOk (p - 0x30) o m s else true

/-! ## What the block does at the write -/

/-- SRC, FALLBACK and STAKE_RX_EN of WEB_CTRL have changed (R202). -/
def webCtrlDone (old : Word) (s : State) : State :=
  let new := s.reg Reg.WEB_CTRL
  let s := if bit new 2 && !bit old 2 then { s with web := { s.web with stake := { s.web.stake with seq := none } } } else s
  let s := if bit new 0 && !bit old 0 then setSrc (if stakeFresh s then .stake else .noneS) true s
    else if !bit new 0 && bit old 0 then setSrc (if s.web.enc0.faulty then .none_ else .enc) true s
    else s
  stakeSrc s

/-- LANEQ_PLL(j): a PLL that is disabled loses its lock (R250). -/
def pllDone (q j : Nat) (s : State) : State :=
  if s.rb (Reg.LANEQ_PLL q j) 0 then s else pllDrop q j s

/-- LINK_UP follows synchronisation, AN_EN and the negotiation (R278). -/
def ethJudge (s : State) : State :=
  let up := s.rb Reg.ETH_STATUS 0 && (!s.rb Reg.ETH_CTRL 1 || (s.rb Reg.ETH_STATUS 1 && s.eth.full))
  let was := s.rb Reg.ETH_STATUS 2
  let s := s.setB Reg.ETH_STATUS 2 up
  if up && !was then raise 0x41 8 s else if was && !up then raise 0x41 9 s else s

/-- ETH_CTRL: with EN 0 the link is down, and AN_EN decides what it needs (R257, R278, R291). The ordinary clock begins anew with
PTP_EN (R281). -/
def ethCtrlDone (s : State) : State :=
  let up := s.rb Reg.ETH_STATUS 2
  let s := each lanes48 showTx s
  let s := if s.rb Reg.ETH_CTRL 0 && s.rb Reg.ETH_CTRL 2 then s else { s with eth := { s.eth with ptp := Reset.ptp } }
  if s.rb Reg.ETH_CTRL 0 then ethJudge s
  else
    let s := s.setReg Reg.ETH_STATUS 0
    if up then raise 0x41 9 s else s

/-- TIME_EPOCH_WRAP: the four epoch words apply together (R283). -/
def epochApply (s : State) : State :=
  { s with time := { s.time with
      epoch := [s.reg Reg.TIME_EPOCH_NS, s.reg Reg.TIME_EPOCH_SEC_LO, s.reg Reg.TIME_EPOCH_SEC_HI, s.reg Reg.TIME_EPOCH_WRAP] } }

/-- PACE_CTRL: PMB_EN has risen (R70). -/
def paceCtrlDone (old : Word) (mode : Option Nat) (s : State) : State :=
  if s.rb Reg.PACE_CTRL 0 && !bit old 0 then
    match mode with
    | some m => pmbEnable [] m s
    | none => let f := s.freeW; pmbEnable [] (f.1.toNat % 256) f.2
  else s

/-- The effect of a stored word on its block. -/
def writeDone (p o : Nat) (old : Word) (s : State) : State :=
  match p with
  | 0x03 => if o = 0x040 then paceCtrlDone old none s else s
  | 0x1C =>
    if o = 0x040 then webCtrlDone old s
    else if o = 0x058 then stakeFreshDone s
    else if 0x100 ≤ o ∧ o < 0x180 then cmpShow ((o - 0x100) / 0x10) old s
    else s
  | 0x41 => if o = 0x040 then ethCtrlDone s else s
  | 0x42 =>
    if o = 0x04C then { s with time := { s.time with rate := sgn 32 (s.reg Reg.TIME_RATE).toNat } }
    else if o = 0x08C then epochApply s
    else s
  | 0x50 => if o = 0x050 then deflOwnDone old s else s
  | 0x58 => if 0x180 ≤ o ∧ o < 0x1C0 then pwmDone ((o - 0x180) / 4) s else s
  | 0x60 => if 0x100 ≤ o ∧ o < 0x300 ∧ o % 0x80 = 0x48 then loadSrcDone ((o - 0x100) / 0x80) old s else s
  | 0x68 => if o = 0x040 then pairSync s else s
  | _ =>
    if 0x30 ≤ p ∧ p ≤ 0x3B then
      if o = 0x044 ∨ o = 0x048 then pllDone (p - 0x30) ((o - 0x044) / 4) s
      else if 0x100 ≤ o ∧ o % 0x80 = 0x0C then
        let l := 4 * (p - 0x30) + (o - 0x100) / 0x80
        s.setLane l { s.lane l with ctle := s.rf (Reg.LANE_RXEQ l) 0 4, eyeAt := if bit old 6 then (s.lane l).eyeAt else s.now }
      else s
    else s

/-- LOOP_S_CFG has a store of its own, which notes that EN rises (R330). -/
def storeWord (p o : Nat) (m : Word) (s : State) : State :=
  if p = 0x58 ∧ 0x400 ≤ o ∧ (o - 0x400) % 0x18 = 0 then slotCfgSet ((o - 0x400) / 0x18) m s else s.setReg (pg p o) m

/-- A write of a read-write register: refused whole, or stored but for the fields that keep what they hold, with one CONFIG for
the write (R11, R35, R44). -/
def writeRW (p o : Nat) (d : RegDesc) (w : Word) (s : State) : State :=
  let a := pg p o
  let old := s.reg a
  let r := mergeWord p o d old w
  if !writeOk p o old r.1 s then config p s
  else
    let keep := s.shadowPending p && d.shadow != 0
    let m := if keep then (old &&& W d.shadow) ||| (r.1 &&& ~~~(W d.shadow)) else r.1
    let s := writeDone p o old (storeWord p o m s)
    if keep || r.2 then config p s else s

/-- A write of a register that its access code alone decides (R8, R40). -/
def writePlain (p o : Nat) (w : Word) (s : State) : State :=
  let a := pg p o
  match descOf a with
  | none => s
  | some d =>
    match d.acc with
    | .rw => writeRW p o d w s
    | .w1c => s.setReg a (s.reg a &&& ~~~(w &&& W d.mask))
    | .cnt => countSet p a (fld w 0 16) s
    | .ro | .rc | .wo => s

/-! ## The header -/

/-- PAGE_CTRL: every bit written acts, in ascending order. -/
def pageCtrlWrite (p : Nat) (w : Word) (s : State) : State :=
  let s := enableWrite p (bit w 0) s
  let s := if bit w 1 then quiesceReq p s else quiesceRelease p s
  let s := if bit w 2 then resetReq p s else s
  let s := if bit w 3 then shadowCommit p s else s
  if bit w 4 then pageAbort p s else s

/-- EVT_STATUS: bits cleared; a bit whose event falls on the same instant stays 1 and is pending again (R36). FAULT of PAGE_STATUS
follows at the command's end (R34). -/
def evtClear (p : Nat) (w again : Word) (s : State) : State :=
  let a := Reg.evtStatus p
  let old := s.reg a
  let gone := old &&& w &&& evtMask p
  let s := s.setReg a (old &&& ~~~gone)
  each (List.range 32) (fun b s => if bit again b && bit (evtMask p) b then raise p b s else s) s

/-- EVT_ENABLE and EVT_ROUTE: a page that so gains a pending bit routed to Chain sends an EVENT frame (R38). -/
def evtConfig (p : Nat) (a : Nat) (m : Word) (s : State) : State :=
  let pend := fun (s : State) => if s.rb (Reg.evtRoute p) 5 then evtPending p s else (0 : Word)
  let was := pend s
  let s := s.setReg a m
  if pend s &&& ~~~was != 0 then { s with evtOut := s.evtOut ++ [p] } else s

/-- SHADOW_CTRL (R44). -/
def shadowCtrlWrite (p : Nat) (w : Word) (s : State) : State :=
  let s := s.setB (Reg.shadowCtrl p) 0 (bit w 0)
  if bit w 1 then shadowDiscard p s else s

/-- PAGE_LOCK (R45). -/
def pageLockWrite (p : Nat) (w : Word) (s : State) : State :=
  if fld w 16 16 = 0x4C4B then s.setB (Reg.pageLock p) 0 (bit w 0) else s

/-- A write of a header register (R31). -/
def headerWrite (p o : Nat) (w : Word) (s : State) : State :=
  match o with
  | 0x004 => pageCtrlWrite p w s
  | 0x00C => evtClear p w 0 s
  | 0x010 => evtConfig p (Reg.evtEnable p) (w &&& evtMask p) s
  | 0x014 => evtConfig p (Reg.evtRoute p) (w &&& W 0x3F3F) s
  | 0x018 | 0x01C | 0x020 | 0x024 => countSet p (pg p o) (fld w 0 16) s
  | 0x028 => shadowCtrlWrite p w s
  | 0x02C => pageLockWrite p w s
  | _ => s

end Sys2Proof.Machine
end

