-- ==== Sys2Proof/Machine/RegWriteOps.lean ====
section
/-! DEFINITION. A write of any register of the register pages: the registers whose write acts on their block, and all others
through their description. -/
namespace Sys2Proof.Machine

/-- FIRE_PITCH_DEN is held until FIRE_PITCH_NUM is written (R130). -/
def pitchDenWrite (w : Word) (s : State) : State :=
  if fld w 0 16 = 0 then config 0x17 s
  else { s with fire := { s.fire with denHeld := some (fld w 0 16, decide (2 ≤ s.fire.st)) } }

/-- FIRE_PITCH_NUM applies the pair, or refuses it (R130). -/
def pitchNumWrite (w : Word) (s : State) : State :=
  let n := fld w 0 16
  let pair := s.fire.denHeld.getD (den s, false)
  let s := { s with fire := { s.fire with denHeld := none } }
  if pair.2 || decide (2 ≤ s.fire.st) || n == 0 || decide (n * 16 < pair.1) || decide (4096 * pair.1 < n) then config 0x17 s
  else
    -- the benchmark is a position: it is carried over into 1/DEN counts of the new pair (R148, log entry 89)
    let s := { s with fire := { s.fire with bench := s.fire.bench * pair.1 / den s } }
    (s.setReg Reg.FIRE_PITCH_DEN (W pair.1)).setReg Reg.FIRE_PITCH_NUM (W n)

/-- INTAKE_DESC_PUSH (R78): INTAKE_DESC(0) to (7) reach the queue as a JOB frame's one descriptor does. -/
def descPush (w : Word) (s : State) : State :=
  if bit w 0 then intakeTake true ([1, 0, 0, 0] ++ descWords s) s else s

/-- INTAKE_FAIL_POP (R102). -/
def failPop (w : Word) (s : State) : State :=
  if bit w 0 then { s with intake := { s.intake with fails := s.intake.fails.drop 1 } } else s

/-- INSPECT_DEF_POP (R232). -/
def defPop (w : Word) (s : State) : State :=
  if bit w 0 then { s with insp := { s.insp with reports := s.insp.reports.drop 1 } } else s

/-- TRAV_LEASE (R246): any write renews or restores the lease. -/
def leaseWrite (s : State) : State :=
  travPump { s with trav := { s.trav with lease := true, leaseAt := s.now } }

/-- TRAV_SUB_DATA (R245). -/
def subDataWrite (w : Word) (s : State) : State :=
  let n := s.rf Reg.TRAV_NOZ_ADDR 0 17
  let s :=
    if s.lb Reg.TRAV_CTRL 2 then config 0x28 s
    else
      let s := s.setNoz n { s.noz n with sub := fld w 0 4 }
      match headOf n s with
      | some h => s.setB Reg.TRAV_SUBSYNC h false
      | none => s
  nozNext s

/-- GPIO_SET and GPIO_CLR (R435). -/
def gpioSet (w : Word) (s : State) : State := s.setReg Reg.GPIO_OUT (s.reg Reg.GPIO_OUT ||| (w &&& W 0xFFFF))
/-- GPIO_CLR. -/
def gpioClr (w : Word) (s : State) : State := s.setReg Reg.GPIO_OUT (s.reg Reg.GPIO_OUT &&& ~~~(w &&& W 0xFFFF))

/-- DEBUG_UART_TX (R438). -/
def uartWrite (w : Word) (s : State) : State :=
  if !s.rb Reg.DEBUG_UART_CTRL 0 || decide (16 ≤ s.dbg.tx.length) then config 0x7F s
  else { s with dbg := { s.dbg with tx := s.dbg.tx ++ [BitVec.ofNat 8 (fld w 0 8)] } }

/-- DEFL_E_FLUSH by a plain write: what the engine has consumed by then is free (log entry 4). -/
def flushWrite (e : Nat) (w : Word) (s : State) : State :=
  if bit w 0 then
    let f := s.freeW
    deflFlush e f.1.toNat f.2
  else s

/-- PACE_SETPOINT. -/
def setpointReg (w : Word) (s : State) : State := setpointWrite (fld w 0 12) s

/-- Registers of pages 0x03 to 0x19 whose write acts on the block; `none` for every other register. -/
def actPress (q : Path) (p o : Nat) (w : Word) (s : State) : Option State :=
  match p with
  | 0x03 => if o = 0x044 then some (setpointReg w s) else none
  | 0x08 =>
    if o = 0x044 then some (mbxEach (mbxRing q) w s)
    else if o = 0x048 then some (mbxEach (mbxAck q) w s)
    else if 0x800 ≤ o then some (mbxData q ((o - 0x800) / 0x40) ((o - 0x800) % 0x40 / 4) w s)
    else none
  | 0x09 => if o = 0x054 then some (svcCmdWrite w s) else none
  | 0x10 =>
    if o = 0x060 then some (intakeCmd w s)
    else if o = 0x068 then some (descPush w s)
    else if o = 0x098 then some (failPop w s)
    else none
  | 0x14 =>
    if o = 0x040 then some (mapNozzlesWrite w s)
    else if o = 0x048 then some (mapCmdWrite w s)
    else if o = 0x05C then some (trimWrite w s)
    else none
  | 0x15 => if o = 0x04C then some (screenCmdWrite w s) else none
  | 0x17 =>
    if o = 0x044 then some (pitchDenWrite w s)
    else if o = 0x048 then some (pitchNumWrite w s)
    else if o = 0x058 then some (fireCmd w s)
    else if o = 0x084 then some (histCmd w s)
    else none
  | 0x18 => if o = 0x054 then some (hlinkCmd w s) else if o = 0x064 then some (hlinkRejoin w s) else none
  | _ => none

/-- Registers of pages 0x1C to 0x49 whose write acts on the block. -/
def actLink (p o : Nat) (w : Word) (s : State) : Option State :=
  match p with
  | 0x1C => if o = 0x070 then some (webCmd w s) else none
  | 0x20 | 0x21 | 0x22 | 0x23 => if o = 0x064 then some (cciWrite (p - 0x20) w s) else none
  | 0x24 => if o = 0x084 then some (ispCmd w s) else none
  | 0x25 => if o = 0x09C then some (defPop w s) else none
  | 0x28 =>
    if o = 0x06C then some (leaseWrite s)
    else if o = 0x070 then some (travCmd w s)
    else if o = 0x0AC then some (subDataWrite w s)
    else none
  | 0x40 | 0x41 =>
    if o = 0x0CC then some (if bit w 0 then lqPush (p == 0x41) s else s)
    else if o = 0x0DC then some (if bit w 0 then lqPop (p == 0x41) s else s)
    else none
  | 0x42 => if o = 0x070 then some (timeOfsIn w s) else if o = 0x078 then some (timeCmd w s) else none
  | 0x49 => if o = 0x040 then some (trnCmd w s) else none
  | _ =>
    if 0x30 ≤ p ∧ p ≤ 0x3B ∧ 0x100 ≤ o ∧ o < 0x300 then
      let l := 4 * (p - 0x30) + (o - 0x100) / 0x80
      if o % 0x80 = 0 then some (laneCfgWrite l w s)
      else if o % 0x80 = 4 then some (laneCtrlWrite l w s)
      else none
    else none

/-- Registers of the pages from 0x4A whose write acts on the block. -/
def actRest (q : Path) (p o : Nat) (w : Word) (s : State) : Option State :=
  match p with
  | 0x4A => if 0x080 ≤ o ∧ o < 0x140 ∧ o % 0x10 = 0 then some (qosWrite ((o - 0x080) / 0x10) w s) else none
  | 0x50 =>
    if o = 0x080 ∨ o = 0x100 then some (deflCmd (q == .svc) ((o - 0x080) / 0x80) w s)
    else if o = 0x0B4 ∨ o = 0x134 then some (flushWrite ((o - 0x0B4) / 0x80) w s)
    else none
  | 0x58 => if 0x068 ≤ o ∧ o < 0x078 then some (oscClear ((o - 0x068) / 4) w s) else none
  | 0x59 => if o = 0x040 then some (capCmd w s) else none
  | 0x60 =>
    if 0x100 ≤ o ∧ o < 0x300 then
      let a := (o - 0x100) / 0x80
      if o % 0x80 = 0x1C then some (motionCmd a w s)
      else if o % 0x80 = 0x24 then some (motionStopWrite a w s)
      else if o % 0x80 = 0x30 then some (motionStateWrite a w s)
      else none
    else none
  | 0x68 => if o = 0x054 then some (pairClaimWrite w s) else if o = 0x05C then some (pairCmdWrite w s) else none
  | 0x7E => if o = 0x04C then some (gpioSet w s) else if o = 0x050 then some (gpioClr w s) else none
  | 0x7F => if o = 0x048 then some (uartWrite w s) else none
  | _ => none

/-- A write of a register page word that the path may make (R8, R31, and the rules of each block). -/
def writeReg (q : Path) (p o : Nat) (w : Word) (s : State) : State :=
  if o < 0x040 then headerWrite p o w s
  else match actPress q p o w s with
    | some t => t
    | none =>
      match actLink p o w s with
      | some t => t
      | none =>
        match actRest q p o w s with
        | some t => t
        | none => writePlain p o w s

end Sys2Proof.Machine
end

