-- ==== Sys2Proof/Machine/WindowOps.lean ====
section
/-! DEFINITION. The table windows (R27, R109, R112, R143, R203, R223) and the YH-220 window (R398, R399). -/
namespace Sys2Proof.Machine

/-! ## Table windows -/

/-- The table window at an address: the page that owns it and the offset in it (R27). -/
def windowOf (a : Nat) : Option (Nat × Nat) :=
  if 0x50000000 ≤ a ∧ a < 0x51000000 then some (0x14, a - 0x50000000)
  else if 0x51000000 ≤ a ∧ a < 0x51100000 then some (0x15, a - 0x51000000)
  else if 0x51100000 ≤ a ∧ a < 0x51110000 then some (0x17, a - 0x51100000)
  else if 0x51200000 ≤ a ∧ a < 0x51210000 then some (0x1C, a - 0x51200000)
  else if 0x51300000 ≤ a ∧ a < 0x51340000 then some (0x24, a - 0x51300000)
  else none

/-- Offsets of a window that are reserved under R11. -/
def winReserved (p ofs : Nat) : Bool :=
  match p with
  | 0x14 => 0x200000 ≤ ofs % 0x800000
  | 0x15 => 0x60000 ≤ ofs % 0x80000
  | 0x17 => 0x2000 ≤ ofs % 0x8000
  | 0x24 => (0x48C4 ≤ ofs % 0x8000 && ofs % 0x8000 < 0x5000) || 0x7084 ≤ ofs % 0x8000
  | _ => false

/-- A word written to the history table window (R143). -/
def histWindowWrite (ofs : Nat) (w : Word) (s : State) : State :=
  if ofs / 0x8000 = s.rf Reg.FIRE_HIST_BANK 0 1 || s.shadowPending 0x17 || s.cmdBusy Reg.FIRE_HIST_CMD_STATUS then config 0x17 s
  else s.setReg (0x51100000 + ofs) (w &&& 7)

/-- The stored bits of a compare entry word (R203). -/
def cmpMask (k : Nat) : Nat := if k = 1 then 0xFFFFFF else if k = 3 then 0x3FFFF else 0xFFFFFFFF

/-- A word written to the compare table window (R203). -/
def cmpWindowWrite (ofs : Nat) (w : Word) (s : State) : State := s.setReg (0x51200000 + ofs) (w &&& W (cmpMask (ofs / 4 % 4)))

/-- A word written to the camera table window (R223). -/
def camWindowWrite (ofs : Nat) (w : Word) (s : State) : State :=
  if ofs / 0x8000 % 2 = camBank (ofs / 0x10000) s || s.shadowPending 0x24 || s.cmdBusy Reg.ISP_CMD_STATUS then config 0x24 s
  else s.setReg (0x51300000 + ofs) w

/-- A word written to a table window. -/
def winWrite (p ofs : Nat) (w : Word) (s : State) : State :=
  if winReserved p ofs then s
  else match p with
    | 0x14 => mapWindowWrite ofs w s
    | 0x15 => tileWindowWrite ofs w s
    | 0x17 => histWindowWrite ofs w s
    | 0x1C => cmpWindowWrite ofs w s
    | _ => camWindowWrite ofs w s

/-! ## The YH-220 window (R398, R399) -/

/-- The page a window offset acts on; `none` for the offsets below 0x1000, which are common to WEB and LOOP, and for the
reserved ones. -/
def yhPage (o : Nat) : Option Nat :=
  if 0x1000 ≤ o ∧ o < 0x1080 then some 0x1C
  else if 0x2000 ≤ o ∧ o < 0x2050 then some 0x58
  else if 0x3000 ≤ o ∧ o < 0x3200 then some 0x58
  else none

/-- A window register that ends READONLY when written. -/
def yhReadOnly (o : Nat) : Bool :=
  if o < 0x1000 then o == 0 || o == 4
  else if o < 0x1080 then o % 0x40 == 0x04 || o % 0x40 == 0x0C || o % 0x40 == 0x10
  else if o < 0x3000 then o == 0x2000 || (0x2010 ≤ o && o < 0x2050)
  else o < 0x3200 && o % 0x20 == 0x14

/-- The four events of YH_IRQ: page and bit. -/
def yhEvents : List (Nat × Nat) := [(0x1C, 13), (0x1C, 10), (0x58, 10), (0x58, 8)]

/-- Any bit of the four words at `a`. -/
def anyBit (a : Nat → Nat) (s : State) : Bool := (List.range 4).any fun w => s.reg (a w) != 0

/-- Speed of an encoder in counts/s × 10⁻³, 0 while it is not valid (R198). -/
def encSpeed (x : EncSt) : Int := if x.valid then speedOf (x.dir == 1) x.tCount else 0

/-- A read of the window. -/
def yhRead (o : Nat) (s : State) : Word :=
  let ev := fun (reg : Nat → Nat) => W (ofBits (yhEvents.map fun e => s.rb (reg e.1) e.2))
  if o = 0 then 0x02204810
  else if o = 4 then
    W (ofBits [s.fire.st == 2, s.web.enc0.faulty, anyBit Reg.LOOP_OSC_ACT s, anyBit Reg.LOOP_SAFE_ACT s])
  else if o = 8 then ev Reg.evtStatus
  else if o = 0x0C then ev Reg.evtEnable
  else if 0x1000 ≤ o ∧ o < 0x1080 then
    let e := (o - 0x1000) / 0x40
    let x := s.enc e
    let cfg := s.reg (Reg.WEB_ENC_CFG e)
    match o % 0x40 with
    | 0x00 => W x.cnt
    | 0x04 => s.reg (Reg.WEB_DATUM e)
    | 0x08 => W (1 + 2 * fld cfg 1 1 + 4 * fld cfg 3 2 + 16 * (fld cfg 8 5 / 4))
    | 0x0C => W (wrapN 32 (clampI (-32767) 32767 (divRound (encSpeed x) 10000)))
    | 0x10 => W (ofBits [x.dir == -1, x.faulty, s.reg (Reg.WEB_IDXCNT e) != 0])
    | _ => 0
  else if o = 0x2000 then 1
  else if 0x2010 ≤ o ∧ o < 0x2050 then
    match tget none s.loop.acq ((o - 0x2010) / 4) with
    | some v => W (wrapN 16 v + 2 ^ 31)
    | none => 0
  else if 0x3000 ≤ o ∧ o < 0x3200 then
    let n := (o - 0x3000) / 0x20
    let rd := fun (a : Nat) => if s.rb (Reg.shadowCtrl 0x58) 0 then s.inForce a else s.reg a
    match o % 0x20 with
    | 0x00 => W (s.rf (Reg.LOOP_S_CFG n) 0 1)
    | 0x04 => rd (Reg.LOOP_S_SP n)
    | 0x08 => W (fld (rd (Reg.LOOP_S_KPI n)) 0 16)
    | 0x0C => W (fld (rd (Reg.LOOP_S_KPI n)) 16 16)
    | 0x10 => W (fld (rd (Reg.LOOP_S_KDF n)) 0 16)
    | 0x14 => W (wrapN 32 (s.slot n).u)
    | 0x18 => rd (Reg.LOOP_S_LIM n)
    | _ => s.reg (Reg.LOOP_G_PERIOD (slotGroup n s))
  else 0

/-- QC_CTRL: INVERT, IDX_MODE and FILT of WEB_ENC_CFG(e); IDX_MODE 2 also arms the index. -/
def yhQcCtrl (q : Path) (e : Nat) (w : Word) (s : State) : State :=
  let cfg := s.reg (Reg.WEB_ENC_CFG e)
  let filt := max 1 (4 * fld w 4 4)
  let new := put (put (put cfg 1 1 (fld w 1 1)) 3 2 (fld w 2 2)) 8 5 (if filt ≤ 31 then filt else fld cfg 8 5)
  let s := writeReg q 0x1C (0x044 + 4 * e) new s
  let s := if filt ≤ 31 then s else config 0x1C s
  if fld w 2 2 = 2 then webArm e s else s

/-- A PID register that is shadowed: the write is followed by a LOOP commit, and is ignored while one is pending (R399). -/
def yhShadow (f : State → State) (s : State) : State :=
  if s.shadowPending 0x58 then config 0x58 s else shadowCommit 0x58 (f s)

/-- A write of a window register that is not read-only. -/
def yhWrite (q : Path) (o : Nat) (w : Word) (s : State) : State :=
  if o = 8 then
    each (List.range 4) (fun i s =>
      if bit w i then evtClear (at' (0, 0) yhEvents i).1 (W (2 ^ (at' (0, 0) yhEvents i).2)) 0 s else s) s
  else if o = 0x0C then
    each [0x1C, 0x58] (fun p s =>
      let a := Reg.evtEnable p
      let m := each (List.range 4) (fun i m =>
        if (at' (0, 0) yhEvents i).1 = p then putBit m (at' (0, 0) yhEvents i).2 (bit w i) else m) (s.reg a)
      evtConfig p a m s) s
  else if 0x1000 ≤ o ∧ o < 0x1080 then
    let e := (o - 0x1000) / 0x40
    match o % 0x40 with
    | 0x00 => webLoad e (s.setReg Reg.WEB_LOAD_VAL w)
    | 0x08 => yhQcCtrl q e w s
    | _ => s
  else if 0x3000 ≤ o ∧ o < 0x3200 then
    let n := (o - 0x3000) / 0x20
    match o % 0x20 with
    | 0x00 => writeReg q 0x58 (0x400 + 0x18 * n) (putBit (s.reg (Reg.LOOP_S_CFG n)) 0 (bit w 0)) s
    | 0x04 => yhShadow (fun s => s.setReg (Reg.LOOP_S_SP n) w) s
    | 0x08 => yhShadow (fun s => (s.setF (Reg.LOOP_S_KPI n) 0 16 (fld w 0 16)).setF (Reg.LOOP_S_SHIFT n) 0 5 8) s
    | 0x0C => yhShadow (fun s => (s.setF (Reg.LOOP_S_KPI n) 16 16 (fld w 0 16)).setF (Reg.LOOP_S_SHIFT n) 8 5 8) s
    | 0x10 => yhShadow (fun s => (s.setF (Reg.LOOP_S_KDF n) 0 16 (fld w 0 16)).setF (Reg.LOOP_S_SHIFT n) 16 5 8) s
    | 0x18 => yhShadow (fun s => s.setReg (Reg.LOOP_S_LIM n) w) s
    | 0x1C => writeReg q 0x58 (0x080 + 0x10 * slotGroup n s) w s
    | _ => s
  else s

end Sys2Proof.Machine
end

