-- ==== Sys2Proof/Machine/AccessOps.lean ====
section
/-! DEFINITION. Accesses of the four paths: where an address leads, which accesses are refused and how, single words, bursts and
the quad-SPI target (R27 to R29, R45, R50 to R56). -/
namespace Sys2Proof.Machine

/-- Access status codes (R51). -/
def stOk : Nat := 0
def stAddress : Nat := 1
def stReset : Nat := 2
def stLocked : Nat := 3
def stCheck : Nat := 4
def stLength : Nat := 5
def stReadOnly : Nat := 6
def stTimeout : Nat := 7

/-- Where an address leads (R27). -/
inductive Place where
  | page (p o : Nat)
  | window (p ofs : Nat)
  | yh (o : Nat)
  | outside
  deriving DecidableEq, Repr

/-- The space of an address. -/
def placeOf' (a : Nat) : Place :=
  if 0x40000000 ≤ a ∧ a < 0x40080000 then .page ((a - 0x40000000) / 0x1000) (a % 0x1000)
  else if 0x40100000 ≤ a ∧ a < 0x40110000 then .yh (a - 0x40100000)
  else match windowOf a with
    | some (p, ofs) => .window p ofs
    | none => .outside

/-- The page stands in reset: its domain, its group in a block reset, or Tally in its island reset (R29, R377, R414). -/
def pageInReset (p : Nat) (s : State) : Bool := p ∈ pages && (!s.released p || (p == 0x70 && s.chip.island))

/-- The pages whose state an access of a place reaches. -/
def placePages (x : Place) : List Nat :=
  match x with
  | .page p _ => [p]
  | .window p _ => [p]
  | .yh o => if o = 8 ∨ o = 0x0C then [0x1C, 0x58] else (yhPage o).toList
  | .outside => []

/-- Writes that the access alone makes READONLY (R33, R398). -/
def readOnlyPlace (x : Place) : Bool :=
  match x with
  | .page p _ => p == 0x70
  | .yh o => yhReadOnly o
  | _ => false

/-- Registers that a locked page still takes (R45). -/
def lockFree (x : Place) : Bool :=
  match x with
  | .page _ o => o == 0x00C || (0x018 ≤ o && o ≤ 0x024) || o == 0x02C
  | .yh o => o == 8
  | _ => false

/-- The locked pages a write of a place would reach. -/
def lockedPages (x : Place) (s : State) : List Nat :=
  if lockFree x then [] else (placePages x).filter fun p => p ∈ pages && !pageInReset p s && s.rb (Reg.pageLock p) 0

/-- The status of a word read or written at an address inside the spaces: RESET where every page it reaches stands in reset,
READONLY, LOCKED (R29, R45, R51). -/
def wordStatus (write : Bool) (x : Place) (s : State) : Nat :=
  let ps := placePages x
  if !ps.isEmpty && ps.all fun p => pageInReset p s then stReset
  else if write && readOnlyPlace x then stReadOnly
  else if write && !(lockedPages x s).isEmpty then stLocked
  else stOk

/-- A path is out of reset: D2 for the quad-SPI target, D4 for the service cores, D5 for Chain and Ethernet. -/
def pathUp (q : Path) (s : State) : Bool :=
  match q with
  | .qspi => 2 ≤ s.chip.rel
  | .svc => 4 ≤ s.chip.rel
  | .chain | .udp => 5 ≤ s.chip.rel

/-- PATH code of a trace record (R439). -/
def pathCode : Path → Nat
  | .qspi => 0
  | .chain => 1
  | .udp => 2
  | .svc => 3

/-- A place that takes a write: a register that is not RO, or a table word that is not reserved. -/
def takesWrite (x : Place) (a : Nat) : Bool :=
  match x with
  | .page _ _ =>
    match descOf a with
    | some d => d.acc != .ro && d.acc != .rc
    | none => false
  | .window p ofs => !winReserved p ofs
  | .yh _ => true
  | .outside => false

/-- The trace records an accepted write (R439). -/
def traceWrite (q : Path) (x : Place) (a : Nat) (w : Word) (s : State) : State :=
  if takesWrite x a then
    each (placePages x) (fun p s =>
      if traceOn s 2 && traceSel p s then tracePut p 1 (pathCode q) 0 a w.toNat s else s) s
  else s

/-- What a refused word leaves behind: LOCKVIOL on a locked page (R45). -/
def wordRefused (st : Nat) (x : Place) (s : State) : State :=
  if st = stLocked then each (lockedPages x s) (fun p s => raise p 6 s) s else s

/-- A write lands. -/
def placeWrite (q : Path) (x : Place) (w : Word) (s : State) : State :=
  match x with
  | .page p o => if p ∈ pages then writeReg q p o w s else s
  | .window p ofs => winWrite p ofs w s
  | .yh o => yhWrite q o w s
  | .outside => s

/-- A read returns. -/
def placeRead (q : Path) (x : Place) (a : Nat) (s : State) : Word × State :=
  match x with
  | .page p o => if p ∈ pages then readReg q p o s else (0, s)
  | .window p ofs => (if winReserved p ofs then 0 else s.reg a, s)
  | .yh o => (yhRead o s, s)
  | .outside => (0, s)

/-- One word of a write burst: `h` is what the write does where it is accepted. -/
def wordWrite (q : Path) (a : Nat) (w : Word) (h : State → State) (s : State) : Nat × State :=
  let x := placeOf' a
  let st := wordStatus true x s
  if st = stOk then (stOk, h (traceWrite q x a w s)) else (st, wordRefused st x s)

/-- One word of a read burst. -/
def wordRead (q : Path) (a : Nat) (s : State) : Nat × Word × State :=
  let x := placeOf' a
  let st := wordStatus false x s
  if st = stOk then
    let r := placeRead q x a s
    (stOk, r.1, r.2)
  else (st, 0, s)

/-- A burst of `n` words is refused whole: misaligned, outside every space, or across a 4 KiB boundary (R27, R28, R50). -/
def burstAddressBad (a n : Nat) : Bool := a % 4 != 0 || placeOf' a == .outside || decide (0x1000 < a % 0x1000 + 4 * n)

/-- The words of a write burst in ascending order, up to the first that is refused (R51). -/
def writeWords (q : Path) : Nat → List Word → State → Nat × State
  | _, [], s => (stOk, s)
  | a, w :: ws, s =>
    let r := wordWrite q a w (placeWrite q (placeOf' a) w) s
    if r.1 = stOk then writeWords q (a + 4) ws r.2 else r

/-- The words of a read burst, with the first status that is not OK (R51). -/
def readWords (q : Path) : Nat → Nat → State → Nat × List Word × State
  | _, 0, s => (stOk, [], s)
  | a, n + 1, s =>
    let r := wordRead q a s
    let t := readWords q (a + 4) n r.2.2
    (if r.1 = stOk then t.1 else r.1, r.2.1 :: t.2.1, t.2.2)

/-- The last access of a path: its status and the words it returned. -/
def pathNote (q : Path) (st : Nat) (data : List Word) (s : State) : State :=
  let x := s.path q
  s.setPath q { x with status := st, data := data }

/-- The last write of a path; the quad-SPI target also keeps its status and counts it (R55). -/
def writeNote (q : Path) (st : Nat) (s : State) : State :=
  let s := pathNote q st [] s
  if q = .qspi then { s with qspi := ⟨st, (s.qspi.seq + 1) % 256⟩ } else s

/-- A write burst of 1 to 64 words (R51). -/
def burstWrite (q : Path) (a : Nat) (ws : List Word) (s : State) : Nat × State :=
  if ws.isEmpty || decide (64 < ws.length) then (stLength, pathNote q stLength [] s)
  else if burstAddressBad a ws.length then (stAddress, writeNote q stAddress (errInc 0 3 s))
  else
    let r := writeWords q a ws s
    (r.1, writeNote q r.1 r.2)

/-- A read burst of 1 to 64 words (R51). -/
def burstRead (q : Path) (a n : Nat) (s : State) : Nat × List Word × State :=
  if n = 0 ∨ 64 < n then (stLength, [], pathNote q stLength [] s)
  else if burstAddressBad a n then
    (stAddress, List.replicate n 0, pathNote q stAddress (List.replicate n 0) (errInc 0 3 s))
  else
    let r := readWords q a n s
    (r.1, r.2.1, pathNote q r.1 r.2.1 r.2.2)

/-- A burst that is cut off 16 µs after its first word (R54): its first `done` words are done, and it reports TIMEOUT unless a
word was refused before. Its status, the words it returns and the state. A READ whose first non-OK status is an earlier refusal times out
all the same and counts in ERR_COUNT2: R51 and R57 do not say whether it does, and this is the model's choice (log entry 99). -/
def burstTimeout (q : Path) (write : Bool) (a : Nat) (ws : List Word) (count done : Nat) (s : State) : Nat × List Word × State :=
  let n := if write then ws.length else count
  if n = 0 ∨ 64 < n ∨ n ≤ done ∨ burstAddressBad a n then (stOk, [], s)
  else if write then
    let r := writeWords q a (ws.take done) s
    if r.1 = stOk then (stTimeout, [], writeNote q stTimeout (errInc 0 2 r.2)) else (r.1, [], writeNote q r.1 r.2)
  else
    let r := readWords q a done s
    let data := r.2.1 ++ List.replicate (n - done) 0
    let st := if r.1 = stOk then stTimeout else r.1
    (st, data, pathNote q st data (errInc 0 2 r.2.2))

/-- A row that is one register write of a path: refused as any write is, else `h`. -/
def rowWrite (q : Path) (a : Nat) (w : Word) (h : State → State) (s : State) : State :=
  if !pathUp q s then s
  else if burstAddressBad a 1 then writeNote q stAddress (errInc 0 3 s)
  else
    let r := wordWrite q a w h s
    writeNote q r.1 r.2

/-- A row that is one register write, acting as any write of that address does. -/
def rowPut (q : Path) (a : Nat) (w : Word) (s : State) : State := rowWrite q a w (placeWrite q (placeOf' a) w) s

/-- A row that is one register read of a path. -/
def rowGet (q : Path) (a : Nat) (s : State) : State :=
  if pathUp q s then (burstRead q a 1 s).2.2 else s

/-! ## Quad-SPI (R52 to R56) -/

/-- CRC-16 of R53. -/
def crcBytes (l : List Byte) : List Byte := beBytes 2 (crc16 l)

/-- Words sent most significant byte first. -/
def wordBytes (l : List Word) : List Byte := l.flatMap fun w => beBytes 4 w.toNat

/-- Words received most significant byte first. -/
def bytesWords (n : Nat) (l : List Byte) : List Word := (List.range n).map fun i => beWord l i

/-- A WRITE whose bytes have all arrived (R53, R55). Bytes after its CRC-16, of which R55 says nothing, are not looked at (log entry 99). -/
def qspiWrite (b : List Byte) (s : State) : State :=
  let n := beAt b 5 1 + 1
  if beAt b 0 1 ≠ 2 then s
  else if b.length < 6 then errInc 0 1 s
  else if 64 < n then { s with qspi := { s.qspi with status := stLength } }
  else if b.length < 8 + 4 * n then errInc 0 1 s
  else if crc16 (b.take (6 + 4 * n)) ≠ beAt b (6 + 4 * n) 2 then
    errInc 0 0 { s with qspi := { s.qspi with status := stCheck } }
  else
    (burstWrite .qspi (beAt b 1 4) (bytesWords n (b.drop 6)) s).2

/-- What a READ drives: the marker, the words, their CRC-16 and the status (R53, R54). -/
def qspiAnswer (st : Nat) (ws : List Word) (s : State) : State :=
  emit (.qspi ([0xA5] ++ wordBytes ws ++ crcBytes (wordBytes ws) ++ [BitVec.ofNat 8 st])) s

/-- A READ (R53, R56); `cut`: MCU_CS_N rises before its answer is complete. -/
def qspiRead (a : Nat) (count : Nat) (cut : Bool) (s : State) : State :=
  let done := fun (st : Nat) (ws : List Word) (s : State) =>
    if cut then errInc 0 1 s else qspiAnswer st ws s
  if 0x3F < count then done stLength [] (pathNote .qspi stLength [] s)
  else
    let r := burstRead .qspi a (count + 1) s
    done r.1 r.2.1 r.2.2

/-- A transaction that MCU_CS_N cuts short (R56). -/
def qspiCut (b : List Byte) (s : State) : State :=
  match b with
  | [] => errInc 0 1 s
  | op :: _ =>
    if op = 0x02 then
      if 6 ≤ b.length ∧ 0x3F < beAt b 5 1 then { s with qspi := { s.qspi with status := stLength } }
      else if b.length < 6 ∨ b.length < 8 + 4 * (beAt b 5 1 + 1) then errInc 0 1 s
      else s
    else if op = 0x0B then
      if b.length < 6 then errInc 0 1 s else qspiRead (beAt b 1 4) (beAt b 5 1) true s
    else if op = 0x05 ∨ op = 0x9F then errInc 0 1 s
    else errInc 0 3 s

end Sys2Proof.Machine
end

