-- ==== Sys2Proof/Machine/PtpOps.lean ====
section
/-! DEFINITION. What leaves on the Ethernet port, and the ordinary clock that the time service runs on it (R278, R279, R281, R288). The
layout of PTP messages, the best master clock algorithm and the attributes of the default profile are IEEE 1588-2019's, to which R281
refers (log entry 68). -/
namespace Sys2Proof.Machine

/-- ETH_MAC as bytes. -/
def ethMac (s : State) : List Byte := beBytes 2 (s.rf Reg.ETH_MAC_HI 0 16) ++ beBytes 4 (s.reg Reg.ETH_MAC_LO).toNat

/-- ETH_IP. -/
def ethIp (s : State) : Nat := (s.reg Reg.ETH_IP).toNat

/-- The port receives and sends frames. -/
def ethOn (s : State) : Bool := s.enabled 0x41 && s.rb Reg.ETH_CTRL 0 && s.rb Reg.ETH_STATUS 2

/-- Ones' complement sum of 16-bit words, an odd last byte padded with 0. -/
def sum16 : List Byte → Nat
  | a :: b :: t => a.toNat * 256 + b.toNat + sum16 t
  | [a] => a.toNat * 256
  | [] => 0

/-- The UDP checksum over pseudo-header, header and payload (R279). -/
def udpSum (src dst sport dport : Nat) (p : List Byte) : Nat :=
  let n := beBytes 2 (8 + p.length)
  0xFFFF - sum16 (beBytes 4 src ++ beBytes 4 dst ++ beBytes 2 17 ++ n ++ beBytes 2 sport ++ beBytes 2 dport ++ n ++ beBytes 2 0 ++ p) % 0xFFFF

/-- A UDP datagram with its checksum (R279). -/
def udpOut (mac ip sport port : Nat) (b : List Byte) (s : State) : Out := .udp mac ip port b (udpSum (ethIp s) ip sport port b)

/-- No frame starts on ETH: the port is quiesced, or a launch is within its G of 12,304 ns (R288, R442). -/
def ethHold (s : State) : Bool := s.quiescing 0x41 || launchNear s.eth.lq 12304 s

/-- A PTP message: common header and body. `ctl` is controlField, `itv` logMessageInterval. -/
def ptpMessage (ty flags seq ctl itv : Nat) (body : List Byte) (s : State) : List Byte :=
  beBytes 1 ty ++ beBytes 1 2 ++ beBytes 2 (34 + body.length) ++ beBytes 1 (s.rf Reg.ETH_CTRL 8 8) ++ beBytes 1 0 ++ beBytes 2 flags ++
    beBytes 8 0 ++ beBytes 4 0 ++ ((ethMac s).take 3 ++ beBytes 2 0xFFFE ++ (ethMac s).drop 3) ++ beBytes 2 1 ++ beBytes 2 seq ++
    beBytes 1 ctl ++ beBytes 1 itv ++ body

/-- The port identity of this clock: its EUI-64 and port 1. -/
def ptpSelf (s : State) : List Byte := (ethMac s).take 3 ++ beBytes 2 0xFFFE ++ (ethMac s).drop 3 ++ beBytes 2 1

/-- A PTP timestamp of a press time in ns. -/
def ptpStamp (ns : Nat) : List Byte := beBytes 6 (ns / 1000000000) ++ beBytes 4 (ns % 1000000000)

/-- The ns of a PTP timestamp. -/
def ptpNs (m : List Byte) (o : Nat) : Nat := beAt m o 6 * 1000000000 + beAt m (o + 6) 4

/-- correctionField in whole ns. -/
def ptpCorr (m : List Byte) : Int := sgn 64 (beAt m 8 8) / (2 ^ 16 : Nat)

/-- A PTP message to the multicast group of the default profile, on port 319 or 320. -/
def ptpOut (port : Nat) (m : List Byte) (s : State) : Out := udpOut 0x01005E000181 0xE0000181 port port m s

/-- Replace the ordinary clock's state. -/
def State.setPtp (s : State) (x : PtpSt) : State := { s with eth := { s.eth with ptp := x } }

/-- Queue a frame or datagram on ETH. -/
def ethPut (x : EthTx) (s : State) : State := { s with eth := { s.eth with txq := s.eth.txq ++ [x] } }

/-- What a PTP event message does as it leaves, time-stamped: a Sync is followed by its Follow_Up, a Delay_Req takes T3 (R281). -/
def ptpLeft (ty seq : Nat) (s : State) : State :=
  if ty = 0 then
    ethPut ⟨ptpOut 320 (ptpMessage 8 0 seq 2 0 (ptpStamp (pressNs s)) s) s, none⟩ s
  else if s.eth.ptp.req = some seq then s.setPtp { s.eth.ptp with t3 := some s.timeNs64 }
  else s

/-- What waits on ETH leaves, oldest first, while nothing holds it; a link that is down loses it. -/
def ethFlush : Nat → State → State
  | 0, s => s
  | n + 1, s =>
    match s.eth.txq with
    | [] => s
    | x :: t =>
      if !ethOn s then { s with eth := { s.eth with txq := [] } }
      else if ethHold s then s
      else
        let s := stat 0x41 Reg.ETH_TX_FRAMES 1 (emit x.out { s with eth := { s.eth with txq := t } })
        ethFlush n (match x.ev with | some e => ptpLeft e.1 e.2 s | none => s)

/-- Send on ETH. -/
def ethSend (x : EthTx) (s : State) : State :=
  let s := ethPut x s
  ethFlush (2 * s.eth.txq.length) s

/-- A UDP reply of the register port leaves (R279). -/
def udpSend (mac ip port : Nat) (b : List Byte) (s : State) : State :=
  ethSend ⟨udpOut mac ip (s.rf Reg.ETH_REG_PORT 0 16) port b s, none⟩ s

/-! ## The ordinary clock (R281) -/

/-- The ordinary clock runs. -/
def ptpOn (s : State) : Bool := ethOn s && s.rb Reg.ETH_CTRL 2 && svcRuns 1 s

/-- SLAVE_ONLY. -/
def slaveOnly (s : State) : Bool := s.rb Reg.ETH_CTRL 3

/-- The clock's own attributes: priority1, clockClass, clockAccuracy, offsetScaledLogVariance, priority2, clockIdentity. -/
def ptpData (s : State) : List Nat :=
  [128, if slaveOnly s then 255 else 248, 0xFE, 0xFFFF, 128, beAt (ptpSelf s) 0 8]

/-- Lexicographic order. -/
def lexLt : List Nat → List Nat → Bool
  | a :: s, b :: t => decide (a < b) || (a == b && lexLt s t)
  | [], _ :: _ => true
  | _, [] => false

/-- Data set comparison: of one grandmaster the nearer announcer, else the better grandmaster. -/
def ptpBetter (a b : List Nat) : Bool :=
  if at' 0 a 5 = at' 0 b 5 then lexLt (a.drop 6) (b.drop 6) else lexLt (a.take 6) (b.take 6)

/-- The announce interval of the default profile, ns. -/
def annInterval : Nat := 2000000000

/-- The masters heard within the announce receipt timeout of three intervals. -/
def ptpAlive (s : State) : List PtpMaster := s.eth.ptp.masters.filter fun m => decide (s.now ≤ at' 0 m.heard 0 + 3 * annInterval)

/-- The best of the qualified masters: two Announces within four intervals. -/
def ptpBest (s : State) : Option PtpMaster :=
  ((ptpAlive s).filter fun m => decide (2 ≤ m.heard.length) && decide (s.now ≤ at' 0 m.heard 1 + 4 * annInterval)).foldl (fun b m =>
    match b with
    | some x => if ptpBetter m.data x.data then some m else some x
    | none => some m) none

/-- The state decision: SLAVE of the best master, MASTER where this clock is the better one or hears none, never with SLAVE_ONLY. -/
def ptpDecide (s : State) : State :=
  let x := { s.eth.ptp with masters := ptpAlive s }
  let x := { x with since := some (x.since.getD s.now) }
  let quiet := decide (x.since.getD s.now + 3 * annInterval ≤ s.now)
  s.setPtp (match ptpBest s with
    | some m =>
      if !slaveOnly s && ptpBetter (ptpData s) (m.data.take 6) then { x with st := 2, parent := [] }
      else if x.st = 1 ∧ x.parent = m.port then x
      else { x with st := 1, parent := m.port, sync := none, t1 := none, req := none, t3 := none }
    | none =>
      if slaveOnly s then (if x.st = 0 then x else { x with st := 0, since := some s.now, parent := [] })
      else if x.st ≠ 0 ∨ quiet then { x with st := 2, parent := [] } else x)

/-- A message is due: none has been sent, or the last one `ns` ago. -/
def ptpDue (at_ : Option Nat) (ns : Nat) (s : State) : Bool :=
  match at_ with
  | some t => decide (t + ns ≤ s.now)
  | none => true

/-- The clock acts as time passes: the state decision, and as MASTER an Announce every 2 s and a Sync every 1 s. -/
def ptpTick (s : State) : State :=
  if !ptpOn s then s
  else
    let s := ptpDecide s
    if s.eth.ptp.st ≠ 2 then s
    else
      let x := s.eth.ptp
      let s := if ptpDue x.annAt annInterval s then
          let d := ptpData s
          let body := ptpStamp 0 ++ beBytes 2 37 ++ beBytes 1 0 ++ beBytes 1 (at' 0 d 0) ++ beBytes 1 (at' 0 d 1) ++ beBytes 1 (at' 0 d 2) ++
            beBytes 2 (at' 0 d 3) ++ beBytes 1 (at' 0 d 4) ++ beBytes 8 (at' 0 d 5) ++ beBytes 2 0 ++ beBytes 1 0xA0
          ethSend ⟨ptpOut 320 (ptpMessage 11 0 x.annSeq 5 1 body s) s, none⟩
            (s.setPtp { x with annAt := some s.now, annSeq := (x.annSeq + 1) % 65536 })
        else s
      let x := s.eth.ptp
      if ptpDue x.syncAt 1000000000 s then
        ethSend ⟨ptpOut 319 (ptpMessage 0 0x0200 x.syncSeq 0 0 (ptpStamp 0) s) s, some (0, x.syncSeq)⟩
          (s.setPtp { x with syncAt := some s.now, syncSeq := (x.syncSeq + 1) % 65536 })
      else s

/-- An Announce is heard. -/
def ptpAnnounce (m : List Byte) (s : State) : State :=
  let src := (m.drop 20).take 10
  if src = ptpSelf s ∨ m.length < 64 ∨ 255 ≤ beAt m 61 2 then s
  else
    let heard := ((s.eth.ptp.masters.find? fun x => x.port == src).map (·.heard)).getD []
    let data := [beAt m 47 1, beAt m 48 1, beAt m 49 1, beAt m 50 2, beAt m 52 1, beAt m 53 8, beAt m 61 2, beAt src 0 10]
    s.setPtp { s.eth.ptp with masters := ⟨src, data, (s.now :: heard).take 2⟩ :: s.eth.ptp.masters.filter fun x => x.port != src }

/-- The time service passes an offset from PTP to the servo, by TIME_OFS_IN, and keeps the epoch's reference (R281, R283): `t2` is TIME at the
Sync, the others are press times in ns. -/
def ptpOffset (t1 : Int) (t2 : Nat) (t3 : Nat) (t4 : Int) (s : State) : State :=
  let p2 : Int := pressAt t2 s
  let o := divRound ((p2 - t1) - (t4 - pressAt t3 s)) 2
  let s := { s with time := { s.time with ref := some (t2, (p2 - o).toNat) } }
  if s.released 0x42 then timeOfsIn (W (wrapN 32 (clampI (-2147483648) 2147483647 o))) s else s

/-- A message of the ordinary clock arrives; `stamp` is TIME at its start-of-packet code group (R281, R287). -/
def ptpTake (m : List Byte) (stamp : Nat) (s : State) : State :=
  let x := s.eth.ptp
  let seq := beAt m 30 2
  let src := (m.drop 20).take 10
  let slave := x.st == 1 && x.parent == src
  match beAt m 0 1 % 16 with
  | 0 => if slave then s.setPtp { x with sync := some (seq, ((stamp : Int) - ptpCorr m).toNat), t1 := none, req := none, t3 := none } else s
  | 1 =>
    if x.st = 2 then
      ethSend ⟨ptpOut 320 (ptpMessage 9 0 seq 3 0 (ptpStamp (pressAt stamp s) ++ src) s) s, none⟩ s
    else s
  | 8 =>
    if slave && (x.sync.any fun e => e.1 == seq) && x.t1.isNone then
      ethSend ⟨ptpOut 319 (ptpMessage 1 0 x.reqSeq 1 0x7F (ptpStamp 0) s) s, some (1, x.reqSeq)⟩
        (s.setPtp { x with t1 := some ((ptpNs m 34 : Int) + ptpCorr m).toNat, req := some x.reqSeq, reqSeq := (x.reqSeq + 1) % 65536 })
    else s
  | 9 =>
    if slave && x.req == some seq && (m.drop 44).take 10 == ptpSelf s then
      match x.t1, x.sync, x.t3 with
      | some t1, some e, some t3 => ptpOffset t1 e.2 t3 ((ptpNs m 34 : Int) - ptpCorr m) (s.setPtp { x with req := none })
      | _, _, _ => s
    else s
  | 11 => ptpAnnounce m s
  | _ => s

end Sys2Proof.Machine
end

