-- ==== Sys2Proof/Machine/NetOps.lean ====
section
/-! DEFINITION. What reaches the chip in frames: Chain delivery and register requests (R273 to R277), and the Ethernet port with
its ARP, UDP and register messages (R278 to R281). -/
namespace Sys2Proof.Machine

/-! ## Chain -/

/-- A node may access registers (R276). -/
def regNode (src : Nat) (s : State) : Bool := s.rb (Reg.CHAIN_REGMASK (src / 32)) (src % 32)

/-- A REGRSP (R276). -/
def regRsp (src : Nat) (p : List Byte) (st : Nat) (ws : List Word) (s : State) : State :=
  chainSend 0x12 src 4 (.bytes (p.take 2 ++ beBytes 1 st ++ beBytes 1 ws.length ++ (p.drop 4).take 4 ++ wordBytes ws)) s

/-- A REGRD (R276). -/
def regRd (src : Nat) (p : List Byte) (s : State) : State :=
  if !regNode src s then count 0x40 Reg.CHAIN_DROP_REG s
  else if 63 < beAt p 2 1 then regRsp src p stLength [] s
  else
    let r := burstRead .chain (beAt p 4 4) (beAt p 2 1 + 1) s
    regRsp src p r.1 r.2.1 r.2.2

/-- A REGWR (R276). -/
def regWr (src : Nat) (p : List Byte) (s : State) : State :=
  let n := beAt p 2 1 + 1
  if !regNode src s then count 0x40 Reg.CHAIN_DROP_REG s
  else if 64 < n ∨ p.length ≠ 8 + 4 * n then regRsp src p stLength [] s
  else
    let r := burstWrite .chain (beAt p 4 4) (bytesWords n (p.drop 8)) s
    regRsp src p r.1 [] r.2

/-- An EVENT frame goes to the service firmware's log (R275). -/
def chainEvent (src : Nat) (p : List Byte) (s : State) : State := logEvent 0x40 ([BitVec.ofNat 8 src] ++ p) s

/-- A BAND segment or JOB payload (R275): delivered while ACCEPT is 1, else counted. -/
def chainData (job : Bool) (p : List Byte) (s : State) : State :=
  if s.rb Reg.INTAKE_CTRL 0 && s.released 0x10 then intakeTake job p s else count 0x40 Reg.CHAIN_DROP_ACCEPT s

/-- A frame for this node is delivered by its TYPE (R275). -/
def chainDeliver (port : Nat) (ty src : Nat) (p : List Byte) (age : Nat) (s : State) : State :=
  match ty with
  | 0x01 => chainData false p s
  | 0x02 => chainData true p s
  | 0x10 => regRd src p s
  | 0x11 => regWr src p s
  | 0x12 => errInc 0x40 1 s
  | 0x20 => timeSyncIn port p age s
  | 0x21 => timeDlyReqIn port p age s
  | 0x22 => timeDlyRspIn port p s
  | 0x30 => stakeReceive p s
  | 0x40 => mirrorIn p s
  | 0x50 => chainEvent src p s
  | 0x60 => keepIn src p s
  | _ => s

/-- A frame arrives on the lanes of a port (R269, R271 to R273). A lane that met an error symbol since the frame began has broken it
(R260). A frame is never forwarded on the port it arrived on; a TIME frame to another node is neither delivered nor forwarded. -/
def chainReceive (port : Nat) (lanes : List LaneStream) (symOk : Bool) (age : Nat) (s : State) : State :=
  let n := ((lanes.map fun x => x.body.length).foldl max 0) + 2
  let whole := symOk && !((portLanes port s).any fun l => frameBroken l n s)
  if !s.enabled 0x40 || !(s.chain.up.contains port) then s
  else match realign (portLanes port s).length lanes with
  | none => errInc 0x40 0 s
  | some fr =>
    match chainCheck port fr whole s with
    | .inl k => errInc 0x40 k s
    | .inr fwd =>
      let ty := beAt fr 0 1
      let dst := beAt fr 1 1
      let s := stat 0x40 Reg.CHAIN_RX_FRAMES 1 s
      let s := if dst == nodeId s || dst == 0xFF then
          chainDeliver port ty (beAt fr 2 1) ((fr.drop 8).take (beAt fr 4 2)) age s
        else s
      chainForward (fwd.filter (· != port)) fr s

/-! ## Ethernet -/

/-- A frame dropped (R278). -/
def ethDrop (s : State) : State := errInc 0x41 1 s

/-- A UDP register message of R279: header, data, CHK. -/
def udpMessage (p : List Byte) (st : Nat) (ws : List Word) : List Byte :=
  let b := beBytes 2 0x534B ++ beBytes 1 1 ++ beBytes 1 (beAt p 3 1 + 0x80) ++ (p.drop 4).take 2 ++ beBytes 1 st ++
    beBytes 1 ws.length ++ (p.drop 8).take 4 ++ wordBytes ws
  b ++ beBytes 4 (crc32c b)

/-- Keep the last reply of a source pair, 8 pairs at most (R280). -/
def udpKeep (r : UdpReply) (s : State) : State :=
  { s with eth := { s.eth with
      replies := (r :: s.eth.replies.filter fun k => !(k.ip == r.ip && k.port == r.port)).take 8 } }

/-- Execute a register request (R280, step 6): status and data. -/
def udpExec (p : List Byte) (s : State) : Nat × List Word × State :=
  let n := beAt p 6 1 + 1
  let s := stat 0x41 Reg.ETH_REG_REQS 1 s
  if beAt p 3 1 = 1 then burstRead .udp (beAt p 8 4) n s
  else
    let r := burstWrite .udp (beAt p 8 4) (bytesWords n (p.drop 12)) s
    (r.1, [], r.2)

/-- A UDP register request, judged in the order of R280. -/
def udpRequest (mac ip port : Nat) (p : List Byte) (s : State) : State :=
  let op := beAt p 3 1
  let n := beAt p 6 1 + 1
  let mask := s.reg Reg.ETH_ALLOW_MASK
  if p.length < 16 ∨ beAt p 0 2 ≠ 0x534B ∨ beAt p 2 1 ≠ 1 ∨ (op ≠ 1 ∧ op ≠ 2) then ethDrop s
  else if (W ip &&& mask) ≠ (s.reg Reg.ETH_ALLOW_IP &&& mask) then count 0x41 Reg.ETH_DROP_FILTER s
  else if crc32c (p.take (p.length - 4)) ≠ beAt p (p.length - 4) 4 then
    udpSend mac ip port (udpMessage p stCheck []) (errInc 0x41 2 s)
  else match s.eth.replies.find? fun k => k.ip == ip && k.port == port && k.tag == beAt p 4 2 with
    | some k => udpSend mac ip port k.bytes (stat 0x41 Reg.ETH_REG_REPLAYS 1 (udpKeep k s))
    | none =>
      if 64 < n ∨ p.length ≠ (if op = 1 then 16 else 16 + 4 * n) then
        let b := udpMessage p stLength []
        udpSend mac ip port b (udpKeep ⟨ip, port, beAt p 4 2, b⟩ s)
      else
        let r := udpExec p s
        let b := udpMessage p r.1 r.2.1
        udpSend mac ip port b (udpKeep ⟨ip, port, beAt p 4 2, b⟩ r.2.2)

/-- A burst that times out, and the answer its asker gets (R54, R276, R280). -/
def burstCut (q : Path) (write : Bool) (a : Nat) (ws : List Word) (count done : Nat) (asker : Asker) (s : State) : State :=
  match q, asker with
  | .chain, .node src tag =>
    let req := beBytes 2 tag.toNat ++ [0, 0] ++ beBytes 4 a
    if regNode src.toNat s then
      let r := burstTimeout q write a ws count done s
      regRsp src.toNat req r.1 r.2.1 r.2.2
    else s
  | .udp, .host mac ip port tag =>
    let req := beBytes 2 0x534B ++ beBytes 1 1 ++ beBytes 1 (if write then 2 else 1) ++ beBytes 2 tag.toNat ++ [0, 0] ++ beBytes 4 a
    let r := burstTimeout q write a ws count done (stat 0x41 Reg.ETH_REG_REQS 1 s)
    let b := udpMessage req r.1 r.2.1
    udpSend mac.toNat ip.toNat port.toNat b (udpKeep ⟨ip.toNat, port.toNat, tag.toNat, b⟩ r.2.2)
  | .qspi, _ =>
    let r := burstTimeout q write a ws count done s
    if write then r.2.2 else qspiAnswer r.1 r.2.1 r.2.2
  | _, _ => (burstTimeout q write a ws count done s).2.2

/-- An IPv4 header checksum is right (log entry 67). -/
def ipSumOk (h : List Byte) : Bool := sum16 h != 0 && sum16 h % 0xFFFF == 0

/-- An ARP packet: a request for ETH_IP is answered (R278). -/
def arpIn (src : List Byte) (p : List Byte) (s : State) : State :=
  if beAt p 0 4 = 0x00010800 ∧ beAt p 4 4 = 0x06040001 ∧ beAt p 24 4 = ethIp s then
    let b := src ++ ethMac s ++ beBytes 2 0x0806 ++ beBytes 4 0x00010800 ++ beBytes 4 0x06040002 ++ ethMac s ++
      beBytes 4 (ethIp s) ++ (p.drop 8).take 10
    ethSend ⟨.eth (b ++ List.replicate (60 - b.length) 0), none⟩ s
  else ethDrop s

/-- The ordinary clock takes this message: version 2, the domain PTP_DOMAIN, an event message on port 319 (a two-step Sync, a
Delay_Req) or a general one on port 320 (Follow_Up, Delay_Resp, Announce). One-step Sync, peer delay, signalling and management
messages are not supported (R281; the header is IEEE 1588's, log entry 68). -/
def ptpTaken (port : Nat) (m : List Byte) (s : State) : Bool :=
  let type := beAt m 0 1 % 16
  decide (34 ≤ m.length) && beAt m 1 1 % 16 == 2 && beAt m 4 1 == s.rf Reg.ETH_CTRL 8 8 &&
    (if port == 319 then (type == 0 && (beAt m 6 1).testBit 1) || type == 1 else type == 8 || type == 9 || type == 11)

/-- A PTP message arrives, `age` ns after its start-of-packet code group: what the ordinary clock supports is taken by it (R281). -/
def ptpIn (port : Nat) (m : List Byte) (age : Nat) (s : State) : State :=
  if ptpTaken port m s && svcRuns 1 s then ptpTake m (s.timeNs64 - age) s else s

/-- An IPv4 packet: UDP to ETH_REG_PORT, or to 319 and 320 while PTP_EN is set (R278, R281; log entry 68). -/
def ipIn (mac : Nat) (p : List Byte) (age : Nat) (s : State) : State :=
  let total := beAt p 2 2
  let u := (p.take total).drop 20
  let port := beAt u 2 2
  let len := beAt u 4 2
  let ptp := s.rb Reg.ETH_CTRL 2 && (port == 319 || port == 320)
  if beAt p 0 1 ≠ 0x45 ∨ !ipSumOk (p.take 20) ∨ beAt p 6 2 % 0x4000 ≠ 0 ∨ beAt p 9 1 ≠ 17 ∨ p.length < total ∨ total < 28 ∨
      len < 8 ∨ u.length < len then ethDrop s
  else if ptp && (beAt p 16 4 == ethIp s || beAt p 16 4 == 0xE0000181) then
    ptpIn port ((u.take len).drop 8) age s
  else if port = s.rf Reg.ETH_REG_PORT 0 16 ∧ beAt p 16 4 = ethIp s then
    udpRequest mac (beAt p 12 4) (beAt u 0 2) ((u.take len).drop 8) s
  else ethDrop s

/-- A frame arrives: destination MAC to the end of its payload (R278). -/
def ethReceive (fr : List Byte) (fcsOk : Bool) (age : Nat) (s : State) : State :=
  if !ethOn s then s
  else if !fcsOk then errInc 0x41 0 s
  else
    let dst := fr.take 6
    let mine := dst == ethMac s || dst == List.replicate 6 0xFF || (s.rb Reg.ETH_CTRL 2 && beAt fr 0 6 == 0x01005E000181)
    let s := stat 0x41 Reg.ETH_RX_FRAMES 1 s
    if fr.length < 60 ∨ 1514 < fr.length ∨ !mine then ethDrop s
    else if beAt fr 12 2 = 0x0806 then arpIn ((fr.drop 6).take 6) (fr.drop 14) s
    else if beAt fr 12 2 = 0x0800 then ipIn (beAt fr 6 6) (fr.drop 14) age s
    else ethDrop s

/-- Clause 36 synchronisation or clause 37 negotiation has changed (R278). -/
def ethLink (sync anDone fullDuplex remoteFault : Bool) (s : State) : State :=
  if !(s.enabled 0x41 && s.rb Reg.ETH_CTRL 0) then s
  else
    let s := { s with eth := { s.eth with full := fullDuplex } }
    ethJudge (s.setReg Reg.ETH_STATUS (W (ofBits [sync, anDone, s.rb Reg.ETH_STATUS 2, remoteFault])))

/-- The head launch entry of ETH, read as `b`, goes (R288). -/
def launchEth (e : LqEntry) (b : List Byte) (late : Bool) (s : State) : State :=
  let up := s.rb Reg.ETH_STATUS 2
  let s := lqDrop true s
  let s := s.setLq true (lqPost ⟨e.tag, late, !up, s.timeNs⟩ (s.lq true))
  if up then stat 0x41 Reg.ETH_TX_FRAMES 1 (emit (.eth b) s) else s

end Sys2Proof.Machine
end

