-- ==== Sys2Proof/Machine/ResetOps.lean ====
section
/-! DEFINITION. Start-up and reset: the chip reset, the domain release, the option loader, and the block resets (R400 to R417). -/
namespace Sys2Proof.Machine

/-! ## What a reset returns to its reset state -/

/-- The address ranges of a page: its 4 KiB and its table window. -/
def pageRanges (p : Nat) : List (Nat × Nat) :=
  (pg p 0, pg p 0 + 0x1000) :: (match p with
    | 0x14 => [(0x50000000, 0x51000000)]
    | 0x15 => [(0x51000000, 0x51100000)]
    | 0x17 => [(0x51100000, 0x51110000)]
    | 0x1C => [(0x51200000, 0x51210000)]
    | 0x24 => [(0x51300000, 0x51340000)]
    | _ => [])

/-- Every register and table word of a page returns to its reset value (R9). -/
def clearWords (p : Nat) (s : State) : State :=
  let s := each (pageRanges p) (fun r s =>
    { s with words := mclear r.1 r.2 s.words, live := mclear r.1 r.2 s.live,
             pQspi := { s.pQspi with snap := mclear r.1 r.2 s.pQspi.snap }, pChain := { s.pChain with snap := mclear r.1 r.2 s.pChain.snap },
             pUdp := { s.pUdp with snap := mclear r.1 r.2 s.pUdp.snap }, pSvc := { s.pSvc with snap := mclear r.1 r.2 s.pSvc.snap },
             map := { s.map with bad := s.map.bad.filter fun a => !(decide (r.1 ≤ a) && decide (a < r.2)) } }) s
  { s with evtOut := s.evtOut.filter (· != p),
           chip := { s.chip with padFree := s.chip.padFree.filter (· != p) } }

/-- The outputs of a page that stand active fall to their reset state (R412). -/
def outputsOff (p : Nat) (s : State) : State :=
  match p with
  | 0x17 => cutPulses s
  | 0x1C => if s.enabled 0x1C then cmpOff s else s
  | _ => s

/-- A band as it stands after INFL alone has been reset: what INFL held of it is gone. -/
def bandAfterInfl (b : Band) : Band :=
  match b.st with
  | .inflating => { b with st := .stored }
  | .verified => { b with st := .absent, recorded := false, begun := false, hdr := none, hdrBytes := [], next := 0, slot := none }
  | .mapping => { b with zero := true }
  | _ => b

/-- Apply `f` to every band INTAKE knows. -/
def mapBands (f : Band → Band) (s : State) : State :=
  { s with intake := { s.intake with
      queue := s.intake.queue.map fun q => (q.1, q.2.map f),
      seq := s.intake.seq.map fun p => { p with bands := p.bands.map f } } }

/-- What a page's block holds behind its registers returns to its reset state; levels of input pins stay. -/
def blockClear (p : Nat) (s : State) : State :=
  match p with
  | 0x10 => { s with intake := Reset.intake, infl := Reset.infl }
  | 0x11 => mapBands bandAfterInfl { s with infl := Reset.infl }
  | 0x14 => { s with map := { s.map with win0 := [], win1 := [], trimLive := [], trimStaged := [], held := [], heldAt := 0, op := 0,
                                         bad := s.map.bad.filter fun a => a < 2 ^ 32 } }
  | 0x16 => { s with delay := ⟨[], []⟩ }
  | 0x17 => { s with fire := { Reset.fire with pinLow := s.fire.pinLow, latch := s.fire.pinLow } }
  | 0x18 | 0x19 => { s with heads := [], failed := [] }
  | 0x1C =>
    let e := fun (x : EncSt) => { Reset.enc with a := x.a, b := x.b }
    { s with web := { Reset.web with enc0 := e s.web.enc0, enc1 := e s.web.enc1 } }
  | 0x20 | 0x21 | 0x22 | 0x23 => s.setCam (p - 0x20) { Reset.cam with model := (s.cam (p - 0x20)).model }
  | 0x24 => { s with insp := { s.insp with isp := none, mask := 0 } }
  | 0x25 =>
    { s with insp := { Reset.insp with isp := s.insp.isp, mask := s.insp.mask },
             cams := tmap Reset.cam 4 (l := s.cams) fun c => { c with frames := [], misses := [], model := Reset.cam.model } }
  | 0x28 =>
    { s with trav := Reset.trav,
             heads := tmap Reset.head 32 (l := s.heads) fun h => { h with queue := h.queue.filter fun c => c.src != .sub },
             failed := s.failed.filter fun f => f.2.1.src != .sub }
  | 0x40 => { s with chain := Reset.chain }
  | 0x41 => { s with eth := Reset.eth }
  | 0x48 => { s with dramc := { Reset.dramc with tokAt := s.now, mr4At := s.now }, fab := [] }
  | 0x50 => { s with deflE := [] }
  | 0x58 => { s with loop := Reset.loop, failed := s.failed.filter fun f => f.2.1.src != .heater }
  | 0x60 => { s with axes := tmap Reset.axis 4 (l := s.axes) fun x => { Reset.axis with homeIn := x.homeIn, limN := x.limN, limP := x.limP } }
  | 0x68 => { s with pair := Reset.pair }
  | 0x7F => { s with dbg := ⟨[], []⟩ }
  | _ =>
    if 0x30 ≤ p ∧ p ≤ 0x3B then
      each [0, 1, 2, 3] (fun i s => s.setLane (4 * (p - 0x30) + i) { Reset.lane with signal := (s.lane (4 * (p - 0x30) + i)).signal }) s
    else s

/-! ## Option values (R9, R407 to R409, R411) -/

/-- The Ethernet MAC in force. -/
def optMac (s : State) : List Byte := if beAt (optBlock s) 0x11 1 % 2 = 1 then ((optBlock s).drop 0x12).take 6 else s.chip.opt.mac

/-- The "opt", OTP and strap reset values of a page. -/
def optWords (p : Nat) (s : State) : List (Nat × Word) :=
  let b := optBlock s
  match p with
  | 0x03 =>
    (Reg.PACE_CTRL, W 0x00050002 ||| W (beAt b 0x0C 4)) ::
      (List.range 24).map fun i => (Reg.PACE_TABLE i, W (at' 0 s.chip.opt.pace i))
  | 0x40 => [(Reg.CHAIN_CTRL, put (W 0x1F3F) 0 6 (beAt b 0x10 1))]
  | 0x41 =>
    [(Reg.ETH_MAC_HI, W (beAt (optMac s) 0 2)), (Reg.ETH_MAC_LO, W (beAt (optMac s) 2 4)), (Reg.ETH_IP, W (beAt b 0x18 4))]
  | 0x48 => [(Reg.DRAM_CTRL, W (beAt b 0x08 4))]
  | 0x68 => [(Reg.PAIR_CLAIM, W s.chip.straps)]
  | _ => []

/-- A page comes out of reset with its option values. -/
def pageOut (p : Nat) (s : State) : State := each (optWords p s) (fun e s => s.setReg e.1 e.2) s

/-! ## The chip reset (R400 to R405, R410) -/

/-- The chip is in reset. -/
def inReset (s : State) : Bool := s.chip.por || s.chip.rstLow

/-- D1 to D8 are held in reset at once: every page but TALLY's returns to its reset state, block resets are discarded, and an
option load in progress is cut (R405, R410, R415). -/
def chipReset (s : State) : State :=
  let cut := if inReset s then s.chip.optCut else s.chip.loading || s.chip.verdictAt == some s.now
  let ps := pages.filter (· != 0x70)
  let s := each ps outputsOff s
  let s := each ps clearWords s
  let s := each ps blockClear s
  let chip := { s.chip with rel := 0, loading := false, verdictAt := none, optCut := cut, pend := [], run := none, padFree := [],
                            opt := { Reset.opt with valid := false, defaulted := false, otpValid := false, fail := 0 },
                            straps := 0, upSince := s.now, upWraps := 0 }
  { s with chip := chip, live := [], committed := [], incs := [], evtOut := [], pQspi := Reset.path, pChain := Reset.path, pUdp := Reset.path,
           pSvc := Reset.path, qspi := ⟨0, 0⟩, time := Reset.time, pace := { Reset.pace with vcore := s.pace.vcore },
           svc := Reset.svc }

/-- A monitored rail of D1 to D8 has stayed below its falling threshold (R401). -/
def porAssert (rail : Rail) (ns : Nat) (s : State) : State :=
  if ns < 1000 then s
  else
    let s := chipReset s
    let s := { s with chip := { s.chip with por := true } }
    if rail = .vio18 then { s with tally := { s.tally with live := false } } else s

/-- The reset ends by `cause` (R403). -/
def resetEnd (cause : Nat) (s : State) : State :=
  { s with chip := { s.chip with cause := cause, cold := s.chip.resets == 0, resets := (s.chip.resets + 1) % 2 ^ 32, since := s.now } }

/-- POR releases (R401, R403). -/
def porRelease (rstnRises : Bool) (s : State) : State :=
  if !s.chip.por then s
  else
    let s := { s with chip := { s.chip with por := false, porAt := some s.now, rstLow := s.chip.rstLow && !rstnRises },
                      tally := { s.tally with live := true } }
    if s.chip.rstLow then s else resetEnd 1 s

/-- RESET_N goes low and resets the chip. -/
def rstAssert (s : State) : State :=
  let s := chipReset s
  { s with chip := { s.chip with rstLow := true } }

/-- RESET_N has been low for `ns`: from 1 µs always a reset, below 200 ns never, between the two either (R402). -/
def rstLowFor (ns : Nat) (s : State) : State :=
  if 1000 ≤ ns then rstAssert s
  else if ns < 200 then s
  else
    let f := s.freeB
    if f.1 then rstAssert f.2 else f.2

/-- RESET_N rises (R403): at the instant POR releases, the cause is POR. -/
def rstRise (s : State) : State :=
  if !s.chip.rstLow then s
  else
    let s := { s with chip := { s.chip with rstLow := false } }
    if s.chip.por then s else resetEnd (if s.chip.porAt = some s.now then 1 else 2) s

/-! ## The option loader (R406 to R410) -/

/-- Every field of the block lies in range and every reserved bit is 0 (R407). -/
def optRangeOk (b : List Byte) : Bool :=
  decide (beAt b 5 1 < 8) && beAt b 6 2 == 0 && (W (beAt b 8 4) &&& ~~~(W 0x311F)) == 0 &&
  (W (beAt b 0x0C 4) &&& ~~~(W 0x7F05)) == 0 && decide (beAt b 0x10 1 < 64) && decide (beAt b 0x11 1 < 2) &&
  ((b.drop 0x1C).take 224).all (· == 0)

/-- OPT_FAIL: the first condition of R408 that fails, 0 for none. -/
def optFail (b : List Byte) : Nat :=
  if beAt b 0 4 ≠ 0x534B4F42 then 1
  else if beAt b 4 1 ≠ 1 then 2
  else if crc32c (b.take 252) ≠ beAt b 252 4 then 3
  else if !optRangeOk b then 4
  else 0

/-- The loader's verdict: OTP factory block and option block (R408, R409). -/
def optionVerdict (answers otpOk : Bool) (s : State) : State :=
  if s.chip.rel ≠ 1 || !s.chip.loading then s
  else
    let b := if answers then s.flashRead 0 256 else List.replicate 256 0xFF
    let fail := optFail b
    let otp := s.chip.otp
    let opt : OptSt :=
      { valid := true, defaulted := fail != 0, otpValid := otpOk, fail := fail, check := beAt b 252 4, calcCrc := crc32c (b.take 252),
        block := b, pace := if otpOk then otp.pace else List.replicate 24 950,
        keyHash := if otpOk then otp.keyHash else List.replicate 32 0, mac := if otpOk then otp.mac else List.replicate 6 0 }
    { s with chip := { s.chip with opt := opt, loading := false, verdictAt := some s.now, since := s.now } }

/-! ## The domain release (R404) -/

/-- The gap before the next domain, in beats. -/
def releaseBeats (rel : Nat) : Nat := match rel with | 0 => 16 | 3 => 32 | _ => 8

/-- What the release of a domain starts. -/
def domainStarts (d : Nat) (straps : Nat) (readErr : BitVec 2) (s : State) : State :=
  if d = 1 then { s with chip := { s.chip with loading := true } }
  else if d = 2 then
    let s := { s with chip := { s.chip with upSince := s.now, upWraps := 0 } }
    let s := if s.chip.opt.defaulted then raise 2 8 s else s
    if s.chip.opt.otpValid then s else raise 2 9 s
  else if d = 4 then svcBoot readErr s
  else if d = 5 then
    let s := { s with chip := { s.chip with straps := straps } }
    pageOut 0x68 s
  else s

/-- The next domain is released once its gap has passed (R404). -/
def domainRelease (beat straps : Nat) (readErr : BitVec 2) (s : State) : State :=
  let d := s.chip.rel + 1
  if inReset s || decide (8 < d) || s.chip.loading || decide (s.now < s.chip.since + releaseBeats s.chip.rel * beat) then s
  else
    let s := { s with chip := { s.chip with rel := d, since := s.now } }
    let s := each (pages.filter fun p => domainOf p == d) pageOut s
    let s := if 2 ≤ d then s.setReg Reg.RST_BEAT_NS (W (beat % 4096)) else s
    domainStarts d straps readErr s

/-! ## The island (R377, R401) -/

/-- VSTBY has stayed below 1.00 V: the island stands in reset, and a burn in progress is lost or done (R380). -/
def islandDown (ns : Nat) (s : State) : State :=
  if ns < 1000 then s
  else
    let s := { s with chip := { s.chip with island := true } }
    match s.tally.burn with
    | none => s
    | some b =>
      let f := s.freeB
      let t := f.2.tally
      { f.2 with tally := { t with burn := none, audit := if f.1 then t.audit ++ [b.1] else t.audit } }

/-- VSTBY has returned: the island's power-on reset (R377, R403). -/
def islandUp (retOk romOk : Bool) (s : State) : State :=
  if s.chip.island then
    { s with tally := tallyPowerOn retOk romOk s.tally, chip := { s.chip with island := false, cause := 0, cold := true, resets := 0 } }
  else s

/-! ## Block resets (R414, R415) -/

/-- The controller takes the pending request of the lowest group and asks its pages to quiesce. -/
def blockStart (s : State) : State :=
  if s.chip.run.isSome ∨ s.chip.rel < 2 then s
  else match s.chip.pend with
  | [] => s
  | r0 :: t =>
    let r := t.foldl (fun (m r : BlkReset) => if r.group < m.group then r else m) r0
    let s := { s with chip := { s.chip with pend := s.chip.pend.erase r, run := some r } }
    let s := s.setReg Reg.RST_BUSY (W (1 + 256 * r.group))
    each (blkGroup r.page) quiesceReq s

/-- The group is held in reset (R414, R415). -/
def blockHold (forced : Bool) (r : BlkReset) (s : State) : State :=
  let ps := blkGroup r.page
  let epoch := s.rf Reg.PAIR_CLAIM 4 12
  let s := if forced then errInc 1 0 (raise 1 9 s) else s
  let s := if forced && r.page == 0x60 then each (List.range 4) axisStop s else s
  let s := each ps outputsOff s
  let s := each ps clearWords s
  let s := each ps blockClear s
  let s := each ps pageOut s
  let s := if 0x68 ∈ ps then s.setF Reg.PAIR_CLAIM 4 12 epoch else s
  let s := { s with chip := { s.chip with run := some { r with forced := forced, held := some s.now } } }
  chainLinks (each lanes48 showTx s)

/-- The hold begins when every page of the group reads QUIESCED (R414). -/
def blockHoldNow (s : State) : State :=
  match s.chip.run with
  | some r => if r.held.isNone && (blkGroup r.page).all fun p => quiesced p s then blockHold false r s else s
  | none => s

/-- The quiesce timeout of every page that does not read QUIESCED has passed since the request (R414). -/
def quiesceTimeout (s : State) : State :=
  match s.chip.run with
  | some r =>
    let ps := blkGroup r.page
    let late := fun p => decide (r.at_ + s.rf (Reg.RST_QUIESCE_TIMEOUT p) 0 16 * 1000 ≤ s.now)
    if r.held.isNone && (ps.all fun p => quiesced p s || late p) && !(ps.all fun p => quiesced p s) then blockHold true r s else s
  | none => s

/-- The group is released after 16 beats (R414, R416). -/
def blockRelease (beat : Nat) (s : State) : State :=
  match s.chip.run with
  | some r =>
    match r.held with
    | some t =>
      if s.now < t + 16 * beat then s
      else
        let s := { s with chip := { s.chip with run := none } }
        let s := each (blkGroup r.page) (fun p s => s.setB (Reg.pageStatus p) 5 r.forced) s
        let s := s.setReg Reg.RST_LAST (W (r.group + 256 * r.forced.toNat))
        let s := (s.setReg Reg.RST_LAST_TIME (W s.timeNs)).setReg Reg.RST_BUSY 0
        raise 1 8 (stat 1 Reg.RST_BLK_RESETS 1 (s.setReg Reg.RST_BEAT_NS (W (beat % 4096))))
    | none => s
  | none => s

/-! ## Pins and counters of SYS, GPIO and DEBUG -/

/-- The level GPIO[n] drives, none while it is an input (R436). -/
def gpioDrive (n : Nat) (s : State) : Option Bool :=
  if s.rb Reg.GPIO_DIR n && s.enabled 0x7E && !bit ((viewRest 0x7E 0x064 s).getD 0) n then some (s.rb Reg.GPIO_OUT n) else none

/-- A debounced level of a GPIO input (R436). -/
def gpioEdge (n : Nat) (level : Bool) (s : State) : State :=
  if !s.released 0x7E || (gpioDrive n s).isSome || s.rb Reg.GPIO_IN n == level then s
  else
    let s := s.setB Reg.GPIO_IN n level
    if s.rb (if level then Reg.GPIO_RISE else Reg.GPIO_FALL) n then raise 0x7E 8 (s.setB Reg.GPIO_EDGE n true) else s

/-- A byte received on DBG_RX (R438). -/
def dbgRx (b : Byte) (s : State) : State :=
  if !s.enabled 0x7F || !s.rb Reg.DEBUG_UART_CTRL 0 then s
  else if 16 ≤ s.dbg.rx.length then errInc 0x7F 0 (raise 0x7F 9 s)
  else { s with dbg := { s.dbg with rx := s.dbg.rx ++ [b] } }

/-- The oldest byte of the transmit FIFO has left on DBG_TX (R438). -/
def dbgTx (s : State) : State :=
  match s.dbg.tx with
  | b :: t => if s.enabled 0x7F then emit (.dbg b) { s with dbg := { s.dbg with tx := t } } else s
  | [] => s

/-- SYS_UPTIME wraps (R40, R57). -/
def uptimeWrap (s : State) : State :=
  if 2 ≤ s.chip.rel ∧ 2 ^ 48 * (s.chip.upWraps + 1) ≤ uptime s then
    raise 0 2 { s with chip := { s.chip with upWraps := s.chip.upWraps + 1 } }
  else s

/-- CUE: an accepted edge of the cue input (R81, R197): a rising one, while CUE_EN is 1, latches the position. The filter rejects a level
held for less than its length. -/
def cueEdge (rising : Bool) (s : State) : State :=
  if s.web.cueIn.any (fun q => q.1 == rising) || !filtered 0 1 (s.web.cueIn.map (·.2)) s then s else
  let s := if s.released 0x1C then { s with web := { s.web with cueIn := some (rising, s.now) } } else s
  if rising && s.released 0x1C && s.rb Reg.INTAKE_CTRL 1 then
    let x := srcX s
    let s := (s.setReg Reg.WEB_CUE_POS (W x)).setReg Reg.WEB_CUE_T (W (encStamp 0 s))
    cueFix x (raise 0x1C 22 s)
  else s

end Sys2Proof.Machine
end

