-- ==== Sys2Proof/Machine/Settle.lean ====
section
/-! DEFINITION. What follows at once from any change, whatever made it: the end of every command's effect. -/
namespace Sys2Proof.Machine

/-- Head commands that ended without a response return to their owners (R172, R187, R245, R334, R393). -/
def failedBack : Nat → State → State
  | 0, s => s
  | fuel + 1, s =>
    if s.failed.isEmpty then s
    else
      failedBack fuel (each s.failed (fun f s =>
        match f.2.1.src with
        | .sub => subEnded f.1 false s
        | .heater => heaterEnded f.1 f.2.1.params false s
        | .mgmt => svcIdent f.1 none s
        | _ => s) { s with failed := [] })

/-- The line period in ns while a forward speed is valid (R74). -/
def linePeriod (s : State) : Option Nat :=
  if fwdValid s then some (num s * srcTc s / (256 * den s)) else none

/-- EVENT frames of the pages that have gained a pending bit routed to Chain (R38). -/
def eventFrames (s : State) : State :=
  let ps := s.evtOut.eraseDups
  each ps (fun p s => chainSend 0x50 (s.rf (Reg.evtRoute p) 8 6) 4 (.event p) s) { s with evtOut := [] }

/-- The registers that follow the state of more than one block (R73, R155, R359, R363, R444). -/
def follow (s : State) : State :=
  let s := checkPos s
  let s := lineBoundaryNow s
  let s := if s.released 3 then guarUpdate (linePeriod s) s else s
  let s := mirrorNow (pairAlign (pairDemote s))
  blockHoldNow (seqFree s)

/-- The fault condition of a block (R34): a head's watchdog fault is latched (R154), an encoder is declared faulty (R194), a loop slot is
in its safe output (R336), a core has halted on a fault (R388). No other block holds one (log entry 90). -/
def faultCond (p : Nat) (s : State) : Bool :=
  match p with
  | 0x09 => [0, 1, 2, 3].any fun c => coreState c s == 2
  | 0x17 => s.reg Reg.FIRE_WDOG != 0
  | 0x1C => s.web.enc0.faulty || s.web.enc1.faulty
  | 0x58 => [0, 1, 2, 3].any fun w => s.reg (Reg.LOOP_SAFE_ACT w) != 0
  | _ => false

/-- The pages whose block can hold a fault condition. -/
def faultPages : List Nat := [0x09, 0x17, 0x1C, 0x58]

/-- PAGE_STATUS.FAULT of every page follows (R34). -/
def faultsShow (s : State) : State := each faultPages (fun p s => faultShow p (faultCond p s) s) s

/-- A lane that has sent its last frame before an electrical idle asked for enters it (R258, R414). -/
def lanesIdle (s : State) : State := each (s.lanes.filter fun e => e.2.tx) (fun e s => showTx e.1 s) s

/-- A head command waits to be sent. -/
def headWaits (x : HeadSt) : Bool := x.run.isNone && !x.queue.isEmpty

/-- Frames that waited for their lane start as it is free (R167, R187, R257). -/
def lanesStart (s : State) : State :=
  let s := each s.chain.up chainStart s
  let s := each (s.heads.filter fun e => headWaits e.2) (fun e s => pumpHead e.1 (e.2.queue.length + 2) s) s
  ethFlush (2 * s.eth.txq.length) s

/-- The frame of a launch queue's head entry is read from DRAM, on port 9, as the entry reaches the head (R289). -/
def lqHead (eth : Bool) (s : State) : State :=
  match (s.lq eth).q with
  | e :: _ => if e.bytes.isNone && dramReady s then dramReq 9 false (e.addr * 64) e.len (lqFetch eth s) else s
  | [] => s

/-- The end of every command's effect. -/
def settle (s : State) : State :=
  let s := ptpTick (lanesStart (lanesIdle (lqHead true (lqHead false (camArrive s)))))
  let s := resyncDue s
  let s := failedBack (s.failed.length + s.trav.wait.length + 8) s
  irqShow (traceDrain (eventFrames (faultsShow (follow (learnExpire s)))))

/-- A command's effect `f`, `dt` ns after the last: time passes, `f` acts, and what follows at once follows. -/
def run (dt : Nat) (f : State → State) (s : State) : Host.Outcome State Fault Refusal := .next (settle (f (s.elapse dt)))

end Sys2Proof.Machine
end

