-- ==== Sys2Proof/Machine/ExecRegs.lean ====
section
/-! DEFINITION. The commands of the register pages and the quad-SPI target (R27 to R57). -/
namespace Sys2Proof.Machine

/-- The effect of an event row on a block: nothing while the page's domain is in reset. -/
def onPage (p : Nat) (f : State → State) (s : State) : State := if s.released p then f s else s

/-- A header row: one register write of page `p`, with `f` where the page exists. -/
def headerRow (q : Path) (p off : Nat) (w : Word) (f : State → State) (s : State) : State :=
  rowWrite q (pg p off) w (fun s => if p ∈ pages then f s else s) s

/-- REGISTER_WRITE: a write of any register or table word; every width but 32 bits is refused ADDRESS (R28, R50, R51). -/
def execRegisterWrite (dt : Nat) (path : Path) (width : Nat) (addr : BitVec 32) (data : Word) (s : State) :
    Host.Outcome State Fault Refusal :=
  run dt (fun s =>
    if width = 4 then rowPut path addr.toNat data s
    else if pathUp path s then writeNote path stAddress (errInc 0 3 s)
    else s) s

/-- WIDE_COUNTER_READ: the low word of a wide counter is read, its upper part latched for the path (R42). -/
def execWideCounterRead (dt : Nat) (path : Path) (addr : BitVec 32) (s : State) : Host.Outcome State Fault Refusal :=
  run dt (rowGet path addr.toNat) s

/-- ENABLE: PAGE_CTRL.ENABLE is written (R32). -/
def execEnable (dt : Nat) (path : Path) (page : Fin 128) (on : Bool) (s : State) : Host.Outcome State Fault Refusal :=
  run dt (fun s => headerRow path page 0x004 (putBit (s.reg (Reg.pageCtrl page)) 0 on) (enableWrite page on) s) s

/-- QUIESCE_REQ: PAGE_CTRL.QUIESCE_REQ is written 1 (R442). -/
def execQuiesceReq (dt : Nat) (path : Path) (page : Fin 128) (s : State) : Host.Outcome State Fault Refusal :=
  run dt (fun s => headerRow path page 0x004 (putBit (s.reg (Reg.pageCtrl page)) 1 true) (quiesceReq page) s) s

/-- QUIESCE_RELEASE: PAGE_CTRL.QUIESCE_REQ is written 0 (R442). -/
def execQuiesceRelease (dt : Nat) (path : Path) (page : Fin 128) (s : State) : Host.Outcome State Fault Refusal :=
  run dt (fun s => headerRow path page 0x004 (putBit (s.reg (Reg.pageCtrl page)) 1 false) (quiesceRelease page) s) s

/-- QUIESCE_COMPLETE: the units of work in progress at a request have all completed (R442). -/
def execQuiesceComplete (dt : Nat) (page : Fin 128) (s : State) : Host.Outcome State Fault Refusal :=
  run dt (fun s => if page.val ∈ pages then onPage page (quiesceCheck page) s else s) s

/-- RESET_REQ: PAGE_CTRL.RESET_REQ is written 1 (R414, R415). -/
def execResetReq (dt : Nat) (path : Path) (page : Fin 128) (s : State) : Host.Outcome State Fault Refusal :=
  run dt (fun s => headerRow path page 0x004 (putBit (s.reg (Reg.pageCtrl page)) 2 true) (resetReq page) s) s

/-- SHADOW_COMMIT: PAGE_CTRL.SHADOW_COMMIT is written 1 (R43). -/
def execShadowCommit (dt : Nat) (path : Path) (page : Fin 128) (s : State) : Host.Outcome State Fault Refusal :=
  run dt (fun s => headerRow path page 0x004 (putBit (s.reg (Reg.pageCtrl page)) 3 true) (shadowCommit page) s) s

/-- ABORT: PAGE_CTRL.ABORT is written 1 (R47). -/
def execAbort (dt : Nat) (path : Path) (page : Fin 128) (s : State) : Host.Outcome State Fault Refusal :=
  run dt (fun s => headerRow path page 0x004 (putBit (s.reg (Reg.pageCtrl page)) 4 true) (pageAbort page) s) s

/-- DISCARD: SHADOW_CTRL.DISCARD is written 1 (R44). -/
def execDiscard (dt : Nat) (path : Path) (page : Fin 128) (s : State) : Host.Outcome State Fault Refusal :=
  run dt (fun s => headerRow path page 0x028 (putBit (s.reg (Reg.shadowCtrl page)) 1 true) (shadowDiscard page) s) s

/-- PAGE_LOCK_WRITE: PAGE_LOCK is written (R45). -/
def execPageLockWrite (dt : Nat) (path : Path) (page : Fin 128) (data : Word) (s : State) : Host.Outcome State Fault Refusal :=
  run dt (headerRow path page 0x02C data (pageLockWrite page data)) s

/-- EVT_STATUS_CLEAR: EVT_STATUS bits are cleared, but for those whose event falls on the same instant (R36). -/
def execEvtStatusClear (dt : Nat) (path : Path) (page : Fin 128) (data again : Word) (s : State) :
    Host.Outcome State Fault Refusal :=
  run dt (headerRow path page 0x00C data (evtClear page data again)) s

/-- QSPI_WRITE: a WRITE transaction, whole (R53, R55). -/
def execQspiWrite (dt : Nat) (bytes : List Byte) (s : State) : Host.Outcome State Fault Refusal :=
  run dt (fun s => if pathUp .qspi s then qspiWrite bytes s else s) s

/-- QSPI_STATUS: a STATUS transaction (R54). -/
def execQspiStatus (dt : Nat) (s : State) : Host.Outcome State Fault Refusal :=
  run dt (fun s =>
    if pathUp .qspi s then emit (.qspi [0xA5, BitVec.ofNat 8 s.qspi.status, BitVec.ofNat 8 s.qspi.seq]) s else s) s

/-- QSPI_READ: a READ transaction, whole (R53, R54, R56). -/
def execQspiRead (dt : Nat) (addr : BitVec 32) (count : Byte) (s : State) : Host.Outcome State Fault Refusal :=
  run dt (fun s => if pathUp .qspi s then qspiRead addr.toNat count.toNat false s else s) s

/-- QSPI_IDENT: an IDENT transaction returns SYS_ID (R53). -/
def execQspiIdent (dt : Nat) (s : State) : Host.Outcome State Fault Refusal :=
  run dt (fun s => if pathUp .qspi s then emit (.qspi (beBytes 4 (s.reg Reg.SYS_ID).toNat)) s else s) s

/-- QSPI_RESERVED_OPCODE: a transaction with a reserved opcode (R53). -/
def execQspiReservedOpcode (dt : Nat) (op : Byte) (s : State) : Host.Outcome State Fault Refusal :=
  run dt (fun s =>
    if pathUp .qspi s && !([0x02, 0x05, 0x0B, 0x9F].contains op.toNat) then errInc 0 3 s else s) s

/-- QSPI_CUT_SHORT: MCU_CS_N rises before the transaction's end (R56). -/
def execQspiCutShort (dt : Nat) (bytes : List Byte) (s : State) : Host.Outcome State Fault Refusal :=
  run dt (fun s => if pathUp .qspi s then qspiCut bytes s else s) s

/-- BURST_TIMEOUT: a burst is not complete 16 µs after its first word (R54). -/
def execBurstTimeout (dt : Nat) (path : Path) (asker : Asker) (addr : BitVec 32) (words : Option (List Word)) (count done : Nat)
    (s : State) : Host.Outcome State Fault Refusal :=
  run dt (fun s => if pathUp path s then burstCut path words.isSome addr.toNat (words.getD []) count done asker s else s) s

end Sys2Proof.Machine
end

