-- ==== Sys2Proof/Machine/ExecFire.lean ====
section
/-! DEFINITION. The commands of the delay line and firing (R128 to R159). -/
namespace Sys2Proof.Machine

/-- The row reads a step has issued enter DRAM port 1, those of lines without DRAM access apart (R137, R141, R297, R302). -/
def readReqs (from_ : Nat) (s : State) : State :=
  each (s.fire.reads.filter fun r => decide (from_ ≤ r.tick)) (fun r s =>
    match r.line with
    | some k => if lineStored k s then dramReq 1 false (lineAddr k s + (headSeg r.h s).1) (headSeg r.h s).2 s else s
    | none => s) s

/-- FIRE evaluates the web position (R141, R144). -/
def fireStep (ser : Nat) (s : State) : State :=
  let n := s.fire.nextRead
  readReqs n (fireEval lineBoundary ser s)

/-- A frame window of every port whose trigger output has hit, to open once the hit's instant is past (R211). -/
def hitWindows (hits : List (Nat × Nat)) (t : Nat) (s : State) : State :=
  each (List.range 4) (fun p s => each hits (fun h s =>
    if camOn p s && s.lb (Reg.CAM_CTRL p) 19 && s.lf (Reg.CAM_CTRL p) 16 3 == h.1 then
      let c := s.inForce (Reg.CAM_WINDOW p)
      let w : CamWin := ⟨h.2, t % 2 ^ 32, s.now + fld c 0 16 * 1000, s.now + fld c 16 16 * 1000, s.now⟩
      s.setCam p { s.cam p with hits := (s.cam p).hits ++ [w] }
    else s) (if hits.isEmpty then s else camArrive s)) s

/-- While the stake is the position source compare hits follow the extrapolated position (R206). -/
def stakeHits (s : State) : State :=
  match s.web.src with
  | .stake | .stakeFb =>
    let h := cmpHitsTo (presentPos 1 s) s.timeNs64 s
    hitWindows h.2 s.timeNs64 h.1
  | _ => s

/-- A row read returns (R134, R138, R140). -/
def rowReturn (h r ser : Nat) (s : State) : State :=
  match s.fire.reads.find? fun x => x.h == h && x.r == r && x.levels.isNone with
  | none => s
  | some x =>
    -- a line in DRAM waits while the memory is out of service (R308)
    if (x.line.any fun k => lineStored k s) && !dramReady s then s
    else
    let f := match x.line with
      | some k => rowFetch k h r s
      | none => ((List.replicate (headCount h s) 0, false), s)
    let s := f.2
    let s := { s with fire := { s.fire with reads := s.fire.reads.map fun y =>
      if y.tick = x.tick ∧ y.h = h ∧ y.r = r then { y with levels := some f.1.1, bad := f.1.2 } else y } }
    let waits := s.fire.ticks.any fun t => t.serial == x.tick && t.st == 1 && t.heads.any fun z => z.h == h && !z.sent
    if waits && rowsDone x.tick h s then buildFrame x.tick h ser s else s

/-- The JOB_ID of tick `k`: that of the page last placed at or before it on the grid (log entry 70). -/
def tickJob (k : Nat) (s : State) : Nat :=
  ((s.insp.pages.filter fun q => decide (q.1 ≤ k)).getLast?.map fun q => q.2.2.1).getD 0

/-- A head's committed trigger instant comes (R145, R156, R157, R183). -/
def triggerEdge (h : Nat) (s : State) : State :=
  let due := s.fire.ticks.filterMap fun t => if t.st = 2 then
      (t.heads.find? fun x => x.h == h && (match x.trig with | some i => (tapAt i s).isSome | none => false)).map (t.serial, ·)
    else none
  match due with
  | [] => s
  | (k, x) :: _ =>
    let up := headUp h s
    let s := setHeadTick k h (fun _ => none) s
    let s := { s with fire := { s.fire with ticks := s.fire.ticks.filter fun t => !(t.serial == k && t.heads.isEmpty) } }
    -- the trigger of a lost head is held inactive (R156)
    if !up then histClear h k (markShares k [h] s)
    else
    let s := { s with fire := { s.fire with
      trigOn := tset none s.fire.trigOn h x.trig } }
    let y := s.head h
    let s := s.setHead h { y with nextEdge := (y.nextEdge + 1) % 65536, edges := ((y.nextEdge, k) :: y.edges).take 64 }
    let s := (emit (.trig h true ((x.trig.bind fun i => tapAt i s).getD 0)) s).setF (Reg.HEADS_EDGE h) 0 16 y.nextEdge
    let n := fun v => (x.levels.filter (· == v)).length
    if pairEn s && s.pair.role == 2 then s else tallyDrop (tickJob k s) (n 1) (n 2) (n 3) s

/-- The trigger pair returns inactive after FIRE_PULSE (R145). -/
def pulseEnd (h : Nat) (s : State) : State :=
  match tget none s.fire.trigOn h with
  | some i =>
    match tapAt (i + 4 * s.rf Reg.FIRE_PULSE 0 12) s with
    | some tap => emit (.trig h false tap) { s with fire := { s.fire with trigOn := tset none s.fire.trigOn h none } }
    | none => s
  | none => s

/-- The frames of a head whose segments are still pending are given up (R154). -/
def dropPending (h : Nat) (s : State) : State :=
  each s.fire.ticks (fun t s =>
    if t.heads.any fun x => x.h == h && !x.sent then markShares t.serial [h] (setHeadTick t.serial h (fun x => if x.sent then some x else none) s)
    else s) s

/-- The strobe watchdog forces a pair inactive (R154). -/
def strobeFault (h : Nat) (s : State) : State :=
  match tget none s.fire.trigOn h with
  | some t =>
    if 10 * (nowQ s - t) < 32 * s.rf Reg.FIRE_MAX_WIDTH 0 16 then s
    else
      let s := emit (.trig h false 0) { s with fire := { s.fire with trigOn := tset none s.fire.trigOn h none } }
      flushHead h (dropPending h <| errInc 0x17 2 (raise 0x17 12 (s.setB Reg.FIRE_WDOG h true)))
  | none => s

/-- The heads whose committed edges lie in [a, b), in 250 ps. -/
def edgesIn (a b : Nat) (s : State) : List Nat :=
  heads32.filter fun h => s.fire.ticks.any fun t => t.st == 2 && t.heads.any fun x =>
    x.h == h && (match x.trig with | some i => decide (a ≤ i) && decide (i < b) | none => false)

/-- ESTOP_N low: the gate and the latch of FIRE (R152). -/
def estopIn (latched : Bool) (ns : Nat) (s : State) : State :=
  if !s.released 0x17 then s
  else
    let b := 4 * (s.timeNs64 + 1)
    let a := b - 4 * (ns + 1)
    let hs := edgesIn a b s
    let s := each hs flushHead (suppressEdges a b (cutPulses s))
    if latched then estopLatch s else s

/-- ESTOP_N changes (R152, R350). A low pulse shorter than 5 ns may or may not be latched (log entry 71). -/
def estopPin (low : Bool) (ns : Nat) (s : State) : State :=
  if !low then { s with fire := { s.fire with pinLow := false } }
  else
    let f := if 0 < ns ∧ ns < 5 then s.freeB else (true, s)
    let s := f.2
    let s := if ns = 0 then { s with fire := { s.fire with pinLow := true } } else s
    let s := estopIn f.1 ns s
    if f.1 && s.released 0x60 then
      each (List.range 4) (fun a s => if s.rb (Reg.MOTION_CFG a) 2 then axisFault a 12 s else s) s
    else s

/-- FIRE_PITCH_DEN_WRITE: the denominator is held for the next FIRE_PITCH_NUM (R130). -/
def execFirePitchDenWrite (dt : Nat) (path : Path) (data : Word) (s : State) : Host.Outcome State Fault Refusal :=
  run dt (rowPut path Reg.FIRE_PITCH_DEN data) s

/-- FIRE_PITCH_NUM_WRITE: the pitch pair is applied or refused (R130). -/
def execFirePitchNumWrite (dt : Nat) (path : Path) (data : Word) (s : State) : Host.Outcome State Fault Refusal :=
  run dt (rowPut path Reg.FIRE_PITCH_NUM data) s

/-- FIRE_EVAL: FIRE evaluates the web position (R141, R144, R206). -/
def execFireEval (dt : Nat) (ser : Nat) (s : State) : Host.Outcome State Fault Refusal :=
  run dt (fun s => onPage 0x17 (fireStep ser) (onPage 0x1C stakeHits s)) s

/-- ROW_READ_DONE: a row read returns (R134, R138, R140). -/
def execRowReadDone (dt : Nat) (h : Fin 32) (r : Fin 8) (ser : Nat) (s : State) : Host.Outcome State Fault Refusal :=
  run dt (onPage 0x17 (rowReturn h r ser)) s

/-- TRIGGER_EDGE: a head's committed trigger instant comes (R145, R157, R183). -/
def execTriggerEdge (dt : Nat) (h : Fin 32) (s : State) : Host.Outcome State Fault Refusal :=
  run dt (onPage 0x17 (triggerEdge h)) s

/-- TRIGGER_PULSE_END: a trigger pair returns inactive (R145). -/
def execTriggerPulseEnd (dt : Nat) (h : Fin 32) (s : State) : Host.Outcome State Fault Refusal :=
  run dt (onPage 0x17 (pulseEnd h)) s

/-- TAPCAL: the tap calibrator measures a head's chain between pulses (R147). -/
def execTapcal (dt : Nat) (h : Fin 32) (m : Fin 97) (s : State) : Host.Outcome State Fault Refusal :=
  run dt (onPage 0x17 (fun s => if (tget none s.fire.trigOn h).isNone then tapMeasure h m s else s)) s

/-- ESTOP: ESTOP_N goes low, for good or for a pulse, or goes high (R152, R350). -/
def execEstop (dt : Nat) (low : Bool) (ns : Nat) (s : State) : Host.Outcome State Fault Refusal :=
  run dt (estopPin low ns) s

/-- STROBEFAULT: the strobe watchdog cuts a trigger pair (R154). -/
def execStrobefault (dt : Nat) (h : Fin 32) (s : State) : Host.Outcome State Fault Refusal :=
  run dt (onPage 0x17 (strobeFault h)) s

/-- FIRE_WDOG_CLEAR: bits of FIRE_WDOG are cleared (R154). -/
def execFireWdogClear (dt : Nat) (path : Path) (data : Word) (s : State) : Host.Outcome State Fault Refusal :=
  run dt (rowPut path Reg.FIRE_WDOG data) s

/-- FIRE_START: FIRE starts (R152). -/
def execFireStart (dt : Nat) (path : Path) (s : State) : Host.Outcome State Fault Refusal :=
  run dt (rowWrite path Reg.FIRE_CMD 1 fireCmdStart) s

/-- FIRE_STOP: FIRE stops (R149, R150). -/
def execFireStop (dt : Nat) (path : Path) (s : State) : Host.Outcome State Fault Refusal :=
  run dt (rowWrite path Reg.FIRE_CMD 2 fireCmdStop) s

/-- FIRE_RESUME: FIRE resumes after an emergency stop (R153). -/
def execFireResume (dt : Nat) (path : Path) (s : State) : Host.Outcome State Fault Refusal :=
  run dt (rowWrite path Reg.FIRE_CMD 3 fireCmdResume) s

/-- FIRE_HIST_COPY_LIVE: the live history bank is copied into the inactive one (R143). -/
def execFireHistCopyLive (dt : Nat) (path : Path) (s : State) : Host.Outcome State Fault Refusal :=
  run dt (rowWrite path Reg.FIRE_HIST_CMD 1 histCmdCopy) s

end Sys2Proof.Machine
end

