-- ==== Sys2Proof/Machine/ExecCam.lean ====
section
/-! DEFINITION. The commands of the inspection cameras, the image pipeline and the comparator (R209 to R232). -/
namespace Sys2Proof.Machine

/-- A frame is being quiesced out of a port (R442). -/
def camHeld (p : Nat) (s : State) : Bool := s.quiescing (camPage p) || s.quiescing 0x24

/-- The mean of the frame's pixels after step 4: its rounding, and the mean of no pixels, are free (log entry 4). -/
def frameMean (f : CamFrame) (s : State) : Nat × State :=
  if f.count = 0 then let r := s.freeW; (r.1.toNat % 4096, r.2)
  else if f.sum % f.count = 0 then (f.sum / f.count, s)
  else let r := s.freeB; (f.sum / f.count + r.1.toNat, r.2)

/-- The frame being received ends: missing lines are padded, the statistics are posted, and S2 may write a record (R212, R225,
R230). -/
def frameDone (p : Nat) (s : State) : State :=
  match (s.cam p).cur with
  | none => s
  | some f =>
    let short := decide (f.rows.length < f.height)
    let pad := List.replicate f.width (fld (camLive p 0x5000 s) 0 12)
    let rows := f.rows ++ List.replicate (f.height - f.rows.length) ⟨0, false, pad⟩
    let f := { f with rows := rows, done := true, short := short }
    let s := if short then raise (camPage p) 13 s else s
    let m := frameMean f s
    let s := m.2
    let x := s.cam p
    let set := W (f.setId + 256 * f.unsettled.toNat + 512 * short.toNat + 1024 * f.long.toNat + 65536 * min f.flagged 0xFFFF)
    let stats := [W f.idx, W f.trig, set, W (m.1 + 65536 * f.max), W f.clip, W f.dyn]
    let s2 := bit (s.inForce (Reg.CAM_S2_CFG p)) 0 && s.enabled 0x24
    let every := if !s2 then x.every else if x.every = 0 then fld (s.inForce (Reg.CAM_S2_CFG p)) 8 8 else x.every - 1
    let s := s.setCam p { x with cur := none, frames := x.frames ++ [f], stats := stats, every := every }
    let s := if s2 && x.every == 0 then (ringPut p 0 (s2Record p f s) s).2 else s
    inspWork s

/-- The frame in progress ends at a frame start or a frame end. -/
def frameEnds (p : Nat) (s : State) : State :=
  if (s.cam p).cur.isSome then frameDone p s else s.setCam p { s.cam p with skipping := false }

/-- A QUEUE_FS list waiting for a frame start begins with frame `idx` (R214, R215). -/
def listStarts (p idx : Nat) (s : State) : State :=
  let x := s.cam p
  match x.cci with
  | some r =>
    -- one written at this very instant waits for the following frame start (R214)
    if r.op = 1 ∧ !r.started ∧ r.at_ < s.now then
      s.setCam p { x with cci := some { r with started := true },
                          changes := x.changes ++ [⟨r.arg, idx, none, s.rf (Reg.CAM_SENSOR_LAG p) 0 3⟩] }
    else s
  | none => s

/-- The frame of a hit is accepted (R211). -/
def frameAccept (p : Nat) (w : CamWin) (idx : Nat) (s : State) : State :=
  let x := s.cam p
  let st := stampOf x idx
  let knots := (List.range 33).map fun j => sgn 16 (fld (camLive p (0x7000 + 4 * j) s) 0 16)
  let f : CamFrame :=
    { idx := idx, setId := st.1, unsettled := st.2, x := w.x, trig := w.t,
      width := s.lf (Reg.CAM_SIZE p) 0 14, height := s.lf (Reg.CAM_SIZE p) 16 13, row0 := s.lf (Reg.CAM_GEOM_ROW p) 0 24,
      step := s.lf (Reg.CAM_GEOM_STEP p) 0 16, col0 := sgn 26 (s.lf (Reg.CAM_GEOM_COL p) 0 26),
      cstep := s.lf (Reg.CAM_GEOM_CSTEP p) 0 20, knots := knots, model := x.model, rows := [], done := false, withheld := false,
      short := false, long := false, flagged := 0, sum := 0, count := 0, max := 0, clip := 0, dyn := 0, judged := [],
      reported := [] }
  let s := s.setCam p { x with win := none, cur := some f, bad := 0, lost := false }
  let s := stat (camPage p) (Reg.CAM_FRAMES p) 1 s
  if x.lost then raise (camPage p) 11 s else s

/-- A frame start outside any window: the frame is skipped to its end (R211). -/
def frameSkip (p : Nat) (s : State) : State :=
  let was := (s.cam p).lost
  let s := s.setCam p { s.cam p with skipping := true }
  let s := camBad p (errInc (camPage p) 0 (raise (camPage p) 8 s))
  if (s.cam p).lost && !was then travPortLost p s else s

/-- A frame-start packet (R211, R214 to R217, R43, R224). -/
def frameStart (p num : Nat) (s : State) : State :=
  if !camOn p s || camHeld p s then s
  else
    let s := frameEnds p (camArrive s)
    let x := s.cam p
    let n := nextIdx (s.lb (Reg.CAM_CTRL p) 3) x num
    let s := s.setCam p { x with idx := n.1, lastNum := if num = 0 then x.lastNum else some num }
    let s := s.setReg (Reg.CAM_FNUM p) (W num)
    let s := if n.2 then raise (camPage p) 17 s else s
    let s := listStarts p n.1 s
    let s := camBoundary travResetPort p s
    let s := modelBoundary (fun _ => travResetAll) p (ispBoundary travResetPort p s)
    let s := s.setCam p { s.cam p with stamp := stampOf (s.cam p) n.1 }
    let s := s.setCam p (foldStamps (s.cam p) n.1)
    let s := match (s.cam p).win with
      | some w => if w.closes < s.now then windowMissed p s else s
      | none => s
    match (s.cam p).win with
    | some w => if w.opens ≤ s.now then frameAccept p w n.1 s else frameSkip p s
    | none => frameSkip p s

/-- Data type of CAM_CTRL.FMT (R209). -/
def fmtType (fmt : Nat) : Nat := 0x2A + fmt

/-- A line of the frame being received (R210, R212, R218, R223). -/
def lineIn (p : Nat) (f : CamFrame) (px : List Nat) (crcOk : Bool) (ovr : Option Nat) (bad : Bool) (fixed : Nat) (s : State) :
    State :=
  let fmt := s.lf (Reg.CAM_CTRL p) 8 2
  let shift := 4 - 2 * fmt
  let valid := if !crcOk then 0 else min (ovr.getD px.length) (min px.length f.width)
  let flagged := !crcOk || px.length != f.width || ovr.isSome
  let raw := (px.take valid).map fun v => v * 2 ^ shift
  let on := s.enabled 0x24
  let c := if on then correctRow p f.rows.length f raw s else (raw, raw, 0, 0)
  let pad := List.replicate (f.width - valid) (fld (camLive p 0x5000 s) 0 12)
  let clip := ((px.take valid).filter (· == 2 ^ (8 + 2 * fmt) - 1)).length
  let f := { f with
    rows := f.rows ++ [⟨valid, flagged, c.1 ++ pad⟩], withheld := f.withheld || bad || !on,
    flagged := f.flagged + flagged.toNat, sum := f.sum + c.2.1.foldl (· + ·) 0, count := f.count + valid,
    max := c.2.1.foldl max f.max, clip := f.clip + clip, dyn := f.dyn + c.2.2.1 }
  let s := s.setCam p { s.cam p with cur := some f }
  let s := if flagged then errInc (camPage p) 2 (raise (camPage p) 12 s) else s
  let s := stat 0x24 (Reg.ISP_DYNCNT p) c.2.2.1 (stat 0x24 (Reg.ISP_STATCNT p) c.2.2.2 s)
  let s := if bad && on then errInc 0x24 0 (raise 0x24 8 s) else s
  if on then countN 0x24 (Reg.errCount 0x24 1) fixed s else s

/-- A long packet (R209, R212). -/
def longPacket (p : Nat) (hdrOk : Bool) (vc ty : Nat) (px : List Nat) (crcOk : Bool) (ovr : Option Nat) (bad : Bool) (fixed : Nat)
    (s : State) : State :=
  let c := s.inForce (Reg.CAM_CTRL p)
  if !camOn p s then s
  else if !hdrOk then errInc (camPage p) 3 s
  else if vc ≠ fld c 4 4 ∨ ty ≠ fmtType (fld c 8 2) then stat (camPage p) (Reg.CAM_OTHER p) 1 s
  else match (s.cam p).cur with
  | none => s
  | some f =>
    if f.height ≤ f.rows.length then raise (camPage p) 13 (s.setCam p { s.cam p with cur := some { f with long := true } })
    else lineIn p f px crcOk ovr bad fixed s

/-- The transactions of a list or a READ on the CCI bus (R213). -/
def cciBus (p op arg entries : Nat) (s : State) : State :=
  let dev := beBytes 1 (2 * s.rf (Reg.CAM_CCI_CTRL p) 0 7)
  if op = 3 then emit (.cci p (dev ++ beBytes 2 arg)) s
  else each (List.range entries) (fun i s =>
    let w := s.reg (Reg.CAM_CCI_LIST p i)
    emit (.cci p (dev ++ beBytes 2 (fld w 0 16) ++ beBytes 1 (fld w 16 8))) s) s

/-- Entries of a list: it ends at the first with LAST set, and holds at most 32 (R213). -/
def cciLen (p : Nat) (s : State) : Nat :=
  match (List.range 32).find? fun i => s.rb (Reg.CAM_CCI_LIST p i) 31 with
  | some i => i + 1
  | none => 32

/-- The stamps of a port follow a list that has ended: that of the frame being received, too, where LAG is 0 (R215). -/
def restamp (x : CamSt) : CamSt :=
  let x := { x with stamp := stampOf x x.idx, cur := x.cur.map fun f => { f with setId := (stampOf x f.idx).1, unsettled := (stampOf x f.idx).2 } }
  foldStamps x x.idx

/-- A CCI transfer ends (R213 to R215): whole, or at the entry after the `entries` that were acknowledged. -/
def cciEnds (p entries : Nat) (res : CciResult) (s : State) : State :=
  let x := s.cam p
  match x.cci with
  | none => s
  | some r =>
    if !r.started then s
    else
      let len := if r.op = 3 then 1 else cciLen p s
      let entries := if r.op = 3 then 0 else match res with
        | .ok _ => len
        | _ => min entries (len - 1)
      let s := cciBus p r.op r.arg entries s
      let open_ := fun (c : SetChange) => c.f'.isNone
      match res with
      | .ok data =>
        let x := { x with cci := none }
        let x := if r.op = 1 then
            { x with changes := x.changes.map fun c => if open_ c then { c with f' := some x.idx } else c, failed := false }
          else x
        let s := s.setCam p (restamp x)
        let s := if r.op = 3 then s.setReg (Reg.CAM_CCI_RDATA p) (W data.toNat) else s
        cmdEnd (camPage p) (Reg.CAM_CCI_STATUS p) 2 0 entries s
      | .nak =>
        let s := s.setCam p (restamp { x with cci := none, changes := x.changes.filter fun c => !open_ c, failed := true })
        cmdEnd (camPage p) (Reg.CAM_CCI_STATUS p) 4 0x80 entries (raise (camPage p) 14 s)
      | .stretch =>
        let s := s.setCam p (restamp { x with cci := none, changes := x.changes.filter fun c => !open_ c, failed := true })
        cmdEnd (camPage p) (Reg.CAM_CCI_STATUS p) 4 4 entries s

/-- FRAMEMISS: the window has closed (R211). -/
def windowCloses (p : Nat) (s : State) : State :=
  let s := camArrive s
  match (s.cam p).win with
  | some w => if camOn p s && !camHeld p s && decide (w.closes < s.now) then windowMissed p s else s
  | none => s

/-- The inspection reads that can be issued now are issued (R17, R222, R297). -/
def inspectIssue (s : State) : State :=
  if !inspOn s then s
  else
    let old := s.insp.reads
    let s := inspIssue 1024 s
    let new := s.insp.reads.drop old.length
    inspWork (each new (fun k s => if lineStored k s then dramReq 4 false (lineAddr k s) (lineBytes s) s else s) s)

/-- The oldest inspection read returns (R137, R140, R222, R227, R235). -/
def inspectReturn (s : State) : State :=
  match s.insp.reads with
  | [] => s
  | k :: t => if dramReady s then inspWork (inspReturn k { s with insp := { s.insp with reads := t } }) else s

/-- CAM_FRAME_START: a frame-start packet arrives (R211, R217). -/
def execCamFrameStart (dt : Nat) (p : Fin 4) (num : BitVec 16) (s : State) : Host.Outcome State Fault Refusal :=
  run dt (onPage (camPage p) (withRecords (frameStart p num.toNat))) s

/-- CAM_LINE: a long packet arrives (R209, R212, R218). -/
def execCamLine (dt : Nat) (p : Fin 4) (hdrOk : Bool) (vc : BitVec 4) (dtype : BitVec 6) (px : List (BitVec 12)) (crcOk : Bool) (ovr : Option Nat) (bad : Bool) (fixed : Nat) (s : State) :
    Host.Outcome State Fault Refusal :=
  run dt (onPage (camPage p) (longPacket p hdrOk vc.toNat dtype.toNat (px.map BitVec.toNat) crcOk ovr bad fixed)) s

/-- CAM_FRAME_END: a frame-end packet arrives (R212, R225). -/
def execCamFrameEnd (dt : Nat) (p : Fin 4) (s : State) : Host.Outcome State Fault Refusal :=
  run dt (onPage (camPage p) (withRecords (fun s => if camOn p s then frameEnds p s else s))) s

/-- FRAMEMISS: a frame window closes with no frame start (R211). -/
def execFramemiss (dt : Nat) (p : Fin 4) (s : State) : Host.Outcome State Fault Refusal :=
  run dt (onPage (camPage p) (withRecords (windowCloses p))) s

/-- QUEUE_FS: a list is queued for the next frame start (R214). -/
def execQueueFs (dt : Nat) (path : Path) (p : Fin 4) (setId : Byte) (s : State) : Host.Outcome State Fault Refusal :=
  run dt (rowWrite path (Reg.CAM_CCI_CMD p) (W (1 + 256 * setId.toNat)) (cciCmd p 1 setId.toNat)) s

/-- RUN_NOW: a list is started at once (R214). -/
def execRunNow (dt : Nat) (path : Path) (p : Fin 4) (s : State) : Host.Outcome State Fault Refusal :=
  run dt (rowWrite path (Reg.CAM_CCI_CMD p) 2 (cciCmd p 2 0)) s

/-- CCI_READ: a sensor register is read (R214). -/
def execCciRead (dt : Nat) (path : Path) (p : Fin 4) (reg : BitVec 16) (s : State) : Host.Outcome State Fault Refusal :=
  run dt (rowWrite path (Reg.CAM_CCI_CMD p) (W (3 + 65536 * reg.toNat)) (cciCmd p 3 reg.toNat)) s

/-- CCI_LIST_DONE: a CCI transfer ends (R214, R215). -/
def execCciListDone (dt : Nat) (p : Fin 4) (entries : Fin 33) (res : CciResult) (s : State) :
    Host.Outcome State Fault Refusal :=
  run dt (onPage (camPage p) (cciEnds p entries res)) s

/-- CAM_FSTAT_NO_READ: the statistics of the last completed frame are read (R230). -/
def execCamFstatNoRead (dt : Nat) (path : Path) (p : Fin 4) (s : State) : Host.Outcome State Fault Refusal :=
  run dt (rowGet path (Reg.CAM_FSTAT p 0)) s

/-- ISP_COPY_LIVE: the live camera banks of the masked ports are copied (R119, R231). -/
def execIspCopyLive (dt : Nat) (path : Path) (mask : BitVec 4) (s : State) : Host.Outcome State Fault Refusal :=
  run dt (rowWrite path Reg.ISP_CMD (W (1 + 256 * mask.toNat)) (ispCopy mask.toNat)) s

/-- INSPECT_READ: inspection reads are issued (R17, R222). -/
def execInspectRead (dt : Nat) (s : State) : Host.Outcome State Fault Refusal :=
  run dt (withRecords inspectIssue) s

/-- INSPECT_READ_DONE: the oldest inspection read returns (R227, R235). -/
def execInspectReadDone (dt : Nat) (s : State) : Host.Outcome State Fault Refusal :=
  run dt (withRecords inspectReturn) s

/-- INSPECT_DEF_POP: the oldest defect report is removed (R232). -/
def execInspectDefPop (dt : Nat) (path : Path) (data : Word) (s : State) : Host.Outcome State Fault Refusal :=
  run dt (rowPut path 0x4002509C data) s

end Sys2Proof.Machine
end

