-- ==== Sys2Proof/Machine/ExecTrav.lean ====
section
/-! DEFINITION. The commands of Traverse (R233 to R249). -/
namespace Sys2Proof.Machine

/-- The open window closes once every serial in it has been inspected or excluded (R234, R236). -/
def travWindow (bad : List Nat) (s : State) : State :=
  if estOn s && windowDone s && !s.quiescing 0x28 then inspWork (windowClose bad s) else s

/-- The lease expires (R246). -/
def leaseLost (s : State) : State :=
  if s.trav.lease && decide (s.trav.leaseAt + s.rf Reg.TRAV_LEASE_TIME 0 10 * 1000000 ≤ s.now) then
    raise 0x28 12 { s with trav := { s.trav with lease := false } }
  else s

/-- An accepted edge of the splice input (R238); its filter rejects a shorter level (R197). -/
def spliceEdge (s : State) : State :=
  if !filtered 0 2 s.web.spliceAt s then s
  else
    let s := { s with web := { s.web with spliceAt := some s.now } }
    if s.enabled 0x28 && s.lb Reg.TRAV_CTRL 4 then spliceMark (srcX s) s else s

/-- TRAV_WINDOW_CLOSE: an estimation window closes; the state words of the nozzles `bad` were found uncorrectable (R236, R247). -/
def execTravWindowClose (dt : Nat) (bad : List Nat) (s : State) : Host.Outcome State Fault Refusal :=
  run dt (onPage 0x28 (withRecords (travWindow bad))) s

/-- TRAV_LEASE: the lease is renewed or restored (R246). -/
def execTravLease (dt : Nat) (path : Path) (data : Word) (s : State) : Host.Outcome State Fault Refusal :=
  run dt (rowPut path Reg.TRAV_LEASE data) s

/-- LEASELOST: the lease expires (R246). -/
def execLeaselost (dt : Nat) (s : State) : Host.Outcome State Fault Refusal :=
  run dt (onPage 0x28 leaseLost) s

/-- FREEZE: estimation is frozen (R237, R249). -/
def execFreeze (dt : Nat) (path : Path) (s : State) : Host.Outcome State Fault Refusal :=
  run dt (rowWrite path Reg.TRAV_CMD 1 travFreeze) s

/-- THAW: estimation goes on (R237, R249). -/
def execThaw (dt : Nat) (path : Path) (s : State) : Host.Outcome State Fault Refusal :=
  run dt (rowWrite path Reg.TRAV_CMD 2 travThaw) s

/-- RESET_STATE: a range of nozzles returns to IDLE (R247, R249). -/
def execResetState (dt : Nat) (path : Path) (s : State) : Host.Outcome State Fault Refusal :=
  run dt (rowWrite path Reg.TRAV_CMD 3 travResetState) s

/-- UNMISS: the missing marks of a range of nozzles are cleared (R242, R249). -/
def execUnmiss (dt : Nat) (path : Path) (s : State) : Host.Outcome State Fault Refusal :=
  run dt (rowWrite path Reg.TRAV_CMD 4 travUnmiss) s

/-- SPLICE: the command (`some path`) or an accepted edge of the splice input (`none`) marks a splice (R238, R249). -/
def execSplice (dt : Nat) (edge : Option Path) (s : State) : Host.Outcome State Fault Refusal :=
  run dt (
    match edge with
    | some q => rowWrite q Reg.TRAV_CMD 5 travSplice
    | none => onPage 0x28 spliceEdge) s

/-- RESYNC_SUB: the sub-delays of one head are sent again (R245, R249). -/
def execResyncSub (dt : Nat) (path : Path) (h : Fin 32) (s : State) : Host.Outcome State Fault Refusal :=
  run dt (rowWrite path Reg.TRAV_CMD (W (6 + 256 * h.val)) (travResync h)) s

/-- TRAV_SUB_DATA_WRITE: a sub-delay copy is restored (R245, R248). -/
def execTravSubDataWrite (dt : Nat) (path : Path) (data : Word) (s : State) : Host.Outcome State Fault Refusal :=
  run dt (rowPut path Reg.TRAV_SUB_DATA data) s

/-- TRAV_SUB_DATA_READ: a sub-delay copy is read (R248). -/
def execTravSubDataRead (dt : Nat) (path : Path) (s : State) : Host.Outcome State Fault Refusal :=
  run dt (rowGet path Reg.TRAV_SUB_DATA) s

/-- TRAV_NOZ_EST_READ: the last estimates of a nozzle are read (R248). -/
def execTravNozEstRead (dt : Nat) (path : Path) (s : State) : Host.Outcome State Fault Refusal :=
  run dt (rowGet path Reg.TRAV_NOZ_EST) s

end Sys2Proof.Machine
end

