-- ==== Sys2Proof/Machine/ExecLane.lean ====
section
/-! DEFINITION. The commands of the serial lanes (R250 to R267). -/
namespace Sys2Proof.Machine

/-- The lanes of a quad that take PLL `j`. -/
def pllLanes (q j : Nat) (s : State) : List Nat :=
  ([0, 1, 2, 3].map fun i => 4 * q + i).filter fun l => laneRole l s != 0 && s.rf (Reg.LANE_CFG l) 3 1 == j

/-- A PLL locks: its transmitters may leave electrical idle (R251, R257). -/
def pllLock (q j : Nat) (s : State) : State :=
  if s.rb (Reg.LANEQ_PLL q j) 0 && s.rb (Reg.LANEQ_STATUS q) 0 && !s.rb (Reg.LANEQ_STATUS q) (1 + j) then
    let s := s.setB (Reg.LANEQ_STATUS q) (1 + j) true
    each (pllLanes q j s) showTx s
  else s

/-- A PLL loses lock (R251). -/
def pllUnlock (q j : Nat) (s : State) : State :=
  if s.rb (Reg.LANEQ_STATUS q) (1 + j) then pllDrop q j (errInc (0x30 + q) 3 (raise (0x30 + q) 13 s)) else s

/-- The reference of a quad is lost: both PLLs fall with it (R251). -/
def refLost (q : Nat) (s : State) : State :=
  if s.rb (Reg.LANEQ_STATUS q) 0 then
    let s := errInc (0x30 + q) 3 (raise (0x30 + q) 12 s)
    pllDrop q 1 (pllDrop q 0 (s.setB (Reg.LANEQ_STATUS q) 0 false))
  else s

/-- The receiver of a lane is powered: its role is not OFF. -/
def rxPowered (l : Nat) (s : State) : Bool := laneRole l s != 0

/-- The signal of a lane rises above the squelch threshold (R256). -/
def signalDetect (l : Nat) (s : State) : State :=
  if !rxPowered l s then s
  else
    let s := s.setLane l { s.lane l with signal := true }
    if (s.lane l).rx = 1 then setRx l 2 s else s

/-- The signal of a lane falls below the squelch threshold, outside LOCKED: HUNT returns to SQUELCH (R256). -/
def huntSquelch (l : Nat) (s : State) : State :=
  let x := s.lane l
  if x.rx = 3 then s else s.setLane l { x with rx := if x.rx = 2 then 1 else x.rx, signal := false }

/-- A receiver locks; its elastic buffer starts centred and the eye monitor's period begins (R256, R259, R262). -/
def lockUp (l : Nat) (s : State) : State :=
  if (s.lane l).rx = 2 then
    chainLinks (raise (lanePage l) 8 (s.setLane l { s.lane l with rx := 3, fill := 8, eyeAt := s.now }))
  else s

/-- A receiver loses lock (R256). -/
def lockLost (l : Nat) (squelch : Bool) (r : LaneRx) (s : State) : State :=
  if (s.lane l).rx = 3 ∧ (squelch ∨ 4 ≤ r.bad) then
    let s := laneMet l r s
    if squelch then lockLoss l 1 (s.setLane l { s.lane l with signal := false }) else lockLoss l 2 s
  else s

/-- An electrical-idle entry is received (R256). -/
def eiReceived (l : Nat) (r : LaneRx) (s : State) : State :=
  if (s.lane l).rx = 3 then
    let s := laneMet l r s
    chainLinks (s.setLane l { s.lane l with rx := 1, signal := false })
  else s

/-- The elastic buffer of a lane overflows or underflows, after the SKIPs that went before (R259, R260). -/
def elastErr (l : Nat) (r : LaneRx) (s : State) : State :=
  if (s.lane l).rx = 3 then elastOver l (laneMet l r s) else s

/-- The eye monitor of a locked lane comes to the end of a period: what the receiver has met and the equaliser values adaptation has
reached are taken, and a sweep of a whole period ends (R261, R262). -/
def eyeSwept (l : Nat) (pass : Nat) (r : LaneRx) (ctle dfe : Nat) (s : State) : State :=
  let cfg := s.reg (Reg.LANE_RXEQ l)
  if laneLock l s then
    let s := laneMet l r s
    let x := s.lane l
    let s := s.setLane l { x with ctle := if bit cfg 4 then ctle else x.ctle, dfe := if bit cfg 5 then dfe else x.dfe }
    if bit cfg 6 && decide (x.eyeAt + s.rf Reg.LANE_EYE_CFG 0 10 * 1000 ≤ s.now) then
      let m := sweepMid (toBits 64 pass) (s.setLane l { s.lane l with eyeAt := s.now })
      eyeSweep l m.1.1 m.1.2 m.2
    else s
  else s

/-- The checker of a lane is on (R265). -/
def prbsChecks (l : Nat) (s : State) : Bool := laneRole l s == 5 && s.rf (Reg.LANE_CTRL l) 4 2 != 0 && s.rb (Reg.LANE_CTRL l) 7

/-- The checker gains lock (R265). -/
def prbsLock (l : Nat) (s : State) : State :=
  if prbsChecks l s && !(s.lane l).prbs then s.setLane l { s.lane l with prbs := true, prbsAt := s.now } else s

/-- The checker reports errors; more than 32 within 1,024 bits lose its lock (R265). -/
def prbsErr (l errs worst : Nat) (s : State) : State :=
  if prbsChecks l s && (s.lane l).prbs then
    let p := lanePage l
    let s := stat p (Reg.LANE_PRBS_ERR l) errs (prbsFold l (decide (worst ≤ 32)) s)
    if 32 < worst then raise p 14 s else s
  else s

/-- LANE_CTRL of a lane written with one field changed. -/
def laneCtrlRow (path : Path) (l : Nat) (f : Word → Word) (s : State) : State :=
  let w := f (s.reg (Reg.LANE_CTRL l))
  rowWrite path (Reg.LANE_CTRL l) w (laneCtrlWrite l w) s

/-- PLL_LOCK: a PLL of a quad locks (R251). -/
def execPllLock (dt : Nat) (q : Fin 12) (pll : Fin 2) (s : State) : Host.Outcome State Fault Refusal :=
  run dt (onPage (0x30 + q.val) (pllLock q pll)) s

/-- PLLUNLOCK: a PLL of a quad loses lock (R251). -/
def execPllunlock (dt : Nat) (q : Fin 12) (pll : Fin 2) (s : State) : Host.Outcome State Fault Refusal :=
  run dt (onPage (0x30 + q.val) (pllUnlock q pll)) s

/-- REFLOST: the reference of a quad is lost (R251). -/
def execReflost (dt : Nat) (q : Fin 12) (s : State) : Host.Outcome State Fault Refusal :=
  run dt (onPage (0x30 + q.val) (refLost q)) s

/-- REFCLK_RETURN: the reference of a quad is present again (R251). -/
def execRefclkReturn (dt : Nat) (q : Fin 12) (s : State) : Host.Outcome State Fault Refusal :=
  run dt (onPage (0x30 + q.val) (fun s => s.setB (Reg.LANEQ_STATUS q) 0 true)) s

/-- LANE_CFG_WRITE: LANE_CFG of a lane is written (R252). -/
def execLaneCfgWrite (dt : Nat) (path : Path) (l : Fin 48) (data : Word) (s : State) : Host.Outcome State Fault Refusal :=
  run dt (rowPut path (Reg.LANE_CFG l) data) s

/-- EI_ENTRY: EI_REQ is written 1 (R257, R258). -/
def execEiEntry (dt : Nat) (path : Path) (l : Fin 48) (s : State) : Host.Outcome State Fault Refusal :=
  run dt (laneCtrlRow path l fun w => putBit w 0 true) s

/-- EI_EXIT: EI_REQ is written 0 (R257, R258). -/
def execEiExit (dt : Nat) (path : Path) (l : Fin 48) (s : State) : Host.Outcome State Fault Refusal :=
  run dt (laneCtrlRow path l fun w => putBit w 0 false) s

/-- LOOP_SET: LOOP is written (R264). -/
def execLoopSet (dt : Nat) (path : Path) (l : Fin 48) (loop : BitVec 3) (s : State) : Host.Outcome State Fault Refusal :=
  run dt (laneCtrlRow path l fun w => put w 1 3 loop.toNat) s

/-- ERR_INJ: a 1 is written to ERR_INJ (R265). -/
def execErrInj (dt : Nat) (path : Path) (l : Fin 48) (s : State) : Host.Outcome State Fault Refusal :=
  run dt (laneCtrlRow path l fun w => putBit w 9 true) s

/-- LANE_SIGNAL_DETECT: the signal has stood above the squelch threshold for 100 ns (R256). -/
def execLaneSignalDetect (dt : Nat) (l : Fin 48) (s : State) : Host.Outcome State Fault Refusal :=
  run dt (onPage (lanePage l) (signalDetect l)) s

/-- SQUELCH: the signal of a lane in HUNT falls below the squelch threshold (R256). -/
def execSquelch (dt : Nat) (l : Fin 48) (s : State) : Host.Outcome State Fault Refusal :=
  run dt (onPage (lanePage l) (huntSquelch l)) s

/-- LOCKUP: three K28.5 at one alignment (R256). -/
def execLockup (dt : Nat) (l : Fin 48) (s : State) : Host.Outcome State Fault Refusal :=
  run dt (onPage (lanePage l) (lockUp l)) s

/-- LOCKLOST: lock is lost (R256). -/
def execLocklost (dt : Nat) (l : Fin 48) (squelch : Bool) (rx : LaneRx) (s : State) : Host.Outcome State Fault Refusal :=
  run dt (onPage (lanePage l) (lockLost l squelch rx)) s

/-- EI_RECEIVED: an electrical-idle entry is received (R256). -/
def execEiReceived (dt : Nat) (l : LaneMet) (s : State) : Host.Outcome State Fault Refusal :=
  run dt (onPage (lanePage l.lane) (eiReceived l.lane l.rx)) s

/-- ELASTERR: the elastic buffer overflows or underflows (R259, R260). -/
def execElasterr (dt : Nat) (l : Fin 48) (bad : Nat) (drift : List Int) (s : State) : Host.Outcome State Fault Refusal :=
  run dt (onPage (lanePage l) (elastErr l ⟨bad, drift⟩)) s

/-- EYE_SWEEP: an eye sweep ends (R261, R262). -/
def execEyeSweep (dt : Nat) (l : Fin 48) (pass : BitVec 64) (rx : LaneRx) (ctle : BitVec 4) (dfe : BitVec 30) (s : State) :
    Host.Outcome State Fault Refusal :=
  run dt (onPage (lanePage l) (eyeSwept l pass.toNat rx ctle.toNat dfe.toNat)) s

/-- PRBS_LOCK: 64 consecutive bits are correct (R265). -/
def execPrbsLock (dt : Nat) (l : Fin 48) (s : State) : Host.Outcome State Fault Refusal :=
  run dt (onPage (lanePage l) (prbsLock l)) s

/-- PRBSERR: bit errors; more than 32 of them within 1,024 bits lose PRBS_LOCK (R265). -/
def execPrbserr (dt : Nat) (l : Fin 48) (errs : Nat) (worst : Nat) (s : State) : Host.Outcome State Fault Refusal :=
  run dt (onPage (lanePage l) (prbsErr l errs worst)) s

end Sys2Proof.Machine
end

