-- ==== Sys2Proof/Machine/ExecHead.lean ====
section
/-! DEFINITION. The commands of Head Link (R160 to R190). -/
namespace Sys2Proof.Machine

/-- HLINK and HEADS are out of reset and run. -/
def linkOn (s : State) : Bool := s.enabled 0x18 && s.enabled 0x19

/-- A keepalive falls due (R164): the period counts from the start of the last. -/
def keepaliveDue (h : Nat) (s : State) : State :=
  let due := match (s.head h).kaAt with
    | some t => decide (t + s.rf Reg.HLINK_KA_PERIOD 0 12 ≤ s.now)
    | none => true
  if headInUse h s && due then keepaliveSend h s else s

/-- What a response does for the source of its command (R173, R187). -/
def responseTo (h : Nat) (r : HCmdRun) (status : Nat) (data : List Byte) (s : State) : State :=
  match r.cmd.src with
  | .flush => s
  | .sub => subEnded h (status == 0) s
  | .heater => heaterEnded h r.cmd.params (status == 0) s
  | .mgmt => svcIdent h (if status = 0 then some data else none) s
  | .hcmd =>
    let s := s.setReg Reg.HLINK_HCMD_RESP (W (status + 65536 * data.length))
    let s := each (List.range 64) (fun w s => s.setReg (Reg.HLINK_HCMD_DATA w) (W (beAt (data ++ List.replicate 256 0) (4 * w) 4))) s
    if status = 0 then cmdEnd 0x18 Reg.HLINK_HCMD_STATUS 2 0 r.resends s
    else cmdEnd 0x18 Reg.HLINK_HCMD_STATUS 4 0x81 r.resends s

/-- A response frame (R172, R173); one that answers no command in progress is ignored. -/
def headResponse (h : Nat) (body : List Byte) (s : State) : State :=
  match (s.head h).run with
  | none => s
  | some r =>
    if beAt body 1 1 ≠ r.seq then s
    else
      let s := s.setHead h { s.head h with run := none }
      let s := responseTo h r (beAt body 2 1) ((body.drop 6).take (min 256 (beAt body 4 2))) s
      pumpHead h ((s.head h).queue.length + 1) s

/-- The lines whose firing a head missed, from the growth of MISSED (R185). -/
def missedTicks (x : HeadSt) (grown missSeq edgeSeq : Nat) : List Nat :=
  let span := (edgeSeq + 65536 - x.edgeSeq) % 65536
  let hit := fun (e : Nat × Nat) =>
    if grown = 1 then e.1 == missSeq
    else x.telAt.isSome && (let d := (e.1 + 65536 - x.edgeSeq) % 65536; decide (1 ≤ d) && decide (d ≤ span))
  if grown = 0 then [] else (x.edges.filter hit).map (·.2)

/-- A telemetry frame (R175, R184 to R186). -/
def headTelemetry (h : Nat) (b : List Byte) (s : State) : State :=
  let x := s.head h
  let crc := beAt b 0x10 2
  let missed := beAt b 0x12 2
  let dCrc := (crc + 65536 - x.crcFails) % 65536
  let dMiss := (missed + 65536 - x.missed) % 65536
  let ticks := missedTicks x dMiss (beAt b 0x14 2) (beAt b 0x0A 2)
  let s := s.setHead h { x with
    telAt := some s.now, telRun := x.telRun + 1, hstate := beAt b 2 1, port := beAt b 3 1, claim := beAt b 4 2,
    edgeSeq := beAt b 0x0A 2, lastFired := beAt b 0x0C 4, crcFails := crc, missed := missed, duty := beAt b 0x17 1 }
  let s := (s.setReg (Reg.HEADS_CLAIM h) (W (beAt b 4 2))).setReg (Reg.HEADS_TEMP h) (W (beAt b 6 2 + 2147483648))
  let s := (s.setF (Reg.HEADS_STATE h) 16 16 (beAt b 8 2)).setF (Reg.HEADS_EDGE h) 16 16 (beAt b 0x0A 2)
  let s := (s.setReg (Reg.HEADS_VENDOR h 0) (W (beAt b 0x18 4))).setReg (Reg.HEADS_VENDOR h 1) (W (beAt b 0x1C 4))
  let s := countN 0x19 (Reg.HEADS_CRCFAIL h) dCrc (countN 0x19 (Reg.HEADS_MISSED h) dMiss s)
  let s := if 0 < dCrc then raise 0x18 10 s else s
  let s := each ticks (fun k s => each (shares k h s) markLate s) s
  let s := gapCount h s
  let was := (s.head h).ready
  let s := judgeHead true h s
  let s := if was then s else headReadySync h s
  autoRejoin h s

/-- An upstream frame of a head (R166, R184): TELBAD where its CRC-32 fails, an error symbol has broken it (R260) or its TYPE is
reserved; else its TYPE says what it is. A telemetry body of any length but 32 bytes is no telemetry frame, and is let go (R175; log
entry 87). -/
def upstream (h : Nat) (body : List Byte) (crcOk : Bool) (s : State) : State :=
  let ty := beAt body 0 1
  if !linkOn s then s
  else if !crcOk || frameBroken (headLane h s) (body.length + 6) s || (ty != 0x81 && ty != 0x82) then
    errInc 0x18 1 (raise 0x18 14 (s.setHead h { s.head h with telRun := 0 }))
  else if !headCfg h s then s
  else if ty = 0x82 then headResponse h body s
  else if body.length = 32 then headTelemetry h body s
  else s

/-- No valid response within HLINK_CMD_TIMEOUT: the command is sent again, or ends (R172, R187). -/
def cmdTimeout (h : Nat) (s : State) : State :=
  match (s.head h).run with
  | none => s
  | some r =>
    if s.now < r.sentAt + s.rf Reg.HLINK_CMD_TIMEOUT 0 14 * 1000 then s
    else if r.resends < 3 ∧ telOk h s then
      let c := r.cmd
      let body := beBytes 1 2 ++ beBytes 1 r.seq ++ beBytes 1 c.op ++ beBytes 2 c.params.length ++ c.params
      let x := s.head h
      let at_ := max s.timeNs64 ((x.laneFree + 999) / 1000)
      let s := s.setHead h { x with run := some { r with resends := r.resends + 1, sentAt := s.now }, cmdFree := cmdEnds h body.length at_ s }
      let s := if c.src = .hcmd then s.setReg Reg.HLINK_HCMD_STATUS (cmdWord 1 0 (r.resends + 1)) else s
      stat 0x18 Reg.HLINK_CMDS 1 (errInc 0x18 2 (emit (.head h (frame body)) s))
    else
      let code := if r.resends < 3 then 0x80 else 4
      let s := s.setHead h { s.head h with run := none }
      let s := if r.resends < 3 then s else raise 0x18 13 s
      let s := if r.cmd.src = .hcmd then cmdEnd 0x18 Reg.HLINK_HCMD_STATUS 4 code r.resends s else cmdFailed h r.cmd code s
      pumpHead h ((s.head h).queue.length + 1) s

/-- HLINK_LOSS_TIME has passed without valid telemetry (R26, R184). -/
def headSilent (h : Nat) (s : State) : State :=
  if telOk h s || (s.head h).telAt.isNone then s
  else judgeHead false h (s.setHead h { s.head h with telRun := 0 })

/-- A rejoin has not brought its head to READY within 100 µs (R186). -/
def rejoinAgain (h : Nat) (s : State) : State :=
  match (s.head h).rejoinAt with
  | some t => if t + 100000 ≤ s.now ∧ mayRejoin h s then rejoin h s else s
  | none => s

/-- KEEPALIVE_SEND: a keepalive falls due (R164). -/
def execKeepaliveSend (dt : Nat) (h : Fin 32) (s : State) : Host.Outcome State Fault Refusal :=
  run dt (onPage 0x18 (keepaliveDue h)) s

/-- HLINK_HCMD: a head command is issued (R187, R188). -/
def execHlinkHcmd (dt : Nat) (path : Path) (data : Word) (s : State) : Host.Outcome State Fault Refusal :=
  run dt (rowPut path Reg.HLINK_HCMD data) s

/-- HEAD_RESPONSE: a response frame arrives (R172, R173). -/
def execHeadResponse (dt : Nat) (h : Fin 32) (body : List Byte) (crcOk : Bool) (s : State) : Host.Outcome State Fault Refusal :=
  run dt (onPage 0x18 (upstream h body crcOk)) s

/-- HLINK_CMD_TIMEOUT: a head command has had no valid response in time (R172). -/
def execHlinkCmdTimeout (dt : Nat) (h : Fin 32) (s : State) : Host.Outcome State Fault Refusal :=
  run dt (onPage 0x18 (fun s => if linkOn s then cmdTimeout h s else s)) s

/-- HEAD_TELEMETRY: a telemetry frame arrives (R175, R184 to R186). -/
def execHeadTelemetry (dt : Nat) (h : Fin 32) (body : List Byte) (crcOk : Bool) (s : State) :
    Host.Outcome State Fault Refusal :=
  run dt (onPage 0x18 (upstream h body crcOk)) s

/-- HEADLOST: a head has sent no valid telemetry for HLINK_LOSS_TIME (R26, R184). -/
def execHeadlost (dt : Nat) (h : Fin 32) (s : State) : Host.Outcome State Fault Refusal :=
  run dt (onPage 0x18 (headSilent h)) s

/-- HLINK_REJOIN: a rejoin of the marked heads is started (R186). -/
def execHlinkRejoin (dt : Nat) (path : Path) (data : Word) (s : State) : Host.Outcome State Fault Refusal :=
  run dt (rowPut path Reg.HLINK_REJOIN data) s

/-- REJOIN_RETRY: a rejoin is repeated after 100 µs (R186). -/
def execRejoinRetry (dt : Nat) (h : Fin 32) (s : State) : Host.Outcome State Fault Refusal :=
  run dt (onPage 0x18 (rejoinAgain h)) s

/-- HEADS_HOLD_WRITE: HOLD of a head is written (R190). -/
def execHeadsHoldWrite (dt : Nat) (path : Path) (h : Fin 32) (data : Word) (s : State) : Host.Outcome State Fault Refusal :=
  run dt (rowPut path (Reg.HEADS_HOLD h) data) s

end Sys2Proof.Machine
end

