-- ==== Sys2Proof/Machine/ExecIntake.lean ====
section
/-! DEFINITION. The commands of page intake: jobs, pages, bands and the decompression engines (R78 to R105). -/
namespace Sys2Proof.Machine

/-- A frame of `ty` for this node, `src` its sender where the row names one, has passed CHAIN's checks and is delivered (R272, R273, R275). -/
def chainRow (port ty : Nat) (src : Option Nat) (p : List Byte) (age : Nat) (s : State) : State :=
  if s.enabled 0x40 && decide (p.length ≤ 2048) && (lenOk ty p.length p).getD false && src != some (nodeId s) &&
      (port == 0 || s.chain.up.contains port) then
    chainDeliver port ty (src.getD 0) p age (stat 0x40 Reg.CHAIN_RX_FRAMES 1 s)
  else s

/-- CHAIN_JOB: a JOB frame arrives (R80, R275). -/
def execChainJob (dt : Nat) (payload : List Byte) (s : State) : Host.Outcome State Fault Refusal :=
  run dt (chainRow 0 0x02 none payload 0) s

/-- INTAKE_DESC_PUSH: the descriptor registers are pushed as one descriptor (R78). -/
def execIntakeDescPush (dt : Nat) (path : Path) (data : Word) (s : State) : Host.Outcome State Fault Refusal :=
  run dt (rowPut path Reg.INTAKE_DESC_PUSH data) s

/-- PAGE_ARM: the first queued page takes a free sequencer slot (R81). -/
def execPageArm (dt : Nat) (s : State) : Host.Outcome State Fault Refusal :=
  run dt (onPage 0x10 pageArm) s

/-- CUE: an accepted edge of the cue input (R81, R197). -/
def execCue (dt : Nat) (level : Bool) (s : State) : Host.Outcome State Fault Refusal :=
  run dt (cueEdge level) s

/-- PAGE_ELIGIBLE: the web comes within 64 pitches of band 0's due position (R98). -/
def execPageEligible (dt : Nat) (s : State) : Host.Outcome State Fault Refusal :=
  run dt (onPage 0x10 pageEligible) s

/-- BAND_DUE: the web reaches a band's due position (R98, R99). -/
def execBandDue (dt : Nat) (s : State) : Host.Outcome State Fault Refusal :=
  run dt (onPage 0x10 bandDue) s

/-- CHAIN_BAND: a BAND frame arrives (R84 to R91, R275). -/
def execChainBand (dt : Nat) (seg : List Byte) (s : State) : Host.Outcome State Fault Refusal :=
  run dt (chainRow 0 0x01 none seg 0) s

/-- BAND_DISPATCH: the next band in print order is dispatched (R93, R94). -/
def execBandDispatch (dt : Nat) (s : State) : Host.Outcome State Fault Refusal :=
  run dt (onPage 0x10 bandDispatch) s

/-- STRIP_DONE: engines finish their strips (R95, R96). -/
def execStripDone (dt : Nat) (es : List (Fin 16)) (s : State) : Host.Outcome State Fault Refusal :=
  run dt (onPage 0x11 (stripDone es)) s

/-- STRIPFAIL: strips fail on ECC or INFLATE (R95). -/
def execStripfail (dt : Nat) (es : List (Fin 16)) (s : State) : Host.Outcome State Fault Refusal :=
  run dt (onPage 0x11 (stripFail es)) s

/-- INTAKE_FAIL_POP: the oldest failure record is removed (R102). -/
def execIntakeFailPop (dt : Nat) (path : Path) (data : Word) (s : State) : Host.Outcome State Fault Refusal :=
  run dt (rowPut path Reg.INTAKE_FAIL_POP data) s

/-- CANCEL_JOB: every queued and armed page of a job is removed (R104). -/
def execCancelJob (dt : Nat) (path : Path) (job : BitVec 16) (s : State) : Host.Outcome State Fault Refusal :=
  run dt (rowWrite path Reg.INTAKE_CMD (W (1 + 65536 * job.toNat)) (intakeCancel job.toNat)) s

/-- CLEAR_QUEUE: every queued descriptor is removed (R104). -/
def execClearQueue (dt : Nat) (path : Path) (s : State) : Host.Outcome State Fault Refusal :=
  run dt (rowWrite path Reg.INTAKE_CMD 2 intakeClear) s

/-- INFL_BAND_TIME_MAX_READ: the longest band time is read and cleared (R105). -/
def execInflBandTimeMaxRead (dt : Nat) (path : Path) (s : State) : Host.Outcome State Fault Refusal :=
  run dt (rowGet path Reg.INFL_BAND_TIME_MAX) s

end Sys2Proof.Machine
end

