-- ==== Sys2Proof/Machine/ExecWeb.lean ====
section
/-! DEFINITION. The commands of web position, speed and the compare outputs (R191 to R208). -/
namespace Sys2Proof.Machine

/-- A transition of A or B: the count, the speed, compare hits, and FIRE at an edge of its source (R192, R198, R204, R206, R144). -/
def encEdge (e : Nat) (lineB : Bool) (ser : Nat) (s : State) : State :=
  if !lineOk e lineB s then s else
  let s := encStep e lineB s
  let x := s.enc e
  let mine := e == 1 || s.web.src == .enc
  let h := if x.lastFwd && mine then cmpHits (e == 1) x.cnt (encStamp e s) s else (s, [])
  let s := hitWindows h.2 (encStamp e s) h.1
  if e = 0 ∧ s.web.src = .enc then onPage 0x17 (fireStep ser) s else s

/-- A stake word leaves (R201). -/
def stakeSend (s : State) : State :=
  let k := s.web.stake
  if chainOn s && s.enabled 0x1C && s.rb Reg.WEB_CTRL 3 && decide (k.txAt + s.rf Reg.WEB_STAKE_PERIOD 0 7 * 1000 ≤ s.now) then
    let w := stakeWord s
    let s := { s with web := { s.web with stake := { k with txSeq := (k.txSeq + 1) % 256, txAt := s.now } } }
    chainSend 0x30 (s.rf Reg.WEB_CTRL 16 6) 3 (.bytes w) (stat 0x1C Reg.WEB_STAKE_TX 1 s)
  else s

/-- A scheduled compare pulse starts (R205). -/
def pulseStart (c : Nat) (s : State) : State :=
  let o := tget Reset.cmp s.web.cmp c
  match o.pulse with
  | some (b, _) =>
    if !o.active && decide (b ≤ s.timeNs64) then
      emit (.cmp c (cmpLevel c true s)) { s with web := { s.web with cmp := tset Reset.cmp s.web.cmp c { o with active := true } } }
    else s
  | none => s

/-- A compare pulse ends (R205). -/
def cmpPulseEnd (c : Nat) (s : State) : State :=
  let o := tget Reset.cmp s.web.cmp c
  match o.pulse with
  | some (_, e) =>
    if o.active && decide (e ≤ s.timeNs64) then
      emit (.cmp c (cmpLevel c false s))
        { s with web := { s.web with cmp := tset Reset.cmp s.web.cmp c { o with active := false, pulse := none } } }
    else s
  | none => s

/-- ENC_TRANSITION: an accepted transition of A or B (R192, R198). -/
def execEncTransition (dt : Nat) (e : Fin 2) (lineB : Bool) (ser : Nat) (s : State) : Host.Outcome State Fault Refusal :=
  run dt (onPage 0x1C (encEdge e lineB ser)) s

/-- ENCILL: A and B change at one sample (R193, R194). -/
def execEncill (dt : Nat) (e : Fin 2) (s : State) : Host.Outcome State Fault Refusal :=
  run dt (onPage 0x1C (encIllegal e)) s

/-- INDEX: an accepted rising index (R195, R196). -/
def execIndex (dt : Nat) (e : Fin 2) (s : State) : Host.Outcome State Fault Refusal :=
  run dt (onPage 0x1C (encIndex e)) s

/-- STANDSTILL: no accepted edge for WEB_STANDSTILL (R198). -/
def execStandstill (dt : Nat) (e : Fin 2) (s : State) : Host.Outcome State Fault Refusal :=
  run dt (onPage 0x1C (encStill e)) s

/-- CMP_DELAYED_PULSE: a delayed compare pulse starts (R205). -/
def execCmpDelayedPulse (dt : Nat) (c : Fin 8) (s : State) : Host.Outcome State Fault Refusal :=
  run dt (onPage 0x1C (pulseStart c)) s

/-- CMP_PULSE_END: a compare pulse ends (R205). -/
def execCmpPulseEnd (dt : Nat) (c : Fin 8) (s : State) : Host.Outcome State Fault Refusal :=
  run dt (onPage 0x1C (cmpPulseEnd c)) s

/-- STAKE_SEND: a stake word falls due (R200, R201). -/
def execStakeSend (dt : Nat) (s : State) : Host.Outcome State Fault Refusal :=
  run dt (onPage 0x1C stakeSend) s

/-- STAKE_RECEIVE: a stake word arrives in a STAKE frame (R201, R275). -/
def execStakeReceive (dt : Nat) (word : List Byte) (s : State) : Host.Outcome State Fault Refusal :=
  run dt (chainRow 0 0x30 none word 0) s

/-- STAKESTALE: the stake age passes WEB_STAKE_FRESH (R201). -/
def execStakestale (dt : Nat) (s : State) : Host.Outcome State Fault Refusal :=
  run dt (onPage 0x1C stakeStale) s

/-- ARM_INDEX0: ENC0 is armed for an index reload (R195). -/
def execArmIndex0 (dt : Nat) (path : Path) (s : State) : Host.Outcome State Fault Refusal :=
  run dt (rowWrite path Reg.WEB_CMD 1 (webArm 0)) s

/-- ARM_INDEX1: ENC1 is armed for an index reload (R195). -/
def execArmIndex1 (dt : Nat) (path : Path) (s : State) : Host.Outcome State Fault Refusal :=
  run dt (rowWrite path Reg.WEB_CMD 2 (webArm 1)) s

/-- LOAD: an encoder's count is loaded (R208). -/
def execLoad (dt : Nat) (path : Path) (e : Fin 2) (s : State) : Host.Outcome State Fault Refusal :=
  run dt (rowWrite path Reg.WEB_CMD (W (3 + 16 * e.val)) (webLoad e)) s

/-- LEARN_OFS: the stake offset is learnt from the next accepted word (R202, R208). -/
def execLearnOfs (dt : Nat) (path : Path) (s : State) : Host.Outcome State Fault Refusal :=
  run dt (rowWrite path Reg.WEB_CMD 4 webLearn) s

/-- ENC_RESUME: the position source returns to ENC0 (R202). -/
def execEncResume (dt : Nat) (path : Path) (s : State) : Host.Outcome State Fault Refusal :=
  run dt (rowWrite path Reg.WEB_CMD 5 webResume) s

/-- CMP_RESTART: each masked compare output latches its FIRST entry (R204). -/
def execCmpRestart (dt : Nat) (path : Path) (mask : BitVec 8) (s : State) : Host.Outcome State Fault Refusal :=
  run dt (rowWrite path Reg.WEB_CMD (W (6 + 256 * mask.toNat)) (webRestart mask.toNat)) s

/-- WEB_SRC_WRITE: WEB_CTRL is written (R202). -/
def execWebSrcWrite (dt : Nat) (path : Path) (data : Word) (s : State) : Host.Outcome State Fault Refusal :=
  run dt (rowPut path Reg.WEB_CTRL data) s

/-- ENC_POS_READ: ENC_POS is read (R199). -/
def execEncPosRead (dt : Nat) (path : Path) (s : State) : Host.Outcome State Fault Refusal :=
  run dt (rowGet path Reg.ENC_POS) s

end Sys2Proof.Machine
end

