-- ==== Sys2Proof/Machine/ExecChain.lean ====
section
/-! DEFINITION. The commands of Chain, management Ethernet and press time (R268 to R292). -/
namespace Sys2Proof.Machine

/-- The frame in transmission on a port ends; the port then chooses its next as a lane may have been asked to idle (R258, R274: `settle`). -/
def chainNext (port : Nat) (s : State) : State :=
  { s with chain := { s.chain with busy := s.chain.busy.filter (· != port) } }

/-- A KEEP falls due (R277). -/
def keepSend (s : State) : State :=
  let due := match s.chain.keepAt with
    | some t => decide (t + s.rf Reg.CHAIN_KEEP_PERIOD 0 10 * 1000 ≤ s.now)
    | none => true
  if chainOn s && s.rb Reg.CHAIN_CTRL 12 && due then
    chainSend 0x60 0xFF 4 .keep { s with chain := { s.chain with keepAt := some s.now } }
  else s

/-- A watched node has sent no KEEP within the timeout (R277). -/
def chainLost (n : Nat) (s : State) : State :=
  let seen := mget (fun _ => 0) s.chain.seenAt n
  let last := if seen = 0 then s.chain.since else seen - 1
  if s.enabled 0x40 && s.rb (Reg.CHAIN_WATCH (n / 32)) (n % 32) && !(s.chain.lost.contains n) &&
      decide (last + s.rf Reg.CHAIN_KEEP_TIMEOUT 0 16 * 1000 ≤ s.now) then
    let s := s.setB (Reg.CHAIN_SEEN (n / 32)) (n % 32) false
    let s := { s with chain := { s.chain with lost := s.chain.lost ++ [n] } }
    raise 0x40 8 (s.setReg Reg.CHAIN_LOST_NODE (W n))
  else s

/-- The state of the Ethernet lane changes (R263, R278). -/
def ethLinkChange (sync anDone fullDuplex remoteFault : Bool) (s : State) : State :=
  if sync && !(lanes48.any fun l => laneRole l s == 4) then s
  else
    -- the receiver of the ETH lane is up from here: the time its eye may be swept counts from now (R262)
    let rose := sync && !s.rb Reg.ETH_STATUS 0
    let s := if rose then each (lanes48.filter fun l => laneRole l s == 4) (fun l s => s.setLane l { s.lane l with eyeAt := s.now }) s else s
    ethLink sync anDone fullDuplex remoteFault s

/-- The port codes of TIME_MPORT (R284, R292). -/
def masterPorts (s : State) : List Nat := ([0, 8, 16, 24].map fun i => s.rf Reg.TIME_MPORT i 7).filter (· != 0)

/-- TIME_SYNC falls due (R284). -/
def timeSyncSend (s : State) : State :=
  let due := match s.time.syncAt with
    | some t => decide (t + s.rf Reg.TIME_SYNC_PERIOD 0 20 * 1000 ≤ s.now)
    | none => true
  if s.running 0x42 && !(masterPorts s).isEmpty && due then
    let seq := s.time.syncSeq
    let s := { s with time := { s.time with syncAt := some s.now, syncSeq := (seq + 1) % 65536 } }
    if chainOn s then chainOn' (masterPorts s) 0x20 0xFF 2 (.sync seq) s else s
  else s

/-- TIME_NS has wrapped (R282), and the time service rewrites the epoch (R283). -/
def timeWrapped (s : State) : State :=
  if s.enabled 0x42 && s.time.acc / 2 ^ 64 != s.time.wraps then
    let s := raise 0x42 11 { s with time := { s.time with wraps := s.time.acc / 2 ^ 64 } }
    if svcRuns 1 s then epochRewrite s else s
  else s

/-- The head of a launch queue is judged, its frame having been read from DRAM (R288, R289). -/
def launchHead (eth : Bool) (s : State) : State := launch eth (if eth then launchEth else launchChain) s

/-- CHAIN_FRAME_RECEIVE: a frame has arrived on a port, `age` ns after its K27.7 (R269 to R275). -/
def execChainFrameReceive (dt : Nat) (port : Fin 64) (lanes : List LaneStream) (symOk : Bool) (age : Nat) (s : State) :
    Host.Outcome State Fault Refusal :=
  run dt (onPage 0x40 (chainReceive port lanes symOk age)) s

/-- CHAIN_TX_NEXT: the frame in transmission on a port ends (R274). -/
def execChainTxNext (dt : Nat) (port : Fin 64) (s : State) : Host.Outcome State Fault Refusal :=
  run dt (onPage 0x40 (chainNext port)) s

/-- REGRD: a read request arrives over Chain (R276). -/
def execRegrd (dt : Nat) (src : Fin 64) (payload : List Byte) (s : State) : Host.Outcome State Fault Refusal :=
  run dt (onPage 0x40 (chainRow 0 0x10 (some src) payload 0)) s

/-- REGWR: a write request arrives over Chain (R276). -/
def execRegwr (dt : Nat) (src : Fin 64) (payload : List Byte) (s : State) : Host.Outcome State Fault Refusal :=
  run dt (onPage 0x40 (chainRow 0 0x11 (some src) payload 0)) s

/-- REGRSP: a response arrives over Chain; the chip asks for none (R275). -/
def execRegrsp (dt : Nat) (payload : List Byte) (s : State) : Host.Outcome State Fault Refusal :=
  run dt (onPage 0x40 (chainRow 0 0x12 none payload 0)) s

/-- CHAIN_EVENT: an EVENT frame arrives (R275). -/
def execChainEvent (dt : Nat) (src : Fin 64) (payload : List Byte) (s : State) : Host.Outcome State Fault Refusal :=
  run dt (onPage 0x40 (chainRow 0 0x50 (some src) payload 0)) s

/-- KEEP_SEND: a KEEP frame falls due (R277). -/
def execKeepSend (dt : Nat) (s : State) : Host.Outcome State Fault Refusal :=
  run dt (onPage 0x40 keepSend) s

/-- KEEP: a KEEP arrives from a node (R277). -/
def execKeep (dt : Nat) (src : Fin 64) (payload : List Byte) (s : State) : Host.Outcome State Fault Refusal :=
  run dt (onPage 0x40 (chainRow 0 0x60 (some src) payload 0)) s

/-- CHAINLOST: a watched node has fallen silent (R277). -/
def execChainlost (dt : Nat) (node : Fin 64) (s : State) : Host.Outcome State Fault Refusal :=
  run dt (onPage 0x40 (chainLost node)) s

/-- ETH_FRAME_RECEIVE: a frame arrives on ETH: destination MAC to the end of its payload (R278 to R281). -/
def execEthFrameReceive (dt : Nat) (frame : EthRx) (fcsOk : Bool) (s : State) : Host.Outcome State Fault Refusal :=
  run dt (onPage 0x41 (ethReceive frame.bytes fcsOk frame.age)) s

/-- ETH_LINK_CHANGE: synchronisation or auto-negotiation of ETH has changed (R278). -/
def execEthLinkChange (dt : Nat) (sync : Bool) (anDone : Bool) (fullDuplex : Bool) (remoteFault : Bool) (s : State) :
    Host.Outcome State Fault Refusal :=
  run dt (onPage 0x41 (ethLinkChange sync anDone fullDuplex remoteFault)) s

/-- TIME_SYNC_SEND: TIME_SYNC falls due on the master ports (R284). -/
def execTimeSyncSend (dt : Nat) (s : State) : Host.Outcome State Fault Refusal :=
  run dt (onPage 0x42 timeSyncSend) s

/-- TIME_SYNC: a TIME_SYNC arrives on a port, `age` ns after its K27.7 (R284). -/
def execTimeSync (dt : Nat) (port : Fin 64) (payload : List Byte) (age : Nat) (s : State) : Host.Outcome State Fault Refusal :=
  run dt (onPage 0x40 (chainRow port 0x20 none payload age)) s

/-- TIME_DLYREQ: a TIME_DLYREQ arrives on a port, `age` ns after its K27.7 (R284). -/
def execTimeDlyreq (dt : Nat) (port : Fin 64) (payload : List Byte) (age : Nat) (s : State) :
    Host.Outcome State Fault Refusal :=
  run dt (onPage 0x40 (chainRow port 0x21 none payload age)) s

/-- TIME_DLYRSP: a TIME_DLYRSP arrives on a port (R284). -/
def execTimeDlyrsp (dt : Nat) (port : Fin 64) (payload : List Byte) (s : State) : Host.Outcome State Fault Refusal :=
  run dt (onPage 0x40 (chainRow port 0x22 none payload 0)) s

/-- TIME_OFS_IN: an offset is written (R284, R285). -/
def execTimeOfsIn (dt : Nat) (path : Path) (data : Word) (s : State) : Host.Outcome State Fault Refusal :=
  run dt (rowPut path Reg.TIME_OFS_IN data) s

/-- STEP: TIME_NS is stepped (R286). -/
def execStep (dt : Nat) (path : Path) (s : State) : Host.Outcome State Fault Refusal :=
  run dt (rowWrite path Reg.TIME_CMD 1 timeCmdStep) s

/-- TIMEWRAP: TIME_NS wraps (R282). -/
def execTimewrap (dt : Nat) (s : State) : Host.Outcome State Fault Refusal :=
  run dt (onPage 0x42 timeWrapped) s

/-- TIME_EPOCH_WRAP_WRITE: the held epoch registers apply together (R283). -/
def execTimeEpochWrapWrite (dt : Nat) (path : Path) (data : Word) (s : State) : Host.Outcome State Fault Refusal :=
  run dt (rowPut path Reg.TIME_EPOCH_WRAP data) s

/-- TIME_NS_READ: TIME_NS is read, latching the press-time registers (R283). -/
def execTimeNsRead (dt : Nat) (path : Path) (s : State) : Host.Outcome State Fault Refusal :=
  run dt (rowGet path Reg.TIME_NS) s

/-- LQ_PUSH: a launch entry is pushed (R288, R289). -/
def execLqPush (dt : Nat) (path : Path) (eth : Bool) (s : State) : Host.Outcome State Fault Refusal :=
  run dt (rowWrite path (Reg.LQ (if eth then 0x41 else 0x40) 3) 1 (lqPush eth)) s

/-- LAUNCH: the head of a launch queue is judged (R288). -/
def execLaunch (dt : Nat) (eth : Bool) (s : State) : Host.Outcome State Fault Refusal :=
  run dt (onPage (lqPage eth) (launchHead eth)) s

/-- LQ_STAMP_POP: the oldest stamp is removed (R289). -/
def execLqStampPop (dt : Nat) (path : Path) (eth : Bool) (s : State) : Host.Outcome State Fault Refusal :=
  run dt (rowWrite path (Reg.LQ (if eth then 0x41 else 0x40) 7) 1 (lqPop eth)) s

end Sys2Proof.Machine
end

