-- ==== Sys2Proof/Machine/ExecDram.lean ====
section
/-! DEFINITION. The commands of the DRAM controller and its training helpers (R293 to R312). -/
namespace Sys2Proof.Machine

/-- A byte lane of channel-rank `k` may be swept (R307). -/
def eyeTracked (k : Nat) (s : State) : Bool :=
  dramReady s && s.rb Reg.DRAM_CTRL 4 && (k % 2 == 0 || s.rb Reg.DRAM_CTRL 8)

/-- The word of DRAMTRN_CMD that starts operation `op` with the other fields of `data`. -/
def trnWord (op : Nat) (data : Word) : Word := put data 0 4 op

/-- DRAM_BLOCK_ISSUE: a channel issues its next block (R298, R299). -/
def execDramBlockIssue (dt : Nat) (ch : Fin 4) (s : State) : Host.Outcome State Fault Refusal :=
  run dt (onPage 0x48 (blockIssue ch)) s

/-- DRAM_BLOCK_DONE: the oldest issued block of a channel completes (R295, R297, R300). -/
def execDramBlockDone (dt : Nat) (ch : Fin 4) (ecc : Ecc) (s : State) : Host.Outcome State Fault Refusal :=
  run dt (onPage 0x48 (blockDone ch ecc)) s

/-- TOKEN_ACCRUE: every bucket gains its tokens for 64 ns (R300). -/
def execTokenAccrue (dt : Nat) (s : State) : Host.Outcome State Fault Refusal :=
  run dt (onPage 0x4A tokenAccrue) s

/-- DRAM_PROMOTE: requests that have reached their age limit are promoted (R298). -/
def execDramPromote (dt : Nat) (s : State) : Host.Outcome State Fault Refusal :=
  run dt (onPage 0x4A dramPromote) s

/-- DRAMQOS_REG_WRITE: a port regulator is written (R300, R301). -/
def execDramqosRegWrite (dt : Nat) (path : Path) (p : Fin 12) (data : Word) (s : State) : Host.Outcome State Fault Refusal :=
  run dt (rowPut path (Reg.DRAMQOS_REG p) data) s

/-- REFRESH_DUE: a refresh of a channel-rank falls due (R303, R305). -/
def execRefreshDue (dt : Nat) (k : Fin 8) (s : State) : Host.Outcome State Fault Refusal :=
  run dt (onPage 0x48 (refreshDue k)) s

/-- REFRESH_MAKEUP: a postponed refresh is made up (R304, R305). -/
def execRefreshMakeup (dt : Nat) (k : Fin 8) (s : State) : Host.Outcome State Fault Refusal :=
  run dt (onPage 0x48 (refreshMakeup k)) s

/-- MR4_POLL: the devices' refresh-rate status is read (R306). -/
def execMr4Poll (dt : Nat) (c0 : Fin 5 × Fin 5) (c1 : Fin 5 × Fin 5) (c2 : Fin 5 × Fin 5) (c3 : Fin 5 × Fin 5) (s : State) : Host.Outcome State Fault Refusal :=
  run dt (onPage 0x48 (mr4Poll ([c0, c1, c2, c3].map fun c => (c.1.val, c.2.val)))) s

/-- RDEYE_SWEEP: a byte lane of a channel-rank measures its read eye (R307). -/
def execRdeyeSweep (dt : Nat) (k : Fin 8) (lane : Fin 2) (low high : BitVec 64) (s : State) : Host.Outcome State Fault Refusal :=
  run dt (onPage 0x48 (fun s => if eyeTracked k s then rdEyeSweep (2 * k.val + lane.val) (toBits 128 (high ++ low).toNat) s else s)) s

/-- SCRUB: the scrubber reads its next block (R296). -/
def execScrub (dt : Nat) (ecc : Ecc) (s : State) : Host.Outcome State Fault Refusal :=
  run dt (onPage 0x48 (dramScrub ecc)) s

/-- SWEEP: the training sweep starts (R309). -/
def execSweep (dt : Nat) (path : Path) (data : Word) (s : State) : Host.Outcome State Fault Refusal :=
  run dt (rowWrite path Reg.DRAMTRN_CMD (trnWord 1 data) (trnGate (dramSweep (trnWord 1 data)))) s

/-- MRW: a mode register is written (R308). -/
def execMrw (dt : Nat) (path : Path) (data : Word) (s : State) : Host.Outcome State Fault Refusal :=
  run dt (rowWrite path Reg.DRAMTRN_CMD (trnWord 2 data) (trnMrw (trnWord 2 data))) s

/-- MRR: a mode register is read; the device answers `mr` (R308). -/
def execMrr (dt : Nat) (path : Path) (data : Word) (mr : Byte) (s : State) : Host.Outcome State Fault Refusal :=
  run dt (rowWrite path Reg.DRAMTRN_CMD (trnWord 3 data) (trnMrr mr.toNat)) s

/-- FINISH: training ends and the memory serves (R308). -/
def execFinish (dt : Nat) (path : Path) (s : State) : Host.Outcome State Fault Refusal :=
  run dt (rowWrite path Reg.DRAMTRN_CMD 4 (trnGate dramFinish)) s

/-- RETRAIN: the memory leaves service (R308). -/
def execRetrain (dt : Nat) (path : Path) (s : State) : Host.Outcome State Fault Refusal :=
  run dt (rowWrite path Reg.DRAMTRN_CMD 5 (trnGate dramRetrain)) s

/-- SWEEP_DONE: the sweep has made its last tap (R309). -/
def execSweepDone (dt : Nat) (map0 : BitVec 128) (map1 : BitVec 128) (s : State) : Host.Outcome State Fault Refusal :=
  run dt (onPage 0x49 (dramSweepDone map0.toNat map1.toNat)) s

end Sys2Proof.Machine
end

