-- ==== Sys2Proof/Machine/ExecDefl.lean ====
section
/-! DEFINITION. The commands of the compression engines (R313 to R324). -/
namespace Sys2Proof.Machine

/-- DEFL_START: a job starts (R313, R314). -/
def execDeflStart (dt : Nat) (path : Path) (e : Fin 2) (s : State) : Host.Outcome State Fault Refusal :=
  run dt (rowWrite path (Reg.DEFL_E_CMD e) 1 (deflCmdStart (path == .svc) e)) s

/-- DEFL_RESUME: a stopped job goes on into a new destination (R313, R321). -/
def execDeflResume (dt : Nat) (path : Path) (e : Fin 2) (s : State) : Host.Outcome State Fault Refusal :=
  run dt (rowWrite path (Reg.DEFL_E_CMD e) 2 (deflCmdResume (path == .svc) e)) s

/-- DEFL_FLUSH: a compress job ends its block after `consumed` input bytes (R318). -/
def execDeflFlush (dt : Nat) (path : Path) (e : Fin 2) (consumed : Nat) (s : State) : Host.Outcome State Fault Refusal :=
  run dt (rowWrite path (Reg.DEFL_E_FLUSH e) 1 (deflFlush e consumed)) s

/-- DEFL_JOB_END: a job ends or stops; `out` are the output bytes due (R315, R316, R319, R320, R322). -/
def execDeflJobEnd (dt : Nat) (e : Fin 2) (out : List Byte) (consumed : Nat) (s : State) : Host.Outcome State Fault Refusal :=
  run dt (onPage 0x50 (deflJobEnd e out consumed)) s

end Sys2Proof.Machine
end

