-- ==== Sys2Proof/Machine/ExecFab.lean ====
section
/-! DEFINITION. The commands of the fabric and of Pace (R58 to R77). -/
namespace Sys2Proof.Machine

/-- BEAD_MEASURE: the bead time is measured (R58). -/
def execBeadMeasure (dt : Nat) (ps : BitVec 12) (s : State) : Host.Outcome State Fault Refusal :=
  run dt (onPage 4 (fun s => s.setReg Reg.FAB_BEAD_PS (W ps.toNat))) s

/-- FAB_PROMOTE: class 1 to 3 fabric requests whose age has reached their limit are promoted (R63). -/
def execFabPromote (dt : Nat) (cls : Fin 4) (age : Nat) (s : State) : Host.Outcome State Fault Refusal :=
  run dt (onPage 4 (fun s => if 1 ≤ cls.val then fabPromote cls age s else s)) s

/-- FAB_C0_LAT_MAX_READ: the longest fire-class service time is read and cleared (R77). -/
def execFabC0LatMaxRead (dt : Nat) (path : Path) (s : State) : Host.Outcome State Fault Refusal :=
  run dt (rowGet path Reg.FAB_C0_LAT_MAX) s

/-- PACE_WINDOW_END: PACE_WINDOW lines have fired (R65, R68). -/
def execPaceWindowEnd (dt : Nat) (slack : List Int) (s : State) : Host.Outcome State Fault Refusal :=
  run dt (onPage 3 (paceWindowEnd slack)) s

/-- PACE_SERVICE_UPDATE: the pace service applies its rule between window ends (R68). -/
def execPaceServiceUpdate (dt : Nat) (s : State) : Host.Outcome State Fault Refusal :=
  run dt (onPage 3 paceService) s

/-- PACE_TEMP_UPDATE: the sensors report a new Tj (R67, R76). -/
def execPaceTempUpdate (dt : Nat) (tj : BitVec 10) (s : State) : Host.Outcome State Fault Refusal :=
  run dt (onPage 3 (paceTemp tj.toNat)) s

/-- VBELOW: VCORE at the on-die comparator changes; VCORE_OK and VBELOW follow its place against PACE_VMIN (R73). -/
def execVbelow (dt mv : Nat) (s : State) : Host.Outcome State Fault Refusal :=
  run dt (fun s => { s with pace := { s.pace with vcore := mv } }) s

/-- PACE_SETPOINT_WRITE: a write of PACE_SETPOINT starts a ramp, or is refused (R70). -/
def execPaceSetpointWrite (dt : Nat) (path : Path) (data : Word) (s : State) : Host.Outcome State Fault Refusal :=
  run dt (rowPut path Reg.PACE_SETPOINT data) s

/-- PACE_RAMP_STEP: a ramp step is sent and read back after SETTLE_US (R70). -/
def execPaceRampStep (dt : Nat) (sends : List PmbTry) (read : PmbRead) (s : State) : Host.Outcome State Fault Refusal :=
  run dt (onPage 3 (rampStep sends read.tries read.value)) s

/-- PMB_ENABLE: a write of PACE_CTRL; where it raises PMB_EN the exponent is the one the regulator answers (R70). -/
def execPmbEnable (dt : Nat) (path : Path) (data : Word) (mode : PmbRead) (s : State) : Host.Outcome State Fault Refusal :=
  run dt (rowWrite path Reg.PACE_CTRL data (fun s =>
    let t := writeReg path 3 0x040 data s
    if t.rb Reg.PACE_CTRL 0 && !s.rb Reg.PACE_CTRL 0 then
      let q := pmbTries 0x20 0 false mode.tries t
      { q.2 with pace := { q.2.pace with expo := if q.1 then sgn 5 mode.value else s.pace.expo } }
    else t)) s

/-- PMB_ALERT: PMB_ALERT_N falls (R71). -/
def execPmbAlert (dt : Nat) (status : PmbRead) (s : State) : Host.Outcome State Fault Refusal :=
  run dt (onPage 3 (pmbAlert status.tries status.value)) s

/-- GUARBACK: GUAR_OK has stayed 1 for 2 × L (R74). -/
def execGuarback (dt : Nat) (s : State) : Host.Outcome State Fault Refusal := run dt (onPage 3 guarBack) s

end Sys2Proof.Machine
end

