-- ==== Sys2Proof/Machine/ExecLoop.lean ====
section
/-! DEFINITION. The commands of the loop engine and its tuning tools (R325 to R344). -/
namespace Sys2Proof.Machine

/-- LOOP_GROUP_TICK: a group ticks; `done` are the frames of an acquisition the tick abandons (R325, R330, R331, R338). -/
def execLoopGroupTick (dt : Nat) (g : Fin 8) (done : List (Fin 4 × List Word)) (s : State) : Host.Outcome State Fault Refusal :=
  run dt (onPage 0x58 (groupTick g done)) s

/-- LOOP_ACQ_DONE: the acquisitions of a tick are over, and its updates are made, or skipped where `ovr` (R329, R331, R332). -/
def execLoopAcqDone (dt : Nat) (g : Fin 8) (frames : List (Fin 4 × List Word)) (ovr : Bool) (s : State) :
    Host.Outcome State Fault Refusal :=
  run dt (onPage 0x58 (groupDone g frames ovr)) s

/-- PWM_PERIOD: a PWM period starts (R333). -/
def execPwmPeriod (dt : Nat) (n : Fin 16) (s : State) : Host.Outcome State Fault Refusal :=
  run dt (onPage 0x58 (pwmPeriod n)) s

/-- LOOP_SLOT_ENABLE: LOOP_S_CFG is written with EN 1 (R326, R328, R330). -/
def execLoopSlotEnable (dt : Nat) (path : Path) (slot : Fin 128) (data : Word) (s : State) : Host.Outcome State Fault Refusal :=
  run dt (rowPut path (Reg.LOOP_S_CFG slot) (putBit data 0 true)) s

/-- LOOP_SLOT_DISABLE: LOOP_S_CFG is written with EN 0 (R330). -/
def execLoopSlotDisable (dt : Nat) (path : Path) (slot : Fin 128) (data : Word) (s : State) :
    Host.Outcome State Fault Refusal :=
  run dt (rowPut path (Reg.LOOP_S_CFG slot) (putBit data 0 false)) s

/-- LOOP_OSC_ACT_CLEAR: oscillation bits are cleared (R337). -/
def execLoopOscActClear (dt : Nat) (path : Path) (w : Fin 4) (data : Word) (s : State) : Host.Outcome State Fault Refusal :=
  run dt (rowPut path (Reg.LOOP_OSC_ACT w) data) s

/-- ARM: a capture is armed (R339). -/
def execArm (dt : Nat) (path : Path) (g : Fin 8) (s : State) : Host.Outcome State Fault Refusal :=
  run dt (rowWrite path Reg.LOOPCAP_CMD (W (1 + 16 * g.val)) (capCmdArm g)) s

/-- TRIGGER: a trace is triggered (R341). -/
def execTrigger (dt : Nat) (path : Path) (g : Fin 8) (s : State) : Host.Outcome State Fault Refusal :=
  run dt (rowWrite path Reg.LOOPCAP_CMD (W (2 + 16 * g.val)) (capCmdTrigger g)) s

/-- CAPTURE_STOP: a capture is stopped (R340, R341). -/
def execCaptureStop (dt : Nat) (path : Path) (g : Fin 8) (s : State) : Host.Outcome State Fault Refusal :=
  run dt (rowWrite path Reg.LOOPCAP_CMD (W (3 + 16 * g.val)) (capCmdStop g)) s

/-- LOOPCAP_DATA_READ: a capture word is read (R342). -/
def execLoopcapDataRead (dt : Nat) (path : Path) (s : State) : Host.Outcome State Fault Refusal :=
  run dt (rowGet path Reg.LOOPCAP_DATA) s

/-- LOOP_MON_Y_READ: the monitored slot is read, latching its other words (R343). -/
def execLoopMonYRead (dt : Nat) (path : Path) (s : State) : Host.Outcome State Fault Refusal :=
  run dt (rowGet path Reg.LOOP_MON_Y) s

end Sys2Proof.Machine
end

