-- ==== Sys2Proof/Machine/ExecMap.lean ====
section
/-! DEFINITION. The commands of the nozzle map and the screen (R106 to R127). -/
namespace Sys2Proof.Machine

/-- MAP_NOZZLES_WRITE: the number of nozzles is written (R108). -/
def execMapNozzlesWrite (dt : Nat) (path : Path) (data : Word) (s : State) : Host.Outcome State Fault Refusal :=
  run dt (rowPut path Reg.MAP_NOZZLES data) s

/-- NOZZLE_MAP_WRITE: a word of the nozzle map window is written (R117). -/
def execNozzleMapWrite (dt : Nat) (path : Path) (ofs : BitVec 24) (data : Word) (s : State) :
    Host.Outcome State Fault Refusal :=
  run dt (rowPut path (0x50000000 + ofs.toNat) data) s

/-- TABLE_WINDOW_WRITE: a word of a threshold, history, compare or camera table is written (R27, R119). -/
def execTableWindowWrite (dt : Nat) (path : Path) (addr : BitVec 32) (data : Word) (s : State) :
    Host.Outcome State Fault Refusal :=
  run dt (rowPut path addr.toNat data) s

/-- MAP_COPY_LIVE: the live map bank is copied into the inactive one (R119). -/
def execMapCopyLive (dt : Nat) (path : Path) (s : State) : Host.Outcome State Fault Refusal :=
  run dt (rowWrite path Reg.MAP_CMD 1 (mapCmd 1)) s

/-- VALIDATE: the inactive map bank is checked (R117). -/
def execValidate (dt : Nat) (path : Path) (s : State) : Host.Outcome State Fault Refusal :=
  run dt (rowWrite path Reg.MAP_CMD 2 (mapCmd 2)) s

/-- SCREEN_COPY_LIVE: the live threshold bank is copied into the inactive one (R119). -/
def execScreenCopyLive (dt : Nat) (path : Path) (s : State) : Host.Outcome State Fault Refusal :=
  run dt (rowWrite path Reg.SCREEN_CMD 1 (screenCmd)) s

/-- TABLE_COMMAND_DONE: a table command of the page finishes (R117, R119, R143, R231). -/
def execTableCommandDone (dt : Nat) (page : Fin 128) (s : State) : Host.Outcome State Fault Refusal :=
  run dt (
    fun s => match page.val with
      | 0x14 => onPage 0x14 (fun s =>
          if !s.cmdBusy Reg.MAP_CMD_STATUS then s else if s.map.op = 2 then validateDone s else mapCopyDone s) s
      | 0x15 => onPage 0x15 (fun s => if s.cmdBusy Reg.SCREEN_CMD_STATUS then screenCopyDone s else s) s
      | 0x17 => onPage 0x17 histCopyDone s
      | 0x24 => onPage 0x24 ispCopyDone s
      | _ => s) s

/-- MAP_TRIM_DATA_WRITE: a staged trim word is written and MAP_TRIM_ADDR advances (R122). -/
def execMapTrimDataWrite (dt : Nat) (path : Path) (data : Word) (s : State) : Host.Outcome State Fault Refusal :=
  run dt (rowPut path Reg.MAP_TRIM_DATA data) s

/-- MAP_TRIM_DATA_READ: a trim word is read and MAP_TRIM_ADDR advances (R122). -/
def execMapTrimDataRead (dt : Nat) (path : Path) (s : State) : Host.Outcome State Fault Refusal :=
  run dt (rowGet path Reg.MAP_TRIM_DATA) s

/-- LINE_MAP: a contone line is mapped, compensated and screened by the rods and handed to DELAY (R110 to R126, R136). -/
def execLineMap (dt : Nat) (upset : List (Nat × Byte)) (newBad : List Nat) (fixedMap : Nat) (fixedTile : Nat) (rodUpset : List (Fin 64)) (s : State) :
    Host.Outcome State Fault Refusal :=
  run dt (onPage 0x14 (lineMap upset newBad fixedMap fixedTile (rodUpset.map Fin.val))) s

end Sys2Proof.Machine
end

