-- ==== Sys2Proof/Machine/ExecMotion.lean ====
section
/-! DEFINITION. The commands of the motion axes (R345 to R355). -/
namespace Sys2Proof.Machine

/-- MOVE: the axis moves to TARGET (R348, R349). -/
def execMove (dt : Nat) (path : Path) (a : Fin 4) (s : State) : Host.Outcome State Fault Refusal :=
  run dt (rowWrite path (Reg.MOTION_CMD a) 1 (axisMove a)) s

/-- SPEED: the axis runs at TARGET (R348, R349). -/
def execSpeed (dt : Nat) (path : Path) (a : Fin 4) (s : State) : Host.Outcome State Fault Refusal :=
  run dt (rowWrite path (Reg.MOTION_CMD a) 2 (axisSpeed a)) s

/-- HOME: the axis homes (R349, R354). -/
def execHome (dt : Nat) (path : Path) (a : Fin 4) (s : State) : Host.Outcome State Fault Refusal :=
  run dt (rowWrite path (Reg.MOTION_CMD a) 3 (axisHome a)) s

/-- MOTION_STOP_STOP: the pulses stop at once (R350). -/
def execMotionStopStop (dt : Nat) (path : Path) (a : Fin 4) (s : State) : Host.Outcome State Fault Refusal :=
  run dt (rowWrite path (Reg.MOTION_STOP a) 1 (motionStop a)) s

/-- HALT: the axis decelerates and stops (R350). -/
def execHalt (dt : Nat) (path : Path) (a : Fin 4) (s : State) : Host.Outcome State Fault Refusal :=
  run dt (rowWrite path (Reg.MOTION_STOP a) 2 (motionHalt a)) s

/-- DRV_EN_SET: the driver is enabled (R352). -/
def execDrvEnSet (dt : Nat) (path : Path) (a : Fin 4) (s : State) : Host.Outcome State Fault Refusal :=
  run dt (rowWrite path (Reg.MOTION_STATE a) 0x20 (motionStateWrite a 0x20)) s

/-- DRV_EN_CLEAR: the driver is disabled (R350, R351). -/
def execDrvEnClear (dt : Nat) (path : Path) (a : Fin 4) (s : State) : Host.Outcome State Fault Refusal :=
  run dt (rowWrite path (Reg.MOTION_STATE a) 0 (motionStateWrite a 0)) s

/-- EN_WAIT_END: EN_WAIT has passed (R352). -/
def execEnWaitEnd (dt : Nat) (a : Fin 4) (s : State) : Host.Outcome State Fault Refusal :=
  run dt (onPage 0x60 (axisWaitEnd a)) s

/-- PROFILE_UPDATE: the 1 µs profile update (R348). -/
def execProfileUpdate (dt : Nat) (a : Fin 4) (s : State) : Host.Outcome State Fault Refusal :=
  run dt (onPage 0x60 (axisUpdate a)) s

/-- STEP_CARRY: the phase accumulator carries (R346, R347). -/
def execStepCarry (dt : Nat) (a : Fin 4) (s : State) : Host.Outcome State Fault Refusal :=
  run dt (onPage 0x60 (axisCarry a)) s

/-- LIMITTRIP: a debounced limit input changes (R347, R350). -/
def execLimittrip (dt : Nat) (a : Fin 4) (positive : Bool) (active : Bool) (s : State) : Host.Outcome State Fault Refusal :=
  run dt (onPage 0x60 (axisLimit a positive active)) s

/-- HOME_EDGE: a raw active edge of the home source (R354). -/
def execHomeEdge (dt : Nat) (a : Fin 4) (s : State) : Host.Outcome State Fault Refusal :=
  run dt (onPage 0x60 (axisHomeEdge a)) s

/-- HOME_CONFIRM: the debounce of the home source completes (R354). -/
def execHomeConfirm (dt : Nat) (a : Fin 4) (active : Bool) (wrong : Bool) (s : State) : Host.Outcome State Fault Refusal :=
  run dt (onPage 0x60 (axisConfirm a active wrong)) s

end Sys2Proof.Machine
end

