-- ==== Sys2Proof/Machine/ExecPair.lean ====
section
/-! DEFINITION. The commands of the redundant pair (R356 to R370). -/
namespace Sys2Proof.Machine

/-- PAIR_ALIVE_TOGGLE: PAIR_ALIVE_OUT toggles (R357). -/
def execPairAliveToggle (dt : Nat) (s : State) : Host.Outcome State Fault Refusal :=
  run dt (onPage 0x68 aliveToggle) s

/-- PAIR_ALIVE_EDGE: an edge on PAIR_ALIVE_IN (R357). -/
def execPairAliveEdge (dt : Nat) (s : State) : Host.Outcome State Fault Refusal :=
  run dt (onPage 0x68 aliveEdge) s

/-- PEERLOST: no edge within PAIR_TAKEOVER_WAIT (R357, R359). -/
def execPeerlost (dt : Nat) (s : State) : Host.Outcome State Fault Refusal :=
  run dt (onPage 0x68 peerLost) s

/-- TAKE_ARM: PEER_ALIVE has been 1 for 1 ms (R359). -/
def execTakeArm (dt : Nat) (s : State) : Host.Outcome State Fault Refusal :=
  run dt (onPage 0x68 takeArm) s

/-- PAIR_EN_WRITE: PAIR_CTRL is written (R359). -/
def execPairEnWrite (dt : Nat) (path : Path) (data : Word) (s : State) : Host.Outcome State Fault Refusal :=
  run dt (rowPut path Reg.PAIR_CTRL data) s

/-- JOIN: the standby joins (R364). -/
def execJoin (dt : Nat) (path : Path) (s : State) : Host.Outcome State Fault Refusal :=
  run dt (rowWrite path Reg.PAIR_CMD 1 pairJoin) s

/-- TAKE: the standby takes over (R359, R364). -/
def execTake (dt : Nat) (path : Path) (force : Bool) (s : State) : Host.Outcome State Fault Refusal :=
  run dt (rowWrite path Reg.PAIR_CMD (W (2 + 16 * force.toNat)) (pairTake force)) s

/-- DETACH: the unit leaves the pair (R359). -/
def execDetach (dt : Nat) (path : Path) (s : State) : Host.Outcome State Fault Refusal :=
  run dt (rowWrite path Reg.PAIR_CMD 3 pairDetachCmd) s

/-- YIELD: the active asks to be taken over (R359). -/
def execYieldCmd (dt : Nat) (path : Path) (s : State) : Host.Outcome State Fault Refusal :=
  run dt (rowWrite path Reg.PAIR_CMD 4 pairYield) s

/-- MIRROR_SEND: a MIRROR frame falls due (R363). -/
def execMirrorSend (dt : Nat) (s : State) : Host.Outcome State Fault Refusal :=
  run dt (onPage 0x68 mirrorSend) s

/-- MIRROR: a MIRROR frame arrives (R362 to R364). -/
def execMirror (dt : Nat) (payload : List Byte) (s : State) : Host.Outcome State Fault Refusal :=
  run dt (onPage 0x40 (chainRow 0 0x40 none payload 0)) s

/-- MIRRORLOST: MIRROR has aged beyond PAIR_MIRROR_TMO (R363). -/
def execMirrorlost (dt : Nat) (s : State) : Host.Outcome State Fault Refusal :=
  run dt (onPage 0x68 mirrorLost) s

end Sys2Proof.Machine
end

