-- ==== Sys2Proof/Machine/ExecTally.lean ====
section
/-! DEFINITION. The commands of Tally (R371 to R385). -/
namespace Sys2Proof.Machine

/-- Tally acts while the island is powered (R376, R377). -/
def tallyOn (f : State → State) (s : State) : State := if s.chip.island then s else f s

/-- TALLY_COUNT: the filtered levels of A and B change (R372). -/
def execTallyCount (dt : Nat) (a : Bool) (b : Bool) (s : State) : Host.Outcome State Fault Refusal :=
  run dt (tallyOn (fun s => { s with tally := tallyCount s.now a b s.tally })) s

/-- TALLY_IDENT: IDENT on the legal indicator's UART (R381, R382). -/
def execTallyIdent (dt : Nat) (params : List Byte) (crcOk : Bool) (busy : Bool) (s : State) :
    Host.Outcome State Fault Refusal :=
  run dt (tallyOn (tallyRequest 1 0 params crcOk busy tallyIdent)) s

/-- TOTALS: TOTALS on the UART (R382). -/
def execTotals (dt : Nat) (params : List Byte) (crcOk : Bool) (busy : Bool) (s : State) : Host.Outcome State Fault Refusal :=
  run dt (tallyOn (tallyRequest 2 0 params crcOk busy (fun s => tallySend 2 0 (cntBytes s.tally.life) s))) s

/-- JOB: JOB on the UART (R382). -/
def execJob (dt : Nat) (params : List Byte) (crcOk : Bool) (busy : Bool) (s : State) : Host.Outcome State Fault Refusal :=
  run dt (tallyOn (tallyRequest 3 1 params crcOk busy (tallyJob params))) s

/-- PARAM_READ: PARAM_READ on the UART (R382). -/
def execParamRead (dt : Nat) (params : List Byte) (crcOk : Bool) (busy : Bool) (s : State) : Host.Outcome State Fault Refusal :=
  run dt (tallyOn (tallyRequest 4 0 params crcOk busy (fun s => tallySend 4 0 (paramBytes s.tally.params) s))) s

/-- PARAM_WRITE: PARAM_WRITE on the UART (R378 to R380, R382). -/
def execParamWrite (dt : Nat) (params : List Byte) (crcOk : Bool) (busy : Bool) (s : State) :
    Host.Outcome State Fault Refusal :=
  run dt (tallyOn (tallyRequest 5 20 params crcOk busy (tallyParamWrite params))) s

/-- AUDIT_READ: AUDIT_READ on the UART (R379, R382). -/
def execAuditRead (dt : Nat) (params : List Byte) (crcOk : Bool) (busy : Bool) (s : State) : Host.Outcome State Fault Refusal :=
  run dt (tallyOn (tallyRequest 6 1 params crcOk busy (tallyAudit params))) s

/-- TALLY_RESERVED_CMD: a request with a reserved command (R382). -/
def execTallyReservedCmd (dt : Nat) (cmd : Byte) (crcOk : Bool) (busy : Bool) (s : State) : Host.Outcome State Fault Refusal :=
  run dt (tallyOn (tallyRequest cmd.toNat 0 [] crcOk busy (tallySend cmd.toNat 1 []))) s

/-- TALLY_BURN_DONE: the burn of an audit record ends (R380). -/
def execTallyBurnDone (dt : Nat) (s : State) : Host.Outcome State Fault Refusal :=
  run dt (tallyOn tallyBurnDone) s

/-- TALLY_UART_GAP: a request with a gap of more than 10 ms is discarded without reply (R382). -/
def execTallyUartGap (dt : Nat) (s : State) : Host.Outcome State Fault Refusal :=
  run dt (tallyOn id) s

/-- SEAL_OPEN_CHANGE: the debounced level of SEAL_OPEN_N (R378, R385). -/
def execSealOpenChange (dt : Nat) (low : Bool) (s : State) : Host.Outcome State Fault Refusal :=
  run dt (tallyOn (fun s => { s with tally := { s.tally with sealOpen := low } })) s

/-- VSTBY_POWER_ON: VSTBY has returned (R377, R381, R403). -/
def execVstbyPowerOn (dt : Nat) (retOk : Bool) (romOk : Bool) (s : State) : Host.Outcome State Fault Refusal :=
  run dt (islandUp retOk romOk) s

/-- TALLY_STATUS_READ: TALLY_STATUS is read, latching the page for the path (R385). -/
def execTallyStatusRead (dt : Nat) (path : Path) (s : State) : Host.Outcome State Fault Refusal :=
  run dt (rowGet path Reg.TALLY_STATUS) s

end Sys2Proof.Machine
end

