-- ==== Sys2Proof/Machine/ExecSvc.lean ====
section
/-! DEFINITION. The commands of the mailboxes, the service cores and their firmware (R386 to R399). -/
namespace Sys2Proof.Machine

/-- SVC_HEARTBEAT: a service beats (R387). -/
def execSvcHeartbeat (dt : Nat) (i : Fin 11) (s : State) : Host.Outcome State Fault Refusal :=
  run dt (onPage 9 (heartbeat i)) s

/-- SVCSTALE: a heartbeat has stood still (R387). -/
def execSvcstale (dt : Nat) (i : Fin 11) (s : State) : Host.Outcome State Fault Refusal :=
  run dt (onPage 9 (hbStale i)) s

/-- RESTART: a core is restarted (R388). -/
def execRestart (dt : Nat) (path : Path) (core : Fin 4) (s : State) : Host.Outcome State Fault Refusal :=
  run dt (rowWrite path Reg.SVC_CMD (W (1 + 16 * core.val)) (svcRestart core)) s

/-- COREHALT: a running core halts (R388). -/
def execCorehalt (dt : Nat) (core : Fin 4) (s : State) : Host.Outcome State Fault Refusal :=
  run dt (onPage 9 (coreHalt core)) s

/-- MBX_DATA_WRITE: a mailbox data word is written (R389, R391). -/
def execMbxDataWrite (dt : Nat) (path : Path) (m : Fin 32) (w : Fin 16) (data : Word) (s : State) :
    Host.Outcome State Fault Refusal :=
  run dt (rowPut path (Reg.MBX_DATA m w) data) s

/-- MBX_DOORBELL: doorbells are rung (R390, R391). -/
def execMbxDoorbell (dt : Nat) (path : Path) (data : Word) (s : State) : Host.Outcome State Fault Refusal :=
  run dt (rowPut path Reg.MBX_DOORBELL data) s

/-- MBX_ACK: messages are acknowledged (R390). -/
def execMbxAck (dt : Nat) (path : Path) (data : Word) (s : State) : Host.Outcome State Fault Refusal :=
  run dt (rowPut path Reg.MBX_ACK data) s

/-- PING: a service takes a PING (R393). -/
def execPing (dt : Nat) (i : Fin 11) (s : State) : Host.Outcome State Fault Refusal :=
  run dt (onPage 9 (svcPing i)) s

/-- DISCOVER: the head management service takes a DISCOVER (R174, R393). -/
def execDiscover (dt : Nat) (s : State) : Host.Outcome State Fault Refusal :=
  run dt (onPage 9 svcDiscover) s

/-- LOG_READ: the log service takes a LOG_READ (R393). -/
def execLogRead (dt : Nat) (s : State) : Host.Outcome State Fault Refusal :=
  run dt (onPage 9 svcLogRead) s

/-- LOG_MARK: the log service takes a LOG_MARK (R393). -/
def execLogMark (dt : Nat) (s : State) : Host.Outcome State Fault Refusal :=
  run dt (onPage 9 svcLogMark) s

/-- FW_BEGIN: the log service takes a FW_BEGIN (R393, R394). -/
def execFwBegin (dt : Nat) (s : State) : Host.Outcome State Fault Refusal :=
  run dt (onPage 9 svcFwBegin) s

/-- FW_DATA: the log service takes a FW_DATA (R393, R394). -/
def execFwData (dt : Nat) (s : State) : Host.Outcome State Fault Refusal :=
  run dt (onPage 9 svcFwData) s

/-- FW_END: the log service takes a FW_END (R393, R395). -/
def execFwEnd (dt : Nat) (readOk : Bool) (s : State) : Host.Outcome State Fault Refusal :=
  run dt (onPage 9 (svcFwEnd readOk)) s

/-- YH_WINDOW_WRITE: a word of the carried-over window is written (R398, R399). -/
def execYhWindowWrite (dt : Nat) (path : Path) (ofs : BitVec 16) (data : Word) (s : State) : Host.Outcome State Fault Refusal :=
  run dt (rowPut path (0x40100000 + ofs.toNat) data) s

end Sys2Proof.Machine
end

