-- ==== Sys2Proof/Machine/ExecReset.lean ====
section
/-! DEFINITION. The commands of start-up, reset and the pins (R400 to R417, R435 to R438, R57). -/
namespace Sys2Proof.Machine

/-- POR_ASSERT: a monitored rail has stayed below its falling threshold for `ns` (R401). -/
def execPorAssert (dt : Nat) (rail : Rail) (ns : Nat) (s : State) : Host.Outcome State Fault Refusal :=
  run dt (porAssert rail ns) s

/-- POR_RELEASE: POR releases (R401, R403). -/
def execPorRelease (dt : Nat) (rstnRises : Bool) (s : State) : Host.Outcome State Fault Refusal :=
  run dt (porRelease rstnRises) s

/-- RESET_N_LOW: RESET_N has been low for `ns` (R402). -/
def execResetNLow (dt : Nat) (ns : Nat) (s : State) : Host.Outcome State Fault Refusal :=
  run dt (rstLowFor ns) s

/-- RESET_N_RISE: RESET_N rises (R403). -/
def execResetNRise (dt : Nat) (s : State) : Host.Outcome State Fault Refusal :=
  run dt rstRise s

/-- DOMAIN_RELEASE: the next domain is released (R404). -/
def execDomainRelease (dt : Nat) (beat : BitVec 12) (straps : Fin 16) (readErr : BitVec 2) (s : State) :
    Host.Outcome State Fault Refusal :=
  run dt (domainRelease beat.toNat straps readErr) s

/-- OPTION_LOAD_DONE: the option loader gives its verdict (R406 to R410). -/
def execOptionLoadDone (dt : Nat) (answers : Bool) (otpOk : Bool) (s : State) : Host.Outcome State Fault Refusal :=
  run dt (optionVerdict answers otpOk) s

/-- QUIESCE_TIMEOUT: a group has not quiesced in time (R414). -/
def execQuiesceTimeout (dt : Nat) (s : State) : Host.Outcome State Fault Refusal :=
  run dt quiesceTimeout s

/-- BLOCK_RESET_START: the reset controller takes the next request (R414, R415). -/
def execBlockResetStart (dt : Nat) (s : State) : Host.Outcome State Fault Refusal :=
  run dt blockStart s

/-- BLKRESET: a group leaves reset (R414, R416). -/
def execBlkreset (dt : Nat) (beat : BitVec 12) (s : State) : Host.Outcome State Fault Refusal :=
  run dt (blockRelease beat.toNat) s

/-- GPIO_SET: GPIO outputs are set (R435). -/
def execGpioSet (dt : Nat) (path : Path) (data : Word) (s : State) : Host.Outcome State Fault Refusal :=
  run dt (rowPut path Reg.GPIO_SET data) s

/-- GPIO_CLR: GPIO outputs are cleared (R435). -/
def execGpioClr (dt : Nat) (path : Path) (data : Word) (s : State) : Host.Outcome State Fault Refusal :=
  run dt (rowPut path Reg.GPIO_CLR data) s

/-- GPIOEDGE: the debounced level of a GPIO input (R436). -/
def execGpioedge (dt : Nat) (pin : Fin 16) (level : Bool) (s : State) : Host.Outcome State Fault Refusal :=
  run dt (onPage 0x7E (gpioEdge pin level)) s

/-- DEBUG_UART_TX_WRITE: a byte is written to the debug UART (R438). -/
def execDebugUartTxWrite (dt : Nat) (path : Path) (data : Word) (s : State) : Host.Outcome State Fault Refusal :=
  run dt (rowPut path Reg.DEBUG_UART_TX data) s

/-- DBG_RX_BYTE: a byte arrives on DBG_RX (R438). -/
def execDbgRxByte (dt : Nat) (b : Byte) (s : State) : Host.Outcome State Fault Refusal :=
  run dt (onPage 0x7F (dbgRx b)) s

/-- DEBUG_UART_RX_READ: a byte is read from the debug UART (R438). -/
def execDebugUartRxRead (dt : Nat) (path : Path) (s : State) : Host.Outcome State Fault Refusal :=
  run dt (rowGet path Reg.DEBUG_UART_RX) s

/-- ISLAND_POR_ASSERT: VSTBY has stayed below its threshold for `ns` (R377, R401). -/
def execIslandPorAssert (dt : Nat) (ns : Nat) (s : State) : Host.Outcome State Fault Refusal :=
  run dt (islandDown ns) s

/-- DBG_TX_BYTE_SENT: the oldest byte of the transmit FIFO has left (R438). -/
def execDbgTxByteSent (dt : Nat) (s : State) : Host.Outcome State Fault Refusal :=
  run dt (onPage 0x7F dbgTx) s

/-- UPTIME_WRAP: SYS_UPTIME wraps (R40, R57). -/
def execUptimeWrap (dt : Nat) (s : State) : Host.Outcome State Fault Refusal :=
  run dt (onPage 0 uptimeWrap) s

end Sys2Proof.Machine
end

