-- ==== Sys2Proof/Machine/Dispatch.lean ====
section
/-! DEFINITION. The meaning of every command, one arm each. -/
namespace Sys2Proof.Machine

/-- The effect of command `i` on state `s`. -/
def exec (i : Instr) (s : State) : Host.Outcome State Fault Refusal :=
  match i with
  | .registerWrite dt path width addr data => Sys2Proof.Machine.execRegisterWrite dt path width addr data s
  | .wideCounterRead dt path addr => Sys2Proof.Machine.execWideCounterRead dt path addr s
  | .enable dt path page on => Sys2Proof.Machine.execEnable dt path page on s
  | .quiesceReq dt path page => Sys2Proof.Machine.execQuiesceReq dt path page s
  | .quiesceRelease dt path page => Sys2Proof.Machine.execQuiesceRelease dt path page s
  | .quiesceComplete dt page => Sys2Proof.Machine.execQuiesceComplete dt page s
  | .resetReq dt path page => Sys2Proof.Machine.execResetReq dt path page s
  | .shadowCommit dt path page => Sys2Proof.Machine.execShadowCommit dt path page s
  | .abort dt path page => Sys2Proof.Machine.execAbort dt path page s
  | .discard dt path page => Sys2Proof.Machine.execDiscard dt path page s
  | .pageLockWrite dt path page data => Sys2Proof.Machine.execPageLockWrite dt path page data s
  | .evtStatusClear dt path page data again => Sys2Proof.Machine.execEvtStatusClear dt path page data again s
  | .qspiWrite dt bytes => Sys2Proof.Machine.execQspiWrite dt bytes s
  | .qspiStatus dt => Sys2Proof.Machine.execQspiStatus dt s
  | .qspiRead dt addr count => Sys2Proof.Machine.execQspiRead dt addr count s
  | .qspiIdent dt => Sys2Proof.Machine.execQspiIdent dt s
  | .qspiReservedOpcode dt op => Sys2Proof.Machine.execQspiReservedOpcode dt op s
  | .qspiCutShort dt bytes => Sys2Proof.Machine.execQspiCutShort dt bytes s
  | .burstTimeout dt path asker addr words count done => Sys2Proof.Machine.execBurstTimeout dt path asker addr words count done s
  | .beadMeasure dt ps => Sys2Proof.Machine.execBeadMeasure dt ps s
  | .fabPromote dt cls age => Sys2Proof.Machine.execFabPromote dt cls age s
  | .fabC0LatMaxRead dt path => Sys2Proof.Machine.execFabC0LatMaxRead dt path s
  | .paceWindowEnd dt slack => Sys2Proof.Machine.execPaceWindowEnd dt slack s
  | .paceServiceUpdate dt => Sys2Proof.Machine.execPaceServiceUpdate dt s
  | .paceTempUpdate dt tj => Sys2Proof.Machine.execPaceTempUpdate dt tj s
  | .vbelow dt mv => Sys2Proof.Machine.execVbelow dt mv s
  | .paceSetpointWrite dt path data => Sys2Proof.Machine.execPaceSetpointWrite dt path data s
  | .paceRampStep dt sends read => Sys2Proof.Machine.execPaceRampStep dt sends read s
  | .pmbEnable dt path data mode => Sys2Proof.Machine.execPmbEnable dt path data mode s
  | .pmbAlert dt status => Sys2Proof.Machine.execPmbAlert dt status s
  | .guarback dt => Sys2Proof.Machine.execGuarback dt s
  | .chainJob dt payload => Sys2Proof.Machine.execChainJob dt payload s
  | .intakeDescPush dt path data => Sys2Proof.Machine.execIntakeDescPush dt path data s
  | .pageArm dt => Sys2Proof.Machine.execPageArm dt s
  | .cue dt level => Sys2Proof.Machine.execCue dt level s
  | .pageEligible dt => Sys2Proof.Machine.execPageEligible dt s
  | .bandDue dt => Sys2Proof.Machine.execBandDue dt s
  | .chainBand dt seg => Sys2Proof.Machine.execChainBand dt seg s
  | .bandDispatch dt => Sys2Proof.Machine.execBandDispatch dt s
  | .stripDone dt es => Sys2Proof.Machine.execStripDone dt es s
  | .stripfail dt es => Sys2Proof.Machine.execStripfail dt es s
  | .intakeFailPop dt path data => Sys2Proof.Machine.execIntakeFailPop dt path data s
  | .cancelJob dt path job => Sys2Proof.Machine.execCancelJob dt path job s
  | .clearQueue dt path => Sys2Proof.Machine.execClearQueue dt path s
  | .inflBandTimeMaxRead dt path => Sys2Proof.Machine.execInflBandTimeMaxRead dt path s
  | .mapNozzlesWrite dt path data => Sys2Proof.Machine.execMapNozzlesWrite dt path data s
  | .nozzleMapWrite dt path ofs data => Sys2Proof.Machine.execNozzleMapWrite dt path ofs data s
  | .tableWindowWrite dt path addr data => Sys2Proof.Machine.execTableWindowWrite dt path addr data s
  | .mapCopyLive dt path => Sys2Proof.Machine.execMapCopyLive dt path s
  | .validate dt path => Sys2Proof.Machine.execValidate dt path s
  | .screenCopyLive dt path => Sys2Proof.Machine.execScreenCopyLive dt path s
  | .tableCommandDone dt page => Sys2Proof.Machine.execTableCommandDone dt page s
  | .mapTrimDataWrite dt path data => Sys2Proof.Machine.execMapTrimDataWrite dt path data s
  | .mapTrimDataRead dt path => Sys2Proof.Machine.execMapTrimDataRead dt path s
  | .lineMap dt upset newBad fixedMap fixedTile rodUpset => Sys2Proof.Machine.execLineMap dt upset newBad fixedMap fixedTile rodUpset s
  | .firePitchDenWrite dt path data => Sys2Proof.Machine.execFirePitchDenWrite dt path data s
  | .firePitchNumWrite dt path data => Sys2Proof.Machine.execFirePitchNumWrite dt path data s
  | .fireEval dt ser => Sys2Proof.Machine.execFireEval dt ser s
  | .rowReadDone dt h r ser => Sys2Proof.Machine.execRowReadDone dt h r ser s
  | .triggerEdge dt h => Sys2Proof.Machine.execTriggerEdge dt h s
  | .triggerPulseEnd dt h => Sys2Proof.Machine.execTriggerPulseEnd dt h s
  | .tapcal dt h m => Sys2Proof.Machine.execTapcal dt h m s
  | .estop dt low ns => Sys2Proof.Machine.execEstop dt low ns s
  | .strobefault dt h => Sys2Proof.Machine.execStrobefault dt h s
  | .fireWdogClear dt path data => Sys2Proof.Machine.execFireWdogClear dt path data s
  | .fireStart dt path => Sys2Proof.Machine.execFireStart dt path s
  | .fireStop dt path => Sys2Proof.Machine.execFireStop dt path s
  | .fireResume dt path => Sys2Proof.Machine.execFireResume dt path s
  | .fireHistCopyLive dt path => Sys2Proof.Machine.execFireHistCopyLive dt path s
  | .keepaliveSend dt h => Sys2Proof.Machine.execKeepaliveSend dt h s
  | .hlinkHcmd dt path data => Sys2Proof.Machine.execHlinkHcmd dt path data s
  | .headResponse dt h body crcOk => Sys2Proof.Machine.execHeadResponse dt h body crcOk s
  | .hlinkCmdTimeout dt h => Sys2Proof.Machine.execHlinkCmdTimeout dt h s
  | .headTelemetry dt h body crcOk => Sys2Proof.Machine.execHeadTelemetry dt h body crcOk s
  | .headlost dt h => Sys2Proof.Machine.execHeadlost dt h s
  | .hlinkRejoin dt path data => Sys2Proof.Machine.execHlinkRejoin dt path data s
  | .rejoinRetry dt h => Sys2Proof.Machine.execRejoinRetry dt h s
  | .headsHoldWrite dt path h data => Sys2Proof.Machine.execHeadsHoldWrite dt path h data s
  | .encTransition dt e lineB ser => Sys2Proof.Machine.execEncTransition dt e lineB ser s
  | .encill dt e => Sys2Proof.Machine.execEncill dt e s
  | .index dt e => Sys2Proof.Machine.execIndex dt e s
  | .standstill dt e => Sys2Proof.Machine.execStandstill dt e s
  | .cmpDelayedPulse dt c => Sys2Proof.Machine.execCmpDelayedPulse dt c s
  | .cmpPulseEnd dt c => Sys2Proof.Machine.execCmpPulseEnd dt c s
  | .stakeSend dt => Sys2Proof.Machine.execStakeSend dt s
  | .stakeReceive dt word => Sys2Proof.Machine.execStakeReceive dt word s
  | .stakestale dt => Sys2Proof.Machine.execStakestale dt s
  | .armIndex0 dt path => Sys2Proof.Machine.execArmIndex0 dt path s
  | .armIndex1 dt path => Sys2Proof.Machine.execArmIndex1 dt path s
  | .load dt path e => Sys2Proof.Machine.execLoad dt path e s
  | .learnOfs dt path => Sys2Proof.Machine.execLearnOfs dt path s
  | .encResume dt path => Sys2Proof.Machine.execEncResume dt path s
  | .cmpRestart dt path mask => Sys2Proof.Machine.execCmpRestart dt path mask s
  | .webSrcWrite dt path data => Sys2Proof.Machine.execWebSrcWrite dt path data s
  | .encPosRead dt path => Sys2Proof.Machine.execEncPosRead dt path s
  | .camFrameStart dt p num => Sys2Proof.Machine.execCamFrameStart dt p num s
  | .camLine dt p hdrOk vc dtype px crcOk ovr bad fixed => Sys2Proof.Machine.execCamLine dt p hdrOk vc dtype px crcOk ovr bad fixed s
  | .camFrameEnd dt p => Sys2Proof.Machine.execCamFrameEnd dt p s
  | .framemiss dt p => Sys2Proof.Machine.execFramemiss dt p s
  | .queueFs dt path p setId => Sys2Proof.Machine.execQueueFs dt path p setId s
  | .runNow dt path p => Sys2Proof.Machine.execRunNow dt path p s
  | .cciRead dt path p reg => Sys2Proof.Machine.execCciRead dt path p reg s
  | .cciListDone dt p entries res => Sys2Proof.Machine.execCciListDone dt p entries res s
  | .camFstatNoRead dt path p => Sys2Proof.Machine.execCamFstatNoRead dt path p s
  | .ispCopyLive dt path mask => Sys2Proof.Machine.execIspCopyLive dt path mask s
  | .inspectRead dt => Sys2Proof.Machine.execInspectRead dt s
  | .inspectReadDone dt => Sys2Proof.Machine.execInspectReadDone dt s
  | .inspectDefPop dt path data => Sys2Proof.Machine.execInspectDefPop dt path data s
  | .travWindowClose dt bad => Sys2Proof.Machine.execTravWindowClose dt bad s
  | .travLease dt path data => Sys2Proof.Machine.execTravLease dt path data s
  | .leaselost dt => Sys2Proof.Machine.execLeaselost dt s
  | .freeze dt path => Sys2Proof.Machine.execFreeze dt path s
  | .thaw dt path => Sys2Proof.Machine.execThaw dt path s
  | .resetState dt path => Sys2Proof.Machine.execResetState dt path s
  | .unmiss dt path => Sys2Proof.Machine.execUnmiss dt path s
  | .splice dt edge => Sys2Proof.Machine.execSplice dt edge s
  | .resyncSub dt path h => Sys2Proof.Machine.execResyncSub dt path h s
  | .travSubDataWrite dt path data => Sys2Proof.Machine.execTravSubDataWrite dt path data s
  | .travSubDataRead dt path => Sys2Proof.Machine.execTravSubDataRead dt path s
  | .travNozEstRead dt path => Sys2Proof.Machine.execTravNozEstRead dt path s
  | .pllLock dt q pll => Sys2Proof.Machine.execPllLock dt q pll s
  | .pllunlock dt q pll => Sys2Proof.Machine.execPllunlock dt q pll s
  | .reflost dt q => Sys2Proof.Machine.execReflost dt q s
  | .laneCfgWrite dt path l data => Sys2Proof.Machine.execLaneCfgWrite dt path l data s
  | .eiEntry dt path l => Sys2Proof.Machine.execEiEntry dt path l s
  | .eiExit dt path l => Sys2Proof.Machine.execEiExit dt path l s
  | .loopSet dt path l loop => Sys2Proof.Machine.execLoopSet dt path l loop s
  | .errInj dt path l => Sys2Proof.Machine.execErrInj dt path l s
  | .laneSignalDetect dt l => Sys2Proof.Machine.execLaneSignalDetect dt l s
  | .lockup dt l => Sys2Proof.Machine.execLockup dt l s
  | .locklost dt l squelch rx => Sys2Proof.Machine.execLocklost dt l squelch rx s
  | .eiReceived dt l => Sys2Proof.Machine.execEiReceived dt l s
  | .elasterr dt l bad drift => Sys2Proof.Machine.execElasterr dt l bad drift s
  | .eyeSweep dt l pass rx ctle dfe => Sys2Proof.Machine.execEyeSweep dt l pass rx ctle dfe s
  | .prbsLock dt l => Sys2Proof.Machine.execPrbsLock dt l s
  | .prbserr dt l errs worst => Sys2Proof.Machine.execPrbserr dt l errs worst s
  | .chainFrameReceive dt port lanes symOk age => Sys2Proof.Machine.execChainFrameReceive dt port lanes symOk age s
  | .chainTxNext dt port => Sys2Proof.Machine.execChainTxNext dt port s
  | .regrd dt src payload => Sys2Proof.Machine.execRegrd dt src payload s
  | .regwr dt src payload => Sys2Proof.Machine.execRegwr dt src payload s
  | .regrsp dt payload => Sys2Proof.Machine.execRegrsp dt payload s
  | .chainEvent dt src payload => Sys2Proof.Machine.execChainEvent dt src payload s
  | .keepSend dt => Sys2Proof.Machine.execKeepSend dt s
  | .keep dt src payload => Sys2Proof.Machine.execKeep dt src payload s
  | .chainlost dt node => Sys2Proof.Machine.execChainlost dt node s
  | .ethFrameReceive dt frame fcsOk => Sys2Proof.Machine.execEthFrameReceive dt frame fcsOk s
  | .ethLinkChange dt sync anDone fullDuplex remoteFault => Sys2Proof.Machine.execEthLinkChange dt sync anDone fullDuplex remoteFault s
  | .timeSyncSend dt => Sys2Proof.Machine.execTimeSyncSend dt s
  | .timeSync dt port payload age => Sys2Proof.Machine.execTimeSync dt port payload age s
  | .timeDlyreq dt port payload age => Sys2Proof.Machine.execTimeDlyreq dt port payload age s
  | .timeDlyrsp dt port payload => Sys2Proof.Machine.execTimeDlyrsp dt port payload s
  | .timeOfsIn dt path data => Sys2Proof.Machine.execTimeOfsIn dt path data s
  | .step dt path => Sys2Proof.Machine.execStep dt path s
  | .timewrap dt => Sys2Proof.Machine.execTimewrap dt s
  | .timeEpochWrapWrite dt path data => Sys2Proof.Machine.execTimeEpochWrapWrite dt path data s
  | .timeNsRead dt path => Sys2Proof.Machine.execTimeNsRead dt path s
  | .lqPush dt path eth => Sys2Proof.Machine.execLqPush dt path eth s
  | .launch dt eth => Sys2Proof.Machine.execLaunch dt eth s
  | .lqStampPop dt path eth => Sys2Proof.Machine.execLqStampPop dt path eth s
  | .dramBlockIssue dt ch => Sys2Proof.Machine.execDramBlockIssue dt ch s
  | .dramBlockDone dt ch ecc => Sys2Proof.Machine.execDramBlockDone dt ch ecc s
  | .tokenAccrue dt => Sys2Proof.Machine.execTokenAccrue dt s
  | .dramPromote dt => Sys2Proof.Machine.execDramPromote dt s
  | .dramqosRegWrite dt path p data => Sys2Proof.Machine.execDramqosRegWrite dt path p data s
  | .refreshDue dt k => Sys2Proof.Machine.execRefreshDue dt k s
  | .refreshMakeup dt k => Sys2Proof.Machine.execRefreshMakeup dt k s
  | .mr4Poll dt c0 c1 c2 c3 => Sys2Proof.Machine.execMr4Poll dt c0 c1 c2 c3 s
  | .rdeyeSweep dt k lane low high => Sys2Proof.Machine.execRdeyeSweep dt k lane low high s
  | .scrub dt ecc => Sys2Proof.Machine.execScrub dt ecc s
  | .sweep dt path data => Sys2Proof.Machine.execSweep dt path data s
  | .mrw dt path data => Sys2Proof.Machine.execMrw dt path data s
  | .mrr dt path data mr => Sys2Proof.Machine.execMrr dt path data mr s
  | .finish dt path => Sys2Proof.Machine.execFinish dt path s
  | .retrain dt path => Sys2Proof.Machine.execRetrain dt path s
  | .sweepDone dt map0 map1 => Sys2Proof.Machine.execSweepDone dt map0 map1 s
  | .deflStart dt path e => Sys2Proof.Machine.execDeflStart dt path e s
  | .deflResume dt path e => Sys2Proof.Machine.execDeflResume dt path e s
  | .deflFlush dt path e consumed => Sys2Proof.Machine.execDeflFlush dt path e consumed s
  | .deflJobEnd dt e out consumed => Sys2Proof.Machine.execDeflJobEnd dt e out consumed s
  | .loopGroupTick dt g done => Sys2Proof.Machine.execLoopGroupTick dt g done s
  | .loopAcqDone dt g frames ovr => Sys2Proof.Machine.execLoopAcqDone dt g frames ovr s
  | .pwmPeriod dt n => Sys2Proof.Machine.execPwmPeriod dt n s
  | .loopSlotEnable dt path slot data => Sys2Proof.Machine.execLoopSlotEnable dt path slot data s
  | .loopSlotDisable dt path slot data => Sys2Proof.Machine.execLoopSlotDisable dt path slot data s
  | .loopOscActClear dt path w data => Sys2Proof.Machine.execLoopOscActClear dt path w data s
  | .arm dt path g => Sys2Proof.Machine.execArm dt path g s
  | .trigger dt path g => Sys2Proof.Machine.execTrigger dt path g s
  | .captureStop dt path g => Sys2Proof.Machine.execCaptureStop dt path g s
  | .loopcapDataRead dt path => Sys2Proof.Machine.execLoopcapDataRead dt path s
  | .loopMonYRead dt path => Sys2Proof.Machine.execLoopMonYRead dt path s
  | .move dt path a => Sys2Proof.Machine.execMove dt path a s
  | .speed dt path a => Sys2Proof.Machine.execSpeed dt path a s
  | .home dt path a => Sys2Proof.Machine.execHome dt path a s
  | .motionStopStop dt path a => Sys2Proof.Machine.execMotionStopStop dt path a s
  | .halt dt path a => Sys2Proof.Machine.execHalt dt path a s
  | .drvEnSet dt path a => Sys2Proof.Machine.execDrvEnSet dt path a s
  | .drvEnClear dt path a => Sys2Proof.Machine.execDrvEnClear dt path a s
  | .enWaitEnd dt a => Sys2Proof.Machine.execEnWaitEnd dt a s
  | .profileUpdate dt a => Sys2Proof.Machine.execProfileUpdate dt a s
  | .stepCarry dt a => Sys2Proof.Machine.execStepCarry dt a s
  | .limittrip dt a positive active => Sys2Proof.Machine.execLimittrip dt a positive active s
  | .homeEdge dt a => Sys2Proof.Machine.execHomeEdge dt a s
  | .homeConfirm dt a active wrong => Sys2Proof.Machine.execHomeConfirm dt a active wrong s
  | .pairAliveToggle dt => Sys2Proof.Machine.execPairAliveToggle dt s
  | .pairAliveEdge dt => Sys2Proof.Machine.execPairAliveEdge dt s
  | .peerlost dt => Sys2Proof.Machine.execPeerlost dt s
  | .takeArm dt => Sys2Proof.Machine.execTakeArm dt s
  | .pairEnWrite dt path data => Sys2Proof.Machine.execPairEnWrite dt path data s
  | .join dt path => Sys2Proof.Machine.execJoin dt path s
  | .take dt path force => Sys2Proof.Machine.execTake dt path force s
  | .detach dt path => Sys2Proof.Machine.execDetach dt path s
  | .yieldCmd dt path => Sys2Proof.Machine.execYieldCmd dt path s
  | .mirrorSend dt => Sys2Proof.Machine.execMirrorSend dt s
  | .mirror dt payload => Sys2Proof.Machine.execMirror dt payload s
  | .mirrorlost dt => Sys2Proof.Machine.execMirrorlost dt s
  | .tallyCount dt a b => Sys2Proof.Machine.execTallyCount dt a b s
  | .tallyIdent dt params crcOk busy => Sys2Proof.Machine.execTallyIdent dt params crcOk busy s
  | .totals dt params crcOk busy => Sys2Proof.Machine.execTotals dt params crcOk busy s
  | .job dt params crcOk busy => Sys2Proof.Machine.execJob dt params crcOk busy s
  | .paramRead dt params crcOk busy => Sys2Proof.Machine.execParamRead dt params crcOk busy s
  | .paramWrite dt params crcOk busy => Sys2Proof.Machine.execParamWrite dt params crcOk busy s
  | .auditRead dt params crcOk busy => Sys2Proof.Machine.execAuditRead dt params crcOk busy s
  | .tallyReservedCmd dt cmd crcOk busy => Sys2Proof.Machine.execTallyReservedCmd dt cmd crcOk busy s
  | .tallyBurnDone dt => Sys2Proof.Machine.execTallyBurnDone dt s
  | .tallyUartGap dt => Sys2Proof.Machine.execTallyUartGap dt s
  | .sealOpenChange dt low => Sys2Proof.Machine.execSealOpenChange dt low s
  | .vstbyPowerOn dt retOk romOk => Sys2Proof.Machine.execVstbyPowerOn dt retOk romOk s
  | .tallyStatusRead dt path => Sys2Proof.Machine.execTallyStatusRead dt path s
  | .svcHeartbeat dt idx => Sys2Proof.Machine.execSvcHeartbeat dt idx s
  | .svcstale dt idx => Sys2Proof.Machine.execSvcstale dt idx s
  | .restart dt path core => Sys2Proof.Machine.execRestart dt path core s
  | .corehalt dt core => Sys2Proof.Machine.execCorehalt dt core s
  | .mbxDataWrite dt path m w data => Sys2Proof.Machine.execMbxDataWrite dt path m w data s
  | .mbxDoorbell dt path data => Sys2Proof.Machine.execMbxDoorbell dt path data s
  | .mbxAck dt path data => Sys2Proof.Machine.execMbxAck dt path data s
  | .ping dt idx => Sys2Proof.Machine.execPing dt idx s
  | .discover dt => Sys2Proof.Machine.execDiscover dt s
  | .logRead dt => Sys2Proof.Machine.execLogRead dt s
  | .logMark dt => Sys2Proof.Machine.execLogMark dt s
  | .fwBegin dt => Sys2Proof.Machine.execFwBegin dt s
  | .fwData dt => Sys2Proof.Machine.execFwData dt s
  | .fwEnd dt readOk => Sys2Proof.Machine.execFwEnd dt readOk s
  | .yhWindowWrite dt path ofs data => Sys2Proof.Machine.execYhWindowWrite dt path ofs data s
  | .porAssert dt rail ns => Sys2Proof.Machine.execPorAssert dt rail ns s
  | .porRelease dt rstnRises => Sys2Proof.Machine.execPorRelease dt rstnRises s
  | .resetNLow dt ns => Sys2Proof.Machine.execResetNLow dt ns s
  | .resetNRise dt => Sys2Proof.Machine.execResetNRise dt s
  | .domainRelease dt beat straps readErr => Sys2Proof.Machine.execDomainRelease dt beat straps readErr s
  | .optionLoadDone dt answers otpOk => Sys2Proof.Machine.execOptionLoadDone dt answers otpOk s
  | .quiesceTimeout dt => Sys2Proof.Machine.execQuiesceTimeout dt s
  | .blockResetStart dt => Sys2Proof.Machine.execBlockResetStart dt s
  | .blkreset dt beat => Sys2Proof.Machine.execBlkreset dt beat s
  | .gpioSet dt path data => Sys2Proof.Machine.execGpioSet dt path data s
  | .gpioClr dt path data => Sys2Proof.Machine.execGpioClr dt path data s
  | .gpioedge dt pin level => Sys2Proof.Machine.execGpioedge dt pin level s
  | .debugUartTxWrite dt path data => Sys2Proof.Machine.execDebugUartTxWrite dt path data s
  | .dbgRxByte dt b => Sys2Proof.Machine.execDbgRxByte dt b s
  | .debugUartRxRead dt path => Sys2Proof.Machine.execDebugUartRxRead dt path s
  | .squelch dt l => Sys2Proof.Machine.execSquelch dt l s
  | .refclkReturn dt q => Sys2Proof.Machine.execRefclkReturn dt q s
  | .islandPorAssert dt ns => Sys2Proof.Machine.execIslandPorAssert dt ns s
  | .dbgTxByteSent dt => Sys2Proof.Machine.execDbgTxByteSent dt s
  | .uptimeWrap dt => Sys2Proof.Machine.execUptimeWrap dt s

end Sys2Proof.Machine
end

