-- ==== Sys2Proof/WellFormed.lean ====
section
/-! DEFINITION. The operands a command may carry, beyond what their types say. -/
namespace Sys2Proof

/-- A Chain port code that names a port (R268). -/
def chainPort (v : Nat) : Bool := (decide (1 ≤ v) && decide (v ≤ 12)) || (decide (16 ≤ v) && decide (v ≤ 63))

/-- The operands of a command are such as its row can carry: register widths (R51), reserved opcodes (R53), burst lengths
(R54), fabric classes (R20), the four pipelines (R65), table window addresses (R27), pulse lengths (R152), telemetry and stake lengths (R175, R200), nozzle
numbers (R249), lock losses (R256), PRBS losses (R265), port codes (R268), payload lengths (R270, R284), Tally's commands (R382) and
the channels of a sense port (R331). -/
def WellFormed (i : Instr) : Bool :=
  match i with
  | .registerWrite _ _ width _ _ => width == 1 || width == 2 || width == 4
  | .wideCounterRead .. => true
  | .enable .. => true
  | .quiesceReq .. => true
  | .quiesceRelease .. => true
  | .quiesceComplete .. => true
  | .resetReq .. => true
  | .shadowCommit .. => true
  | .abort .. => true
  | .discard .. => true
  | .pageLockWrite .. => true
  | .evtStatusClear .. => true
  | .qspiWrite .. => true
  | .qspiStatus .. => true
  | .qspiRead .. => true
  | .qspiIdent .. => true
  | .qspiReservedOpcode _ op => !([0x02, 0x05, 0x0B, 0x9F].contains op.toNat)
  | .qspiCutShort .. => true
  | .burstTimeout _ _ _ _ words count done => (decide (1 ≤ count) && decide (count ≤ 64) && decide (done < count) && (match words with | some ws => ws.length == count | none => true))
  | .beadMeasure .. => true
  | .fabPromote _ cls _ => decide (1 ≤ cls.val)
  | .fabC0LatMaxRead .. => true
  | .paceWindowEnd _ slack => slack.length == 4
  | .paceServiceUpdate .. => true
  | .paceTempUpdate .. => true
  | .vbelow .. => true
  | .paceSetpointWrite .. => true
  | .paceRampStep .. => true
  | .pmbEnable .. => true
  | .pmbAlert .. => true
  | .guarback .. => true
  | .chainJob _ payload => decide (payload.length ≤ 2048)
  | .intakeDescPush .. => true
  | .pageArm .. => true
  | .cue .. => true
  | .pageEligible .. => true
  | .bandDue .. => true
  | .chainBand _ seg => decide (seg.length ≤ 2048)
  | .bandDispatch .. => true
  | .stripDone .. => true
  | .stripfail .. => true
  | .intakeFailPop .. => true
  | .cancelJob .. => true
  | .clearQueue .. => true
  | .inflBandTimeMaxRead .. => true
  | .mapNozzlesWrite .. => true
  | .nozzleMapWrite .. => true
  | .tableWindowWrite _ _ addr _ => (decide (0x51000000 ≤ addr.toNat) && decide (addr.toNat < 0x51340000))
  | .mapCopyLive .. => true
  | .validate .. => true
  | .screenCopyLive .. => true
  | .tableCommandDone .. => true
  | .mapTrimDataWrite .. => true
  | .mapTrimDataRead .. => true
  | .lineMap .. => true
  | .firePitchDenWrite .. => true
  | .firePitchNumWrite .. => true
  | .fireEval .. => true
  | .rowReadDone .. => true
  | .triggerEdge .. => true
  | .triggerPulseEnd .. => true
  | .tapcal .. => true
  | .estop _ low ns => (ns == 0 || low)
  | .strobefault .. => true
  | .fireWdogClear .. => true
  | .fireStart .. => true
  | .fireStop .. => true
  | .fireResume .. => true
  | .fireHistCopyLive .. => true
  | .keepaliveSend .. => true
  | .hlinkHcmd .. => true
  | .headResponse .. => true
  | .hlinkCmdTimeout .. => true
  | .headTelemetry _ _ body _ => body.length == 32
  | .headlost .. => true
  | .hlinkRejoin .. => true
  | .rejoinRetry .. => true
  | .headsHoldWrite .. => true
  | .encTransition .. => true
  | .encill .. => true
  | .index .. => true
  | .standstill .. => true
  | .cmpDelayedPulse .. => true
  | .cmpPulseEnd .. => true
  | .stakeSend .. => true
  | .stakeReceive _ word => word.length == 18
  | .stakestale .. => true
  | .armIndex0 .. => true
  | .armIndex1 .. => true
  | .load .. => true
  | .learnOfs .. => true
  | .encResume .. => true
  | .cmpRestart .. => true
  | .webSrcWrite .. => true
  | .encPosRead .. => true
  | .camFrameStart .. => true
  | .camLine _ _ _ _ _ px _ ovr _ _ => (match ovr with | some n => decide (n ≤ px.length) | none => true)
  | .camFrameEnd .. => true
  | .framemiss .. => true
  | .queueFs .. => true
  | .runNow .. => true
  | .cciRead .. => true
  | .cciListDone .. => true
  | .camFstatNoRead .. => true
  | .ispCopyLive .. => true
  | .inspectRead .. => true
  | .inspectReadDone .. => true
  | .inspectDefPop .. => true
  | .travWindowClose _ bad => bad.all fun n => decide (n < 131072)
  | .travLease .. => true
  | .leaselost .. => true
  | .freeze .. => true
  | .thaw .. => true
  | .resetState .. => true
  | .unmiss .. => true
  | .splice .. => true
  | .resyncSub .. => true
  | .travSubDataWrite .. => true
  | .travSubDataRead .. => true
  | .travNozEstRead .. => true
  | .pllLock .. => true
  | .pllunlock .. => true
  | .reflost .. => true
  | .laneCfgWrite .. => true
  | .eiEntry .. => true
  | .eiExit .. => true
  | .loopSet .. => true
  | .errInj .. => true
  | .laneSignalDetect .. => true
  | .lockup .. => true
  | .locklost _ _ squelch rx => (squelch || decide (4 ≤ rx.bad))
  | .eiReceived .. => true
  | .elasterr .. => true
  | .eyeSweep .. => true
  | .prbsLock .. => true
  | .prbserr _ _ errs worst => (decide (worst ≤ errs) && decide (worst ≤ 1024))
  | .chainFrameReceive _ port _ _ _ => chainPort port.val
  | .chainTxNext _ port => chainPort port.val
  | .regrd _ _ payload => decide (payload.length ≤ 2048)
  | .regwr _ _ payload => decide (payload.length ≤ 2048)
  | .regrsp _ payload => decide (payload.length ≤ 2048)
  | .chainEvent _ _ payload => decide (payload.length ≤ 2048)
  | .keepSend .. => true
  | .keep _ _ payload => decide (payload.length ≤ 2048)
  | .chainlost .. => true
  | .ethFrameReceive .. => true
  | .ethLinkChange .. => true
  | .timeSyncSend .. => true
  | .timeSync _ port payload _ => (chainPort port.val && payload.length == 20)
  | .timeDlyreq _ port payload _ => (chainPort port.val && payload.length == 8)
  | .timeDlyrsp _ port payload => (chainPort port.val && payload.length == 8)
  | .timeOfsIn .. => true
  | .step .. => true
  | .timewrap .. => true
  | .timeEpochWrapWrite .. => true
  | .timeNsRead .. => true
  | .lqPush .. => true
  | .launch .. => true
  | .lqStampPop .. => true
  | .dramBlockIssue .. => true
  | .dramBlockDone .. => true
  | .tokenAccrue .. => true
  | .dramPromote .. => true
  | .dramqosRegWrite .. => true
  | .refreshDue .. => true
  | .refreshMakeup .. => true
  | .mr4Poll .. => true
  | .rdeyeSweep .. => true
  | .scrub .. => true
  | .sweep .. => true
  | .mrw .. => true
  | .mrr .. => true
  | .finish .. => true
  | .retrain .. => true
  | .sweepDone .. => true
  | .deflStart .. => true
  | .deflResume .. => true
  | .deflFlush .. => true
  | .deflJobEnd .. => true
  | .loopGroupTick _ _ done => done.all fun f => decide (f.2.length ≤ 4)
  | .loopAcqDone _ _ frames _ => frames.all fun f => decide (f.2.length ≤ 4)
  | .pwmPeriod .. => true
  | .loopSlotEnable .. => true
  | .loopSlotDisable .. => true
  | .loopOscActClear .. => true
  | .arm .. => true
  | .trigger .. => true
  | .captureStop .. => true
  | .loopcapDataRead .. => true
  | .loopMonYRead .. => true
  | .move .. => true
  | .speed .. => true
  | .home .. => true
  | .motionStopStop .. => true
  | .halt .. => true
  | .drvEnSet .. => true
  | .drvEnClear .. => true
  | .enWaitEnd .. => true
  | .profileUpdate .. => true
  | .stepCarry .. => true
  | .limittrip .. => true
  | .homeEdge .. => true
  | .homeConfirm .. => true
  | .pairAliveToggle .. => true
  | .pairAliveEdge .. => true
  | .peerlost .. => true
  | .takeArm .. => true
  | .pairEnWrite .. => true
  | .join .. => true
  | .take .. => true
  | .detach .. => true
  | .yieldCmd .. => true
  | .mirrorSend .. => true
  | .mirror _ payload => decide (payload.length ≤ 2048)
  | .mirrorlost .. => true
  | .tallyCount .. => true
  | .tallyIdent .. => true
  | .totals .. => true
  | .job .. => true
  | .paramRead .. => true
  | .paramWrite .. => true
  | .auditRead .. => true
  | .tallyReservedCmd _ cmd _ _ => (decide (cmd.toNat < 1) || decide (6 < cmd.toNat))
  | .tallyBurnDone .. => true
  | .tallyUartGap .. => true
  | .sealOpenChange .. => true
  | .vstbyPowerOn .. => true
  | .tallyStatusRead .. => true
  | .svcHeartbeat .. => true
  | .svcstale .. => true
  | .restart .. => true
  | .corehalt .. => true
  | .mbxDataWrite .. => true
  | .mbxDoorbell .. => true
  | .mbxAck .. => true
  | .ping .. => true
  | .discover .. => true
  | .logRead .. => true
  | .logMark .. => true
  | .fwBegin .. => true
  | .fwData .. => true
  | .fwEnd .. => true
  | .yhWindowWrite .. => true
  | .porAssert .. => true
  | .porRelease .. => true
  | .resetNLow .. => true
  | .resetNRise .. => true
  | .domainRelease .. => true
  | .optionLoadDone .. => true
  | .quiesceTimeout .. => true
  | .blockResetStart .. => true
  | .blkreset .. => true
  | .gpioSet .. => true
  | .gpioClr .. => true
  | .gpioedge .. => true
  | .debugUartTxWrite .. => true
  | .dbgRxByte .. => true
  | .debugUartRxRead .. => true
  | .squelch .. => true
  | .refclkReturn .. => true
  | .islandPorAssert .. => true
  | .dbgTxByteSent .. => true
  | .uptimeWrap .. => true

end Sys2Proof
end

