-- ==== Sys2Proof/Machine/Tap.lean ====
section
/-! DEFINITION. The JTAG test access port and what it does to the balls (R434). The spec names IEEE 1149.1 and does not restate it: the
controller's states and what each does are that standard's (log entry 51). -/
namespace Sys2Proof.Machine

/-- IDCODE: version 0x1, part 0x4810, manufacturer field 0x19B, and bit 0 set (R434). -/
def tapIdcode : Word := 0x14810337

/-- The controller's next state after a rising edge of TCK with TMS. -/
def tapNext : TapPhase → Bool → TapPhase
  | .logicReset, m => if m then .logicReset else .runIdle
  | .runIdle, m | .updateDr, m | .updateIr, m => if m then .selectDr else .runIdle
  | .selectDr, m => if m then .selectIr else .captureDr
  | .captureDr, m | .shiftDr, m => if m then .exit1Dr else .shiftDr
  | .exit1Dr, m => if m then .updateDr else .pauseDr
  | .pauseDr, m => if m then .exit2Dr else .pauseDr
  | .exit2Dr, m => if m then .updateDr else .shiftDr
  | .selectIr, m => if m then .logicReset else .captureIr
  | .captureIr, m | .shiftIr, m => if m then .exit1Ir else .shiftIr
  | .exit1Ir, m => if m then .updateIr else .pauseIr
  | .pauseIr, m => if m then .exit2Ir else .pauseIr
  | .exit2Ir, m => if m then .updateIr else .shiftIr

/-- The instruction of a full instruction register: all ones is BYPASS, every other opcode is the BSDL file's. -/
def tapDecode (ir : List Bool) : TapOp :=
  if ir.all id then .bypass
  else match Config.tapOpcode ir with
    | 1 => .idcode
    | 2 => .sample
    | 3 => .extest
    | 4 => .clamp
    | 5 => .highz
    | _ => .bypass

/-- What the data register that an instruction selects captures; `pins` are the levels at the boundary cells. -/
def tapCapture (op : TapOp) (pins : List Bool) : List Bool :=
  match op with
  | .idcode => (List.range 32).map fun i => bit tapIdcode i
  | .sample | .extest => (List.range Config.tapCells).map fun i => at' false pins i
  | .bypass | .clamp | .highz => [false]

/-- TRST_N low, or the controller in its reset state: IDCODE is selected and the balls are the chip's. -/
def tapReset (t : JtagSt) : JtagSt := { t with phase := .logicReset, op := .idcode }

/-- A rising edge of TCK with TMS and TDI. -/
def tapClock (tms tdi : Bool) (pins : List Bool) (t : JtagSt) : JtagSt :=
  let t := match t.phase with
    | .captureDr => { t with dr := tapCapture t.op pins }
    | .shiftDr => { t with dr := t.dr.drop 1 ++ [tdi] }
    | .captureIr => { t with ir := true :: List.replicate (Config.tapIrLength - 1) false }
    | .shiftIr => { t with ir := t.ir.drop 1 ++ [tdi] }
    | _ => t
  match tapNext t.phase tms with
  | .logicReset => tapReset t
  | .updateDr => { t with phase := .updateDr, boundary := if t.op = .sample ∨ t.op = .extest then t.dr else t.boundary }
  | .updateIr => { t with phase := .updateIr, op := tapDecode t.ir }
  | p => { t with phase := p }

/-- TDO: driven in the two shift states, else high impedance. -/
def tapTdo (t : JtagSt) : Option Bool :=
  match t.phase with
  | .shiftDr => t.dr.head?
  | .shiftIr => t.ir.head?
  | _ => none

/-- The level at a ball that the core would drive at `core`, none where it drives none: HIGHZ drives nothing, EXTEST and CLAMP what the
boundary register holds (R434). -/
def ballLevel (b : Ball) (core : Option Bool) (s : State) : Option Bool :=
  match s.jtag.op with
  | .highz => none
  | .extest | .clamp => some (at' false s.jtag.boundary (Config.tapCell b))
  | _ => core

/-- GPIO[n] (R436). -/
def gpioBall (n : Nat) (s : State) : Option Bool := ballLevel (.gpio n) (gpioDrive n s) s

/-- IRQ_N[n], open drain (R37). -/
def irqBall (n : Nat) (s : State) : Option Bool := ballLevel (.irq n) (if at' false s.irqN n then some false else none) s

/-- MOT_EN[a] (R345). -/
def motEnBall (a : Nat) (s : State) : Option Bool := ballLevel (.motEn a) (some (motEn a s)) s

/-- MOT_DIR[a] (R345). -/
def motDirBall (a : Nat) (s : State) : Option Bool := ballLevel (.motDir a) (some (motDir a s)) s

/-- PWM[n], `t` ns into its period (R333). -/
def pwmBall (n t : Nat) (s : State) : Option Bool := ballLevel (.pwm n) (some (pwmLevel n t s)) s

/-- PAIR_ACT_OUT (R356). -/
def pairActBall (s : State) : Option Bool := ballLevel .pairAct (some (s.pair.role == 1)) s

/-- PAIR_ALIVE_OUT (R357). -/
def pairAliveBall (s : State) : Option Bool := ballLevel .pairAlive (some s.pair.out) s

end Sys2Proof.Machine
end

