-- ==== Sys2Proof/Safety.lean ====
section
/-! DEFINITION. What claims speak of: when an access is taken, which pages run, and the conditions that hold of every state a
command leaves. -/
namespace Sys2Proof.Machine

/-- A write by path `q` of a register of page `p` is taken: the path and the page are out of reset, the page is not the sealed
one and not locked (R29, R33, R45, R51), and no trace is running, which would record the write (R439). -/
abbrev Takes (q : Path) (p : Nat) (s : State) : Prop :=
  pathUp q s = true ∧ p ∈ pages ∧ p ≠ 0x70 ∧ s.released p = true ∧ s.rb (Reg.pageLock p) 0 = false ∧
  s.rb Reg.DEBUG_TRACE_CTRL 0 = false

/-- A read by path `q` of a register of page `p` is taken (R29, R51). -/
abbrev Reads (q : Path) (p : Nat) (s : State) : Prop :=
  pathUp q s = true ∧ p ∈ pages ∧ s.released p = true ∧ (p = 0x70 → s.chip.island = false)

/-- No trace is running (R439). -/
abbrev Untraced (s : State) : Prop := s.rb Reg.DEBUG_TRACE_CTRL 0 = false

/-- A page runs and holds no command BUSY in `a`. -/
abbrev Ready (p a : Nat) (s : State) : Prop := s.running p = true ∧ s.cmdBusy a = false

/-- A PAGE descriptor that R80 finds nothing against: right CRC, codes and ranges, a start position of its own, no such page
queued or in the sequencer, and room in the queue. -/
abbrev NewPage (l : List Byte) (s : State) : Prop :=
  crc32c (l.take 28) = beAt l 28 4 ∧ beAt l 0 1 = 1 ∧ descOk l = true ∧ (descFields l).mode ≠ 0 ∧ s.intake.queue.length < 256 ∧
  (s.intake.queue.any fun x => x.1.job == (descFields l).job && x.1.page == (descFields l).page) = false ∧
  (s.intake.seq.any fun x => x.d.job == (descFields l).job && x.d.page == (descFields l).page) = false

/-- Service `i` runs and finds in its mailbox a request of its own with OPCODE `op`, SEQ `seq` and parameters `p`; no reply of its waits
and its reply mailbox is empty (R393), and no doorbell has come upon the FULL mailbox at this instant (R391). -/
abbrev Asks (i op seq : Nat) (p : List Byte) (s : State) : Prop :=
  svcRuns i s = true ∧ mbxFull i s = true ∧ s.rb Reg.MBX_COLL i = false ∧ beAt (mbxBytes i s) 0 1 = i ∧
  beAt (mbxBytes i s) 1 1 = op ∧ beAt (mbxBytes i s) 2 1 = seq ∧ beAt (mbxBytes i s) 3 1 ≤ 60 ∧
  p = ((mbxBytes i s).drop 4).take (beAt (mbxBytes i s) 3 1) ∧ s.svc.replies = [] ∧ mbxFull (16 + i) s = false ∧
  (tget none s.svc.rang i).all (fun x => decide (x.1 < s.now)) = true

/-- Service `i` has acknowledged its request and sent the reply with STATUS `st` and `data` (R393). -/
abbrev Answers (i op seq st : Nat) (data : List Byte) (u : State) : Prop :=
  mbxFull i u = false ∧ mbxFull (16 + i) u = true ∧ mbxBytes (16 + i) u =
    (beBytes 1 i ++ beBytes 1 (op + 0x80) ++ beBytes 1 seq ++ beBytes 1 st ++ data ++ List.replicate 64 0).take 64

/-- The registers that an event of page `p` may change: its EVT_STATUS, and those of the trace (R36, R439). -/
def evtRegs (p : Nat) : List Nat := [Reg.evtStatus p, Reg.evtStatus 0x7F, Reg.DEBUG_TRACE_WPTR, Reg.DEBUG_TRACE_LOST]

/-- The page a register address belongs to. -/
abbrev pageNo (a : Nat) : Nat := a / 0x1000 - 0x40000

/-- EVT_STATUS and ERR_COUNT of page `p`: what an event or an error of the page may change (R36, R40). -/
def evErr (p : Nat) : List Nat := [Reg.evtStatus p, Reg.errCount p 0, Reg.errCount p 1, Reg.errCount p 2, Reg.errCount p 3]

/-- The registers engine `e` of DEFL shows its job in (R313). -/
def deflRegs (e : Nat) : List Nat :=
  [Reg.DEFL_E_STATUS e, Reg.DEFL_E_BUF_OUT e, Reg.DEFL_E_IN_DONE e, Reg.DEFL_E_OUT_DONE e, Reg.DEFL_E_IN_CRC e, Reg.DEFL_E_OUT_CRC e]

/-- What command `c` does in `s`, before what follows by itself: no state part changes but those `f` takes from the state it leaves,
the register words, the pages that owe an EVENT frame, what has counted at this instant, which commands are past their commit point, and
the paths' notes; and no register word changes but where `may` allows. -/
abbrev Only (c : Instr) (s : State) (f : State → State) (may : Nat → Prop) : Prop :=
  ∃ u, exec c s = .next (settle u) ∧
    u = { f u with words := u.words, evtOut := u.evtOut, incs := u.incs, committed := u.committed, qspi := u.qspi, pQspi := u.pQspi, pChain := u.pChain, pUdp := u.pUdp,
                   pSvc := u.pSvc } ∧
    ∀ a, ¬ may a → u.reg a = s.reg a

/-- No frame waits for a lane that is free: no port that is up has a frame of its own, no head command and no Ethernet frame waits, no
lane's transmission ends, and the ordinary clock is off (R167, R187, R257, R258, R274, R281). -/
abbrev LinesQuiet (s : State) : Prop :=
  (∀ p ∈ s.chain.up, p ∈ s.chain.busy ∨ ∀ f ∈ s.chain.queue, f.port ≠ p) ∧ (∀ e ∈ s.heads, headWaits e.2 = false) ∧
  (∀ e ∈ s.lanes, e.2.tx = true → showTx e.1 s = s) ∧ s.eth.txq = [] ∧ ptpOn s = false

/-- No transfer waits to be asked of DRAM: the head entry of each launch queue is read, and the trace is written out (R289, R439). -/
abbrev StoresQuiet (s : State) : Prop :=
  (∀ eth ∈ [false, true], (s.lq eth).q.head?.all (·.bytes.isSome) = true) ∧ (s.reg Reg.DEBUG_TRACE_WPTR).toNat = s.dramc.traced

/-- Nothing waits to be judged again (R34, R43, R136, R155, R172, R190, R204, R208, R245, R359, R414): no head command has failed, no
resync and no LEARN_OFS waits, no camera trigger hit has passed unjudged, no page owes an EVENT frame, each FAULT bit stands as its
block's condition, FIRE prints nothing and knows the validity of its position, no commit of FIRE or HEADS and no HOLD waits, the unit is
in no pair, no block reset runs and no page is done. -/
abbrev JudgedQuiet (s : State) : Prop :=
  s.failed = [] ∧ s.trav.resync = none ∧ s.web.stake.learn = none ∧ (∀ e ∈ s.cams, ∀ w ∈ e.2.hits, s.now ≤ w.at_) ∧ s.evtOut = [] ∧
  (∀ p ∈ faultPages, s.released p = true → s.rb (Reg.pageStatus p) 3 = faultCond p s) ∧
  s.fire.st < 2 ∧ s.fire.posInv = !posValid s ∧ s.shadowPending 0x17 = false ∧ s.shadowPending 0x19 = false ∧
  (∀ h < 32, (s.head h).hold = s.rb (Reg.HEADS_HOLD h) 0) ∧ s.pair.role = 0 ∧ s.chip.run = none ∧
  ∀ p ∈ s.intake.seq, p.st ≠ .done

/-- Nothing is left to follow by itself. -/
abbrev Quiet (s : State) : Prop := LinesQuiet s ∧ StoresQuiet s ∧ JudgedQuiet s

/-- Only the register words, the pages that owe an EVENT frame, what has counted at this instant, which commands are past their commit
point, and the trace's bytes in DRAM differ. -/
def KeepsBlocks (s t : State) : Prop :=
  t = { s with words := t.words, evtOut := t.evtOut, incs := t.incs, committed := t.committed, dram := t.dram, badBlocks := t.badBlocks }

/-- The interrupt pins stand as R37 gives them for the state. -/
abbrev IrqFollows (s : State) : Prop :=
  s.irqN = (List.range 4).map fun n => decide (2 ≤ s.chip.rel) && irqLevel n s

end Sys2Proof.Machine
end

