-- ==== Sys2Proof/Certificates/Slice0/Obligations.lean ====
section
/-! DEFINITION. The statements for the provers. Each command `exec c s` is read as: the time before the command passes
(`s.elapse dt`), the command has its effect, and what follows by itself is judged (`settle`). -/
open Sys2Proof Sys2Proof.Machine

/-- The block's step rule (this row's cut; log entry 3): a step takes the command at the front of the queue, and its outcome is
that of the command on the machine with the queue's rest; on an empty queue the machine stays as it is. Where its parts go beyond
the spec's words they are the model's choice, said in log entry 3. -/
def Obligations.StepRunsTheFrontCommand : Prop :=
  (∀ (c : Instr) (rest : List Instr) (s : State), step { s with pending := c :: rest } = exec c { s with pending := rest }) ∧
  (∀ s : State, s.pending = [] → step s = .next s)

/-- R37: IRQ_N[n] is asserted while FORCE[n] is 1, or EN[n] is 1 and some page has a pending event routed to it. This is kept by
every step, from every state. -/
def Obligations.EveryStepKeepsTheInterruptPins : Prop :=
  ∀ s t : State, IrqFollows s → step s = .next t → IrqFollows t

/-- The interrupt pins of State.reset stand as R37 gives them (the pins released, every EN[n] 0 or nothing pending). -/
def Obligations.ResetPinsFollowTheEvents : Prop := IrqFollows State.reset

/-- No command ends in a fault or a refusal: every command has an effect in every state. Where its parts go beyond the spec's
words they are the model's choice, said in log entries 12 and 13. -/
def Obligations.EveryCommandAnswersANextState : Prop := ∀ (c : Instr) (s : State), ∃ t, exec c s = .next t

/-- Reset values that the spec states: FAB, IRQ, PACE and SYS registers at their table's reset column, PAGE_CTRL.ENABLE by R30,
EVT_ROUTE 0x10, FIRE DISABLED, the pair DETACHED, all event bits clear but OPTDEFAULT (R408). Where its parts go beyond the spec's
words they are the model's choice, said in log entries 2 and 5. -/
def Obligations.ResetLeavesTheStatedValues : Prop :=
  (∀ p ∈ pages, State.reset.rb (Reg.pageCtrl p) 0 = decide (p ∈ [0x00, 0x01, 0x02, 0x03, 0x04, 0x05, 0x08, 0x09, 0x42, 0x48, 0x49,
      0x4A, 0x50, 0x70, 0x7E, 0x7F]) ∧ State.reset.reg (Reg.evtRoute p) = (if p = 0x70 then 0 else W 0x10) ∧ State.reset.reg (Reg.evtEnable p) = 0 ∧
      State.reset.reg (Reg.evtStatus p) = (if p = 0x02 then W 0x100 else 0) ∧ State.reset.rb (Reg.pageLock p) 0 = false) ∧
  State.reset.reg Reg.SYS_ID = W 0x48100001 ∧ State.reset.fire.st = 0 ∧ State.reset.pair.role = 0 ∧
  State.reset.pending = [] ∧ State.reset.freeIdx = 0

/-- R51, R8, R40, R41, R10, R11, R28, R29, R33, R45: a refused register write reports its status (1 ADDRESS, 2 RESET, 3 LOCKED, 6
READONLY) and changes no register but what counts or raises it, and so is a command of PAGE_CTRL or SHADOW_CTRL; an error counter
takes the value written and what counts at the same instant; a write of a read-write register of RST, FAB, IRQ or INFL that has no
shadowed bits, limits or coded fields stores its defined bits, leaves its reserved bits 0, changes no other register and ends OK.
Where its parts go beyond the spec's words they are the model's choice, said in log entries 13, 14 and 85. -/
def Obligations.RegisterWritesStoreOrReportTheirStatus : Prop :=
  (∀ (dt : Nat) (q : Path) (s : State), pathUp q s = true →
      (∀ (width : Nat) (a : BitVec 32) (w : Word), width ≠ 4 →
        exec (.registerWrite dt q width a w) s = .next (settle (writeNote q 1 (errInc 0 3 (s.elapse dt))))) ∧
      (∀ (a : BitVec 32) (w : Word), (a.toNat % 4 ≠ 0 ∨ placeOf' a.toNat = .outside) →
        exec (.registerWrite dt q 4 a w) s = .next (settle (writeNote q 1 (errInc 0 3 (s.elapse dt))))) ∧
      (∀ (p o : Nat) (a : BitVec 32) (w : Word), a.toNat = pg p o → p ∈ pages → o < 0x1000 → o % 4 = 0 → s.released p = false →
        exec (.registerWrite dt q 4 a w) s = .next (settle (writeNote q 2 (s.elapse dt)))) ∧
      (∀ (o : Nat) (a : BitVec 32) (w : Word), a.toNat = pg 0x70 o → o < 0x1000 → o % 4 = 0 → s.released 0x70 = true →
        s.chip.island = false → exec (.registerWrite dt q 4 a w) s = .next (settle (writeNote q 6 (s.elapse dt)))) ∧
      (∀ (p o : Nat) (a : BitVec 32) (w : Word), a.toNat = pg p o → p ∈ pages → p ≠ 0x70 → o < 0x1000 → o % 4 = 0 →
        lockFree (.page p o) = false → s.released p = true → s.rb (Reg.pageLock p) 0 = true →
        exec (.registerWrite dt q 4 a w) s = .next (settle (writeNote q 3 (raise p 6 (s.elapse dt))))) ∧
      (∀ (p : Fin 128) (on : Bool) (c : Instr), p.val ∈ pages → p.val ≠ 0x70 →
        c ∈ [.enable dt q p on, .quiesceReq dt q p, .quiesceRelease dt q p, .resetReq dt q p, .shadowCommit dt q p, .abort dt q p,
          .discard dt q p] →
        (s.released p = false → exec c s = .next (settle (writeNote q 2 (s.elapse dt)))) ∧
        (s.released p = true → s.rb (Reg.pageLock p) 0 = true →
          exec c s = .next (settle (writeNote q 3 (raise p 6 (s.elapse dt))))))) ∧
  (∀ (dt : Nat) (q : Path) (p k : Nat) (a : BitVec 32) (w : Word) (s : State), k < 4 → a.toNat = Reg.errCount p k → Takes q p s →
      fld w 0 16 + (s.elapse dt).incsAt a.toNat < 0xFFFF →
      exec (.registerWrite dt q 4 a w) s =
        .next (settle (writeNote q 0 ((s.elapse dt).setReg a.toNat (W (fld w 0 16 + (s.elapse dt).incsAt a.toNat)))))) ∧
  (∀ (dt : Nat) (q : Path) (p o : Nat) (a : BitVec 32) (w : Word) (d : RegDesc) (s : State),
      p ∈ [0x01, 0x04, 0x05, 0x11] → 0x40 ≤ o → o < 0x1000 → o % 4 = 0 → a.toNat = pg p o → Takes q p s →
      descOf (pg p o) = some d → d.acc = .rw → d.lim = [] → d.shadow = 0 →
      exec (.registerWrite dt q 4 a w) s = .next (settle (writeNote q 0 ((s.elapse dt).setReg (pg p o) (w &&& W d.mask)))))

/-- R32, R413, R133, R152: writing PAGE_CTRL.ENABLE sets the bit; a page that starts for the first time gains its pad hold
release; a page without outputs of its own changes in nothing else; FIRE goes from DISABLED to READY; DELAY refuses a ring that is
misplaced; writing the value it holds changes nothing. Where its parts go beyond the spec's words they are the model's choice,
said in log entry 18. -/
def Obligations.EnableSetsItsBitAndStartsTheBlock : Prop :=
  ∀ (dt : Nat) (q : Path) (p : Fin 128) (s : State), Takes q p s →
    (∀ on : Bool, s.rb (Reg.pageCtrl p) 0 = on →
      exec (.enable dt q p on) s = .next (settle (writeNote q 0 (s.elapse dt)))) ∧
    (∀ on : Bool, s.rb (Reg.pageCtrl p) 0 ≠ on → p.val ≠ 0x16 → (on = true → p.val ∈ s.chip.padFree) →
      exec (.enable dt q p on) s =
        .next (settle (writeNote q 0 (pageSwitched p on ((s.elapse dt).setB (Reg.pageCtrl p) 0 on))))) ∧
    (∀ on : Bool, s.rb (Reg.pageCtrl p) 0 ≠ on →
      p.val ∈ [0x00, 0x01, 0x02, 0x03, 0x04, 0x05, 0x08, 0x09, 0x10, 0x11, 0x14, 0x15, 0x28, 0x42, 0x48, 0x49, 0x4A, 0x50, 0x59,
        0x7E, 0x7F] →
      ∃ u, exec (.enable dt q p on) s = .next (settle u) ∧ u.rb (Reg.pageCtrl p) 0 = on ∧
        (∀ a, a ≠ Reg.pageCtrl p → u.reg a = s.reg a) ∧
        u.chip.padFree = (if on = true ∧ p.val ∉ s.chip.padFree then p.val :: s.chip.padFree else s.chip.padFree)) ∧
    (p.val = 0x17 → s.rb (Reg.pageCtrl p) 0 = false → s.fire.st = 0 →
      ∃ u, exec (.enable dt q p true) s = .next (settle u) ∧ u.fire = { s.fire with st := 1 } ∧ u.rb (Reg.pageCtrl p) 0 = true) ∧
    (p.val = 0x16 → s.rb (Reg.pageCtrl p) 0 = false → ringPlaceOk s = false →
      exec (.enable dt q p true) s = .next (settle (writeNote q 0 (config 0x16 (s.elapse dt)))))

/-- R442, R414: QUIESCE_REQ 1 sets QUIESCED at once where no unit of work is in progress; where one is, QUIESCED waits for
QUIESCE_COMPLETE, which discards a DEFLATE job that has stopped for want of output room; QUIESCE_REQ 0 clears both. Where its
parts go beyond the spec's words they are the model's choice, said in log entry 17. -/
def Obligations.QuiesceWaitsForTheUnitOfWork : Prop :=
  ∀ (dt : Nat) (q : Path) (p : Fin 128) (s : State), Takes q p s →
    (s.quiescing p = false → quiesced p s = false → p.val ∉ [0x40, 0x41, 0x50, 0x60] →
      ∃ u, exec (.quiesceReq dt q p) s = .next (settle u) ∧ u.quiescing p = true ∧
        quiesced p u = !unitBusy p ((s.elapse dt).setB (Reg.pageCtrl p) 1 true) ∧
        (∀ a, a ≠ Reg.pageCtrl p → a ≠ Reg.pageStatus p → u.reg a = s.reg a)) ∧
    (s.quiescing p = false → p.val = 0x40 → ∃ u, exec (.quiesceReq dt q p) s = .next (settle u) ∧ u.quiescing p = true ∧
      u.chain.lq.q = [] ∧ u.chain.queue = s.chain.queue) ∧
    (s.quiescing p = true → quiesced p s = false → unitBusy p (s.elapse dt) = false →
      (p.val ≠ 0x50 → exec (.quiesceComplete dt p) s = .next (settle ((s.elapse dt).setB (Reg.pageStatus p) 1 true))) ∧
      (p.val = 0x50 → ∃ u, exec (.quiesceComplete dt p) s = .next (settle u) ∧ quiesced p u = true ∧
        (u.defl 0).stopped = false ∧ (u.defl 1).stopped = false)) ∧
    (s.quiescing p = true → p.val ∉ [0x10, 0x11, 0x18, 0x19, 0x40] →
      ∃ u, exec (.quiesceRelease dt q p) s = .next (settle u) ∧ u.quiescing p = false ∧ quiesced p u = false ∧
        (∀ a, a ≠ Reg.pageCtrl p → a ≠ Reg.pageStatus p → u.reg a = s.reg a)) ∧
    (s.quiescing p = true → p.val ∈ [0x10, 0x11, 0x18, 0x19, 0x40] → exec (.quiesceRelease dt q p) s =
      .next (settle (writeNote q 0 (quiesceStart p
        (((s.elapse dt).setB (Reg.pageCtrl p) 1 false).setB (Reg.pageStatus p) 1 false)))))

/-- R43, R44: SHADOW_COMMIT sets SHADOW_PENDING where the page waits for a boundary, applies at once where it has none, and is
refused with CONFIG while a commit is pending; DISCARD copies the live set back unless one is pending. A commit that applies makes
every shadowed register's stored word the word in force, counts COMMIT_SEQ and raises SHADOWDONE. Where its parts go beyond the
spec's words they are the model's choice, said in log entries 18 and 19. -/
def Obligations.ShadowCommitAppliesTheStagedSet : Prop :=
  (∀ (dt : Nat) (q : Path) (p : Fin 128) (s : State), Takes q p s →
    (s.shadowPending p = true →
      exec (.shadowCommit dt q p) s = .next (settle (writeNote q 0 (config p (s.elapse dt)))) ∧
      exec (.discard dt q p) s = .next (settle (writeNote q 0 (s.elapse dt)))) ∧
    (s.shadowPending p = false →
      exec (.discard dt q p) s = .next (settle (writeNote q 0 (copyShadow (pg p 0) (pg p 0 + 0x1000) (s.elapse dt))))) ∧
    (s.shadowPending p = false → p.val ∈ [0x10, 0x11, 0x14, 0x15] →
      exec (.shadowCommit dt q p) s = .next (settle (writeNote q 0 ((s.elapse dt).setB (Reg.pageStatus p) 4 true)))) ∧
    (s.shadowPending p = false → p.val ∈ [0x18, 0x1C, 0x40, 0x48, 0x60, 0x7E] →
      exec (.shadowCommit dt q p) s =
        .next (settle (writeNote q 0 (commitApply p ((s.elapse dt).setB (Reg.pageStatus p) 4 true))))) ∧
    (s.shadowPending p = false →
      exec (.shadowCommit dt q p) s = .next (settle (writeNote q 0 (shadowCommit p (s.elapse dt))))) ∧
    (s.shadowPending p = false → p.val = 0x16 → delayCommitOk ((s.elapse dt).setB (Reg.pageStatus p) 4 true) = true →
      exec (.shadowCommit dt q p) s =
        .next (settle (writeNote q 0 (commitApply p ((s.elapse dt).setB (Reg.pageStatus p) 4 true))))) ∧
    (s.shadowPending p = false → p.val ∈ [0x17, 0x19] → 2 ≤ s.fire.st → exec (.shadowCommit dt q p) s =
      .next (settle (writeNote q 0 ((s.elapse dt).setB (Reg.pageStatus p) 4 true)))) ∧
    (s.shadowPending p = false → p.val = 0x28 → s.trav.win.isSome = true → exec (.shadowCommit dt q p) s =
      .next (settle (writeNote q 0 ((s.elapse dt).setB (Reg.pageStatus p) 4 true))))) ∧
  (∀ (p : Nat) (s : State), p < 128 → s.released p = true →
    (commitApply p s).shadowPending p = false ∧ (commitApply p s).rb (Reg.evtStatus p) 3 = true ∧
    (commitApply p s).rf (Reg.shadowCtrl p) 8 8 = (s.rf (Reg.shadowCtrl p) 8 8 + 1) % 256)

/-- R33, R47, R117, R119, R187, R208, R214, R309, R414: A RESET_REQ on a page whose group may be reset, and has no request yet,
queues one; on SYS, RST, OPT, FAB or IRQ it is refused with CONFIG (and counted in RST ERR_COUNT1, log entry 20). ABORT is past no
command's commit point on a page that has none running; it leaves the page as it is. A LEARN_OFS that waits, a QUEUE_FS that has
not started and a SWEEP or COPY_LIVE that a run puts before its commit point end ABORTED (when they pass it is free, log entry
59). Where its parts go beyond the spec's words they are the model's choice, said in log entries 17, 20, 59 and 62. -/
def Obligations.ResetRequestsQueueAndAbortsEndCommands : Prop :=
  (∀ (dt : Nat) (q : Path) (p : Fin 128) (s : State), Takes q p s →
       exec (.resetReq dt q p) s = .next (settle (writeNote q 0 (resetReq p (s.elapse dt)))) ∧
       exec (.abort dt q p) s = .next (settle (writeNote q 0 (pageAbort p (s.elapse dt)))) ∧
       (resetRefused p (s.elapse dt) = false →
         (∀ r ∈ s.chip.pend, blkGroup r.page ≠ blkGroup p) → (∀ r ∈ s.chip.run, blkGroup r.page ≠ blkGroup p) →
         ∃ u, exec (.resetReq dt q p) s = .next (settle u) ∧
           u.chip.pend = s.chip.pend ++ [⟨groupLow p, p, (s.elapse dt).now, false, none⟩] ∧ u.words = s.words) ∧
       (p.val ∈ [0x00, 0x01, 0x02, 0x04, 0x05] →
         exec (.resetReq dt q p) s = .next (settle (writeNote q 0 (errInc 1 1 (config p (s.elapse dt))))))) ∧
  (∀ (dt : Nat) (q : Path) (s : State),
       (∀ p : Fin 128, Takes q p s → p.val ∈ [0x03, 0x08, 0x09, 0x10, 0x42, 0x59, 0x60] →
         exec (.abort dt q p) s = .next (settle (writeNote q 0 (s.elapse dt)))) ∧
       (∀ t, Takes q 0x1C s → s.web.stake.learn = some t → s.cmdBusy Reg.WEB_CMD_STATUS = true →
         ∃ u, exec (.abort dt q 0x1C) s = .next (settle u) ∧ u.web.stake.learn = none ∧ u.reg Reg.WEB_CMD_STATUS = cmdWord 3 0 0 ∧
           u.rb (Reg.evtStatus 0x1C) 4 = true) ∧
       (∀ (p : Fin 4) (pg' : Fin 128) (r : CciRun), pg'.val = camPage p → Takes q (camPage p) s → (s.cam p).cci = some r → r.started = false →
         s.cmdBusy (Reg.CAM_CCI_STATUS p) = true →
         ∃ u, exec (.abort dt q pg') s = .next (settle u) ∧ (u.cam p).cci = none ∧ u.reg (Reg.CAM_CCI_STATUS p) = cmdWord 3 0 0 ∧
           u.rb (Reg.evtStatus (camPage p)) 4 = true) ∧
       (∀ (p : Fin 128) (a : Nat), (p.val, a) ∈ [(0x15, Reg.SCREEN_CMD_STATUS), (0x17, Reg.FIRE_HIST_CMD_STATUS),
           (0x24, Reg.ISP_CMD_STATUS), (0x49, Reg.DRAMTRN_CMD_STATUS)] → Takes q p s →
         (s.cmdBusy a = false ∨ a ∈ s.committed → exec (.abort dt q p) s = .next (settle (writeNote q 0 (s.elapse dt)))) ∧
         (s.cmdBusy a = true → a ∉ s.committed →
           ∃ u, exec (.abort dt q p) s = .next (settle u) ∧ u.freeIdx = s.freeIdx + 1 ∧
             (Config.freeBool s.freeIdx = true → u.reg a = cmdWord 3 0 0 ∧ u.rb (Reg.evtStatus p) 4 = true) ∧
             (Config.freeBool s.freeIdx = false → u.reg a = s.reg a ∧ u.committed = a :: s.committed))))
/-- R34, R36, R45: PAGE_LOCK takes LOCKED only with the key 0x4C4B in [31:16]; without it the write changes nothing. A
write-1-to-clear of EVT_STATUS clears the bits written, but for those whose event falls on the same instant. Where its parts go
beyond the spec's words they are the model's choice, said in log entry 11. -/
def Obligations.PageLockNeedsItsKeyAndEventBitsClear : Prop :=
  (∀ (dt : Nat) (q : Path) (p : Fin 128) (w : Word) (s : State), pathUp q s = true → p.val ∈ pages → p.val ≠ 0x70 →
       s.released p = true → Untraced s →
       (fld w 16 16 = 0x4C4B → exec (.pageLockWrite dt q p w) s =
         .next (settle (writeNote q 0 ((s.elapse dt).setB (Reg.pageLock p) 0 (bit w 0))))) ∧
       (fld w 16 16 ≠ 0x4C4B → exec (.pageLockWrite dt q p w) s = .next (settle (writeNote q 0 (s.elapse dt))))) ∧
  (∀ (dt : Nat) (q : Path) (p : Fin 128) (w again : Word) (s : State), pathUp q s = true → p.val ∈ pages → p.val ≠ 0x70 →
       s.released p = true → Untraced s →
       ∃ u, exec (.evtStatusClear dt q p w again) s = .next (settle u) ∧
         (∀ b < 32, bit (evtMask p) b = true → u.rb (Reg.evtStatus p) b =
           (bit again b || (s.rb (Reg.evtStatus p) b && !bit w b))) ∧
         (∀ a, a ≠ Reg.evtStatus p → a ≠ Reg.pageStatus p → u.reg a = s.reg a))

/-- R53, R54, R55, R56: STATUS returns the marker 0xA5, the status of the last WRITE and the write sequence byte; IDENT returns
SYS_ID, most significant byte first; neither changes anything else. A reserved opcode is ignored and counts in SYS ERR_COUNT3; a
transaction cut short before its count byte, or inside a WRITE, writes nothing and counts in SYS ERR_COUNT1. A READ of 1 to 64
words returns the marker, the words most significant byte first, their CRC-16 and the status; a longer one returns no words and
LENGTH. A WRITE whose CRC-16 is right runs its burst; one whose CRC-16 is wrong writes nothing, shows CHECK and counts in SYS
ERR_COUNT0; one of more than 64 words writes nothing and shows LENGTH. Where its parts go beyond the spec's words they are the
model's choice, said in log entries 13 and 99. -/
def Obligations.QspiTransactionsAreCheckedAnsweredAndCounted : Prop :=
  ((∀ (dt : Nat) (s : State), pathUp .qspi s = true →
         (exec (.qspiStatus dt) s =
           .next (settle (emit (.qspi [0xA5, BitVec.ofNat 8 s.qspi.status, BitVec.ofNat 8 s.qspi.seq]) (s.elapse dt)))) ∧
         (s.reg Reg.SYS_ID = W 0x48100001 →
           exec (.qspiIdent dt) s = .next (settle (emit (.qspi [0x48, 0x10, 0x00, 0x01]) (s.elapse dt)))) ∧
         (∀ op : Byte, op.toNat ∉ [0x02, 0x05, 0x0B, 0x9F] →
           exec (.qspiReservedOpcode dt op) s = .next (settle (errInc 0 3 (s.elapse dt)))) ∧
         (∀ b : List Byte, b.length < 6 → (∀ op, b.head? = some op → op.toNat ∈ [0x02, 0x05, 0x0B, 0x9F]) →
           exec (.qspiCutShort dt b) s = .next (settle (errInc 0 1 (s.elapse dt)))) ∧
         (∀ b : List Byte, b.head? = some 0x02 → 6 ≤ b.length → beAt b 5 1 ≤ 0x3F → b.length < 8 + 4 * (beAt b 5 1 + 1) →
           exec (.qspiCutShort dt b) s = .next (settle (errInc 0 1 (s.elapse dt))))) ∧
    (∀ (dt : Nat) (a : BitVec 32) (count : Byte) (s : State), pathUp .qspi s = true →
         (count.toNat ≤ 0x3F → ∀ (st : Nat) (ws : List Word) (t : State),
           burstRead .qspi a.toNat (count.toNat + 1) (s.elapse dt) = (st, ws, t) →
           exec (.qspiRead dt a count) s = .next (settle
             (emit (.qspi ([0xA5] ++ wordBytes ws ++ beBytes 2 (crc16 (wordBytes ws)) ++ [BitVec.ofNat 8 st])) t))) ∧
         (0x3F < count.toNat → exec (.qspiRead dt a count) s = .next (settle
             (emit (.qspi ([0xA5] ++ beBytes 2 (crc16 []) ++ [5])) (pathNote .qspi 5 [] (s.elapse dt))))))) ∧
  (∀ (dt : Nat) (s : State) (head : List Byte) (ws : List Word) (crc : List Byte), pathUp .qspi s = true →
      head.length = 6 → beAt head 0 1 = 2 → crc.length = 2 →
      (ws.length = beAt head 5 1 + 1 → ws.length ≤ 64 → crc = crcBytes (head ++ wordBytes ws) →
        exec (.qspiWrite dt (head ++ wordBytes ws ++ crc)) s =
          .next (settle (burstWrite .qspi (beAt head 1 4) ws (s.elapse dt)).2)) ∧
      (ws.length = beAt head 5 1 + 1 → ws.length ≤ 64 → be crc ≠ crc16 (head ++ wordBytes ws) →
        exec (.qspiWrite dt (head ++ wordBytes ws ++ crc)) s =
          .next (settle (errInc 0 0 { (s.elapse dt) with qspi := { s.qspi with status := 4 } }))) ∧
      (64 ≤ beAt head 5 1 → exec (.qspiWrite dt (head ++ wordBytes ws ++ crc)) s =
        .next (settle { (s.elapse dt) with qspi := { s.qspi with status := 5 } })))

/-- R8, R44, R51, R54, R276, R280: The words of a write burst are written in ascending order: a burst of up to eight words at
INTAKE_DESC(0) stores each word in its register and changes no other. A read of a register that is neither a view nor read-clear
returns its word, or the word in force where the page's read view says so, and changes nothing but the path's note. A burst not
complete in time has done its first words, reports TIMEOUT and counts in SYS ERR_COUNT2; the words it did not read are 0; the
quad-SPI target drives its answer, and a node or a UDP host that asked is sent its reply with TIMEOUT. Where its parts go beyond
the spec's words they are the model's choice, said in log entries 13, 73 and 99. -/
def Obligations.BurstsRunInOrderAndStopOnTimeout : Prop :=
  ((∀ (q : Path) (ws : List Word) (s : State), Takes q 0x10 s → ws ≠ [] → ws.length ≤ 8 →
       (burstWrite q (Reg.INTAKE_DESC 0) ws s).1 = 0 ∧
       (∀ i (h : i < ws.length), (burstWrite q (Reg.INTAKE_DESC 0) ws s).2.reg (Reg.INTAKE_DESC i) = ws[i]) ∧
       (∀ a, (∀ i < ws.length, a ≠ Reg.INTAKE_DESC i) → (burstWrite q (Reg.INTAKE_DESC 0) ws s).2.reg a = s.reg a)) ∧
     (∀ (q : Path) (p o : Nat) (d : RegDesc) (s : State), p ∈ [0x01, 0x04, 0x05] → 0x80 ≤ o → o < 0x1000 → o % 4 = 0 → Reads q p s →
       descOf (pg p o) = some d → d.acc = .rw →
       rowGet q (pg p o) s = pathNote q 0 [if s.rb (Reg.shadowCtrl p) 0 then s.inForce (pg p o) else s.reg (pg p o)] s)) ∧
  (∀ (dt : Nat) (a : BitVec 32) (s t : State) (ws : List Word) (done : Nat), ws.length ≤ 64 → done < ws.length →
       burstAddressBad a.toNat ws.length = false →
       (∀ (q : Path) (k : Asker), q ∈ [.qspi, .svc] → pathUp q s = true → writeWords q a.toNat (ws.take done) (s.elapse dt) = (0, t) →
         exec (.burstTimeout dt q k a (some ws) ws.length done) s = .next (settle (writeNote q 7 (errInc 0 2 t)))) ∧
       (∀ (src : Byte) (tag : BitVec 16), pathUp .chain s = true → regNode src.toNat (s.elapse dt) = true →
         writeWords .chain a.toNat (ws.take done) (s.elapse dt) = (0, t) →
         exec (.burstTimeout dt .chain (.node src tag) a (some ws) ws.length done) s = .next (settle
           (regRsp src.toNat (beBytes 2 tag.toNat ++ [0, 0] ++ beBytes 4 a.toNat) 7 [] (writeNote .chain 7 (errInc 0 2 t))))) ∧
       (∀ (mac : BitVec 48) (ip : BitVec 32) (port tag : BitVec 16) (b : List Byte), pathUp .udp s = true →
         writeWords .udp a.toNat (ws.take done) (stat 0x41 Reg.ETH_REG_REQS 1 (s.elapse dt)) = (0, t) →
         b = udpMessage (beBytes 2 0x534B ++ [1, 2] ++ beBytes 2 tag.toNat ++ [0, 0] ++ beBytes 4 a.toNat) 7 [] →
         exec (.burstTimeout dt .udp (.host mac ip port tag) a (some ws) ws.length done) s = .next (settle
           (udpSend mac.toNat ip.toNat port.toNat b
             (udpKeep ⟨ip.toNat, port.toNat, tag.toNat, b⟩ (writeNote .udp 7 (errInc 0 2 t))))))) ∧
  (∀ (dt : Nat) (a : BitVec 32) (s t : State) (n done : Nat) (got all : List Word), n ≤ 64 → done < n → burstAddressBad a.toNat n = false →
       all = got ++ List.replicate (n - done) 0 →
       (∀ k : Asker, pathUp .svc s = true → readWords .svc a.toNat done (s.elapse dt) = (0, got, t) →
         exec (.burstTimeout dt .svc k a none n done) s = .next (settle (pathNote .svc 7 all (errInc 0 2 t)))) ∧
       (∀ k : Asker, pathUp .qspi s = true → readWords .qspi a.toNat done (s.elapse dt) = (0, got, t) →
         exec (.burstTimeout dt .qspi k a none n done) s = .next (settle
           (emit (.qspi ([0xA5] ++ wordBytes all ++ beBytes 2 (crc16 (wordBytes all)) ++ [7]))
             (pathNote .qspi 7 all (errInc 0 2 t))))) ∧
       (∀ (src : Byte) (tag : BitVec 16), pathUp .chain s = true → regNode src.toNat (s.elapse dt) = true →
         readWords .chain a.toNat done (s.elapse dt) = (0, got, t) →
         exec (.burstTimeout dt .chain (.node src tag) a none n done) s = .next (settle
           (regRsp src.toNat (beBytes 2 tag.toNat ++ [0, 0] ++ beBytes 4 a.toNat) 7 all (pathNote .chain 7 all (errInc 0 2 t))))) ∧
       (∀ (mac : BitVec 48) (ip : BitVec 32) (port tag : BitVec 16) (b : List Byte), pathUp .udp s = true →
         readWords .udp a.toNat done (stat 0x41 Reg.ETH_REG_REQS 1 (s.elapse dt)) = (0, got, t) →
         b = udpMessage (beBytes 2 0x534B ++ [1, 1] ++ beBytes 2 tag.toNat ++ [0, 0] ++ beBytes 4 a.toNat) 7 all →
         exec (.burstTimeout dt .udp (.host mac ip port tag) a none n done) s = .next (settle
           (udpSend mac.toNat ip.toNat port.toNat b
             (udpKeep ⟨ip.toNat, port.toNat, tag.toNat, b⟩ (pathNote .udp 7 all (errInc 0 2 t)))))))

/-- R21, R58, R62, R63: the bead measurement is shown in FAB_BEAD_PS and changes nothing else; of the class 1 to 3 requests that
wait in the fabric those that have reached their class's age limit, and the least age the command carries (log entry 24), are
promoted, each counting in FAB_PROMO of its class, and the others stay as they are; with READY set a transfer of one request
enters its port at once, else it waits in the fabric. Where its parts go beyond the spec's words they are the model's choice, said
in log entries 1, 24 and 93. -/
def Obligations.FabricMeasuresBeadsAndCountsPromotions : Prop :=
  (∀ (dt : Nat) (s : State), s.released 4 = true →
    (∀ ps : BitVec 12, exec (.beadMeasure dt ps) s =
      .next (settle ((s.elapse dt).setReg Reg.FAB_BEAD_PS (W ps.toNat)))) ∧
    (∀ (cls : Fin 4) (age : Nat) (old : FabReq → Bool), 1 ≤ cls.val →
      (∀ x, old x = (portClass x.port == cls.val && !x.promoted &&
        decide (64 * s.rf Reg.FAB_AGE_LIMIT (8 * (cls.val - 1)) 8 ≤ s.now + dt - x.at_) && decide (64 * age ≤ s.now + dt - x.at_))) →
      ∃ u, exec (.fabPromote dt cls age) s = .next (settle u) ∧
        u.reg (Reg.FAB_PROMO cls) = W ((s.reg (Reg.FAB_PROMO cls)).toNat + (s.fab.filter old).length) ∧
        u.fab = (s.fab.map fun x => if old x then { x with promoted := true } else x) ∧
        (∀ a, a ≠ Reg.FAB_PROMO cls → a ∉ evtRegs 4 → u.reg a = s.reg a)) ∧
    ∀ age, exec (.fabPromote dt 0 age) s = .next (settle (s.elapse dt))) ∧
  (∀ (p a n : Nat) (write : Bool) (s : State), 1 ≤ n → n ≤ portMax p →
    (dramReady s = true → dramReq p write a n s = portTake ⟨s.now, false, p, write, a, n⟩ s) ∧
    (dramReady s = false → dramReq p write a n s = { s with fab := s.fab ++ [⟨s.now, false, p, write, a, n⟩] }))

/-- R65, R67, R70, R71, R73, R74, R76: At the end of a window each pipeline's least slack is shown (the lesser of what the state
measured and what the command carries, log entry 24), the window's line count and slacks start anew, and a slack below RAISE
raises PACESLOW and counts in ERR_COUNT3 (stated with the pace service's automatic control off). A new Tj is shown, the column of
PACE_VMIN moves up at once and down only 3 °C below the threshold, and above 105 °C THERMHI is raised. PMB_EN rising takes the
regulator's exponent; PMB_ALERT_N falling shows STATUS_WORD and raises VRALERT; each transaction is sent again after a failure,
three times at most; the comparator's VCORE is the one PACE judges; GUARBACK comes once GUAR_OK has stood for 2 × L. Where its
parts go beyond the spec's words they are the model's choice, said in log entries 23, 24 and 97. -/
def Obligations.PaceMeasuresAndTakesWhatTheRegulatorSays : Prop :=
  ((∀ (dt : Nat) (more : List Int) (sl : Nat → Int) (s : State), s.released 3 = true →
         (∀ k, sl k = min (at' 32767 s.pace.slack k) (max (-32768) (min (at' 32767 more k) 32767))) →
         (s.pace.lines < s.rf Reg.PACE_WINDOW 0 16 → exec (.paceWindowEnd dt more) s = .next (settle (s.elapse dt))) ∧
         (s.rf Reg.PACE_WINDOW 0 16 ≤ s.pace.lines → s.rb Reg.PACE_CTRL 2 = false → s.rf (Reg.errCount 3 3) 0 16 < 0xFFFF →
         ∃ u, exec (.paceWindowEnd dt more) s = .next (settle u) ∧ u.pace.lines = 0 ∧ u.pace.slack = [32767, 32767, 32767, 32767] ∧
           (∀ k < 4, u.reg (Reg.PACE_SLACK k) = W (wrapN 16 (sl k))) ∧
           ((∃ k < 4, sl k < s.rf Reg.PACE_THRESH 0 8) → u.rb (Reg.evtStatus 3) 8 = true ∧ u.pace.slow = true ∧
             u.reg (Reg.errCount 3 3) = W (s.rf (Reg.errCount 3 3) 0 16 + 1)) ∧
           ((∀ k < 4, (s.rf Reg.PACE_THRESH 8 8 : Int) < sl k) → u.pace.goodWins = s.pace.goodWins + 1) ∧
           ((∃ k < 4, sl k ≤ s.rf Reg.PACE_THRESH 8 8) → u.pace.goodWins = 0))) ∧
     (∀ (dt : Nat) (t : BitVec 10) (s : State), s.released 3 = true →
         ∃ u, exec (.paceTempUpdate dt t) s = .next (settle u) ∧ u.reg Reg.PACE_TEMP = W t.toNat ∧
           (340 < sgn 10 t.toNat → u.pace.col = 2) ∧
           (328 < sgn 10 t.toNat → sgn 10 t.toNat ≤ 340 → s.pace.col = 2 → u.pace.col = 2) ∧
           (200 < sgn 10 t.toNat → sgn 10 t.toNat ≤ 340 → s.pace.col ≤ 1 → u.pace.col = 1) ∧
           (200 < sgn 10 t.toNat → sgn 10 t.toNat ≤ 328 → u.pace.col = 1) ∧
           (188 < sgn 10 t.toNat → sgn 10 t.toNat ≤ 200 → s.pace.col = 0 → u.pace.col = 0) ∧
           (188 < sgn 10 t.toNat → sgn 10 t.toNat ≤ 200 → 1 ≤ s.pace.col → u.pace.col = 1) ∧
           (sgn 10 t.toNat ≤ 188 → u.pace.col = 0) ∧
           (420 < sgn 10 t.toNat → u.rb (Reg.evtStatus 3) 14 = true) ∧
           (∀ a, a ≠ Reg.PACE_TEMP → a ∉ evtRegs 3 → u.reg a = s.reg a))) ∧
  (∀ (dt : Nat) (s : State), s.released 3 = true →
       (∀ (q : Path) (w : Word) (mode : Byte) (k : Nat) (rest : List PmbTry), Takes q 3 s → s.rb Reg.PACE_CTRL 0 = false →
         bit w 0 = true → k ≤ 3 →
         ∃ u, exec (.pmbEnable dt q w ⟨List.replicate k .nak ++ .ok :: rest, mode.toNat⟩) s = .next (settle u) ∧
           u.pace.expo = sgn 5 mode.toNat ∧ u.rb Reg.PACE_CTRL 0 = true ∧
           u.sent = List.replicate (k + 1) (.pmbus 0x20 0 false (bit w 1)) ++ s.sent) ∧
       (∀ (st : BitVec 16) (k : Nat) (rest : List PmbTry), s.rb Reg.PACE_CTRL 0 = true → k ≤ 3 →
         ∃ u, exec (.pmbAlert dt ⟨List.replicate k .nak ++ .ok :: rest, st.toNat⟩) s = .next (settle u) ∧
           u.reg Reg.PACE_PMB_STATUS = W st.toNat ∧ u.rb (Reg.evtStatus 3) 11 = true ∧
           u.sent = List.replicate (k + 1) (.pmbus 0x79 0 false (s.rb Reg.PACE_CTRL 1)) ++ s.sent) ∧
       (∀ st : PmbRead, s.rb Reg.PACE_CTRL 0 = false →
         exec (.pmbAlert dt st) s = .next (settle (s.elapse dt))) ∧
       (∀ mv : Nat, exec (.vbelow dt mv) s = .next (settle { (s.elapse dt) with pace := { s.pace with vcore := mv } })) ∧
       (∀ t l : Nat, s.pace.rose = some (t, l) → s.rb Reg.PACE_GUAR 8 = true → t + l ≤ (s.elapse dt).now →
         ∃ u, exec (.guarback dt) s = .next (settle u) ∧ u.pace.rose = none ∧ u.pace.lapsed = false ∧
           u.rb (Reg.evtStatus 3) 13 = true))
/-- R68, R70: the pace service raises the set-point to its target where it stands below it, raises it one STEP after a slow
window, lowers it one STEP after LOWER_WINDOWS good windows, and leaves it otherwise. A set-point within its range starts a ramp:
the first VOUT_COMMAND goes one STEP towards it and PACE_RAMP_STATUS shows BUSY; one below PACE_VMIN, outside 650 to 950 mV, or
written while a ramp runs, is refused with CONFIG. After SETTLE_US a ramp step shows the regulator's reading; within 25 mV of the
command it sends the next step, or ends the ramp DONE at the target; off by more it ends with VOUTMISMATCH (0x81); a fourth
failure of either transaction ends it with PMBNAK (0x80), the voltage accepted last staying in force. Where its parts go beyond
the spec's words they are the model's choice, said in log entries 23, 59 and 97. -/
def Obligations.SetPointsRampToTheirTarget : Prop :=
  (∀ (dt : Nat) (s : State), s.running 3 = true → s.rb Reg.PACE_CTRL 2 = true → s.rb Reg.PACE_CTRL 0 = true → svcRuns 2 s = true →
      s.cmdBusy Reg.PACE_RAMP_STATUS = false →
      ∀ col target sp step : Nat,
        col = (if tj s + 4 * s.rf Reg.PACE_CTRL 16 8 ≤ 200 then 0 else if tj s + 4 * s.rf Reg.PACE_CTRL 16 8 ≤ 340 then 1 else 2) →
        target = max (vmin s) (clampN 650 950
          (s.rf (Reg.PACE_TABLE (paceIndex (s.reg Reg.PACE_LOAD) col)) 0 12 + s.rf Reg.PACE_STEP 8 8)) → target ≤ 950 →
        sp = s.rf Reg.PACE_SETPOINT 0 12 → step = s.rf Reg.PACE_STEP 0 6 →
        (sp < target → ∃ u, exec (.paceServiceUpdate dt) s = .next (settle u) ∧
          u.reg Reg.PACE_SETPOINT = W target ∧ u.cmdBusy Reg.PACE_RAMP_STATUS = true ∧ ∃ r, u.pace.ramp = some r ∧ r.target = target) ∧
        (target ≤ sp → s.pace.slow = true → sp < min (sp + step) 950 → ∃ u, exec (.paceServiceUpdate dt) s = .next (settle u) ∧
          u.reg Reg.PACE_SETPOINT = W (min (sp + step) 950) ∧ u.cmdBusy Reg.PACE_RAMP_STATUS = true ∧ u.pace.slow = false) ∧
        (target ≤ sp → s.pace.slow = false → s.rf Reg.PACE_THRESH 16 8 ≤ s.pace.goodWins → max (sp - step) target < sp → sp ≤ 950 →
          ∃ u, exec (.paceServiceUpdate dt) s = .next (settle u) ∧ u.reg Reg.PACE_SETPOINT = W (max (sp - step) target) ∧
            u.cmdBusy Reg.PACE_RAMP_STATUS = true ∧ u.pace.goodWins = 0) ∧
        (target ≤ sp → s.pace.slow = false → s.pace.goodWins < s.rf Reg.PACE_THRESH 16 8 →
          exec (.paceServiceUpdate dt) s = .next (settle (s.elapse dt)))) ∧
  (∀ (dt : Nat) (q : Path) (w : Word) (s : State), Takes q 3 s →
      (s.running 3 = true → s.rb Reg.PACE_CTRL 0 = true → s.cmdBusy Reg.PACE_RAMP_STATUS = false → 650 ≤ fld w 0 12 →
        fld w 0 12 ≤ 950 → vmin s ≤ fld w 0 12 → s.pace.last < fld w 0 12 → ∀ v, v = min (fld w 0 12) (s.pace.last + s.rf Reg.PACE_STEP 0 6) →
        ∃ u, exec (.paceSetpointWrite dt q w) s = .next (settle u) ∧ u.reg Reg.PACE_SETPOINT = W (fld w 0 12) ∧
          u.pace.last = s.pace.last ∧ u.pace.ramp = some ⟨fld w 0 12, v, s.now + dt⟩ ∧
          u.reg Reg.PACE_RAMP_STATUS = cmdWord 1 0 v ∧
          u.sent = .pmbus 0x21 (linear16 v s.pace.expo) true (s.rb Reg.PACE_CTRL 1) :: s.sent) ∧
      ((fld w 0 12 < 650 ∨ 950 < fld w 0 12 ∨ fld w 0 12 < vmin s ∨ s.cmdBusy Reg.PACE_RAMP_STATUS = true) →
        exec (.paceSetpointWrite dt q w) s = .next (settle (writeNote q 0 (config 3 (s.elapse dt)))))) ∧
  (∀ (dt : Nat) (r : RampSt) (s : State), s.released 3 = true → s.pace.ramp = some r →
      (∀ (j k : Nat) (a b : List PmbTry), r.sentAt + s.rf Reg.PACE_STEP 16 16 * 1000 ≤ s.now + dt → j ≤ 3 → k ≤ 3 →
        (∀ v, r.cmd ≤ v + 25 → v ≤ r.cmd + 25 → r.cmd = r.target →
          ∃ u, exec (.paceRampStep dt (List.replicate j .nak ++ .ok :: a) ⟨List.replicate k .nak ++ .ok :: b, v⟩) s = .next (settle u) ∧
            u.pace.ramp = none ∧ u.pace.last = r.cmd ∧ u.reg Reg.PACE_VOUT = W (v % 4096 + 2147483648) ∧
            u.reg Reg.PACE_RAMP_STATUS = cmdWord 2 0 r.cmd ∧ u.rb (Reg.evtStatus 3) 4 = true) ∧
        (∀ v w, r.cmd ≤ v + 25 → v ≤ r.cmd + 25 → r.cmd < r.target → w = min r.target (r.cmd + s.rf Reg.PACE_STEP 0 6) →
          ∃ u, exec (.paceRampStep dt (List.replicate j .nak ++ .ok :: a) ⟨List.replicate k .nak ++ .ok :: b, v⟩) s = .next (settle u) ∧
            u.pace.last = r.cmd ∧ u.pace.ramp = some ⟨r.target, w, s.now + dt⟩ ∧ u.reg Reg.PACE_RAMP_STATUS = cmdWord 1 0 w) ∧
        (∀ v, (r.cmd + 25 < v ∨ v + 25 < r.cmd) →
          ∃ u, exec (.paceRampStep dt (List.replicate j .nak ++ .ok :: a) ⟨List.replicate k .nak ++ .ok :: b, v⟩) s = .next (settle u) ∧
            u.pace.ramp = none ∧ u.reg Reg.PACE_RAMP_STATUS = cmdWord 4 0x81 r.cmd) ∧
        (∀ v, ∃ u, exec (.paceRampStep dt (List.replicate j .nak ++ .ok :: a) ⟨List.replicate 4 .nak, v⟩) s = .next (settle u) ∧
            u.pace.ramp = none ∧ u.pace.last = r.cmd ∧ u.reg Reg.PACE_RAMP_STATUS = cmdWord 4 0x80 r.cmd ∧
            u.rb (Reg.evtStatus 3) 10 = true)) ∧
      (∀ b : PmbRead, ∃ u, exec (.paceRampStep dt (List.replicate 4 .nak) b) s = .next (settle u) ∧
        u.pace.ramp = none ∧ u.pace.last = s.pace.last ∧ u.reg Reg.PACE_RAMP_STATUS = cmdWord 4 0x80 r.cmd ∧
        u.rb (Reg.evtStatus 3) 10 = true))

/-- R73, R74: at the end of every command PACE_GUAR follows its six conditions, GUAR_OK among them; where GUAR_OK falls, GUARLAPSE
is raised, TIME_NS is recorded in PACE_LAPSE_TIME and the time it must stand again is forgotten. -/
def Obligations.GuaranteeFollowsItsConditions : Prop :=
  ∀ (period : Option Nat) (s : State), s.released 3 = true →
    (guarUpdate period s).reg Reg.PACE_GUAR = W (guarBits s + 256 * (guarBits s == 63).toNat) ∧
    (s.rb Reg.PACE_GUAR 8 = true → guarBits s ≠ 63 →
      (guarUpdate period s).reg Reg.PACE_LAPSE_TIME = W s.timeNs ∧ (guarUpdate period s).rb (Reg.evtStatus 3) 12 = true ∧
      (guarUpdate period s).pace.lapsed = true ∧ (guarUpdate period s).pace.rose = none) ∧
    (s.rb Reg.PACE_GUAR 8 = false → guarBits s = 63 → s.pace.lapsed = true →
      (guarUpdate period s).pace.rose = some (s.now, 2 * period.getD (s.lf Reg.FIRE_MIN_PERIOD 0 16)))

/-- R34, R43, R73, R136, R155, R190, R359: what follows a command by itself. In a quiet machine, where nothing waits to be judged,
sent or read again, what a command leaves is what stands: only the interrupt pins and the pages with events for the service
firmware are set anew. Where its parts go beyond the spec's words they are the model's choice, said in log entry 11. -/
def Obligations.AQuietMachineStaysAsItsCommandLeftIt : Prop :=
  ∀ s : State, Quiet s → (s.released 3 = true → guarUpdate (linePeriod s) s = s) → settle s = irqShow s

/-- R78, R80, R102, R104, R273, R275: a JOB frame's descriptor, or the one INTAKE_DESC_PUSH pushes, enters the queue where R80
finds nothing against it; with a wrong CRC it is refused with DESCERR and counted in ERR_COUNT3. CANCEL_JOB removes the job's
queued and armed pages, CLEAR_QUEUE every queued one, and both show the number removed. INTAKE_FAIL_POP removes the oldest record.
Where its parts go beyond the spec's words they are the model's choice, said in log entries 25 and 34. -/
def Obligations.JobsAreJudgedQueuedAndRemoved : Prop :=
  ∀ (dt : Nat) (q : Path) (s : State),
    (∀ l : List Byte, l.length = 32 → s.enabled 0x40 = true → s.running 0x10 = true → s.rb Reg.INTAKE_CTRL 0 = true → NewPage l s →
      ∃ u, exec (.chainJob dt ([1, 0, 0, 0] ++ l)) s = .next (settle u) ∧
        u.intake = { s.intake with queue := s.intake.queue ++ [(descFields l, [])] } ∧
        u.reg Reg.CHAIN_RX_FRAMES = s.reg Reg.CHAIN_RX_FRAMES + 1 ∧
        (∀ a, a ≠ Reg.CHAIN_RX_FRAMES → a ∉ evtRegs 0x40 → u.reg a = s.reg a)) ∧
    (∀ w : Word, Takes q 0x10 s → bit w 0 = true → s.running 0x10 = true →
      (NewPage (descWords s) s → exec (.intakeDescPush dt q w) s = .next (settle (writeNote q 0 { (s.elapse dt) with
        intake := { s.intake with queue := s.intake.queue ++ [(descFields (descWords s), [])] } }))) ∧
      (crc32c ((descWords s).take 28) ≠ beAt (descWords s) 28 4 → exec (.intakeDescPush dt q w) s =
        .next (settle (writeNote q 0 (errInc 0x10 3 (raise 0x10 12 (s.elapse dt))))))) ∧
    (∀ job : BitVec 16, Takes q 0x10 s → Ready 0x10 Reg.INTAKE_CMD_STATUS s →
      ∃ u, exec (.cancelJob dt q job) s = .next (settle u) ∧
        u.intake.queue = s.intake.queue.filter (fun x => x.1.job != job.toNat) ∧
        u.intake.seq = s.intake.seq.filter (fun p => !(p.st == .armed && p.d.job == job.toNat)) ∧
        u.intake.fails = s.intake.fails ∧ u.rb (Reg.evtStatus 0x10) 4 = true ∧
        u.reg Reg.INTAKE_CMD_STATUS = cmdWord 2 0 ((s.intake.queue.filter fun x => x.1.job == job.toNat).length +
          (s.intake.seq.filter fun p => p.st == .armed && p.d.job == job.toNat).length)) ∧
    (Takes q 0x10 s → Ready 0x10 Reg.INTAKE_CMD_STATUS s →
      ∃ u, exec (.clearQueue dt q) s = .next (settle u) ∧ u.intake.queue = [] ∧ u.intake.seq = s.intake.seq ∧
        u.intake.fails = s.intake.fails ∧ u.rb (Reg.evtStatus 0x10) 4 = true ∧
        u.reg Reg.INTAKE_CMD_STATUS = cmdWord 2 0 s.intake.queue.length) ∧
    (∀ w : Word, Takes q 0x10 s → exec (.intakeFailPop dt q w) s = .next (settle (writeNote q 0
      (if bit w 0 then { (s.elapse dt) with intake := { s.intake with fails := s.intake.fails.drop 1 } } else s.elapse dt))))

/-- R69, R81, R82, R98, R197: while the job service runs, the first queued page takes a free slot with the start its mode gives
it, once the load it needs is in force; a heavier load is written first and its ramp waited for (the classing of a load is the
model's choice). A cue edge that the filter accepts latches the position, fixes the start of the first armed AT_CUE page that
waits and those of the FOLLOW pages behind it; an armed page becomes eligible 64 pitches before band 0 is due. Where its parts go
beyond the spec's words they are the model's choice, said in log entries 26, 27 and 96. -/
def Obligations.PagesArmTakeTheirCueAndBecomeEligible : Prop :=
  ∀ (dt : Nat) (s : State) (d : Desc) (bs : List Band) (rest : List (Desc × List Band)),
    (s.intake.queue = (d, bs) :: rest → s.running 0x10 = true → s.intake.seq.length < 4 →
      (svcRuns 0 s = false → exec (.pageArm dt) s = .next (settle (s.elapse dt))) ∧
      (svcRuns 0 s = true → loadEntry (s.reg Reg.PACE_LOAD) s < loadEntry (pageLoad d.width s) s →
        loadReady ((s.elapse dt).setReg Reg.PACE_LOAD (pageLoad d.width s)) = false →
        exec (.pageArm dt) s = .next (settle { (s.elapse dt).setReg Reg.PACE_LOAD (pageLoad d.width s) with
          intake := { s.intake with loadWait := true } })) ∧
      (svcRuns 0 s = true → s.intake.loadWait = false → s.reg Reg.PACE_LOAD = pageLoad d.width s →
        (d.mode = 1 → ∃ u, exec (.pageArm dt) s = .next (settle u) ∧ (∀ a, u.reg a = s.reg a) ∧ u.intake = { s.intake with
          queue := rest, seq := s.intake.seq ++ [⟨d, .armed, some (d.startPos * den s), den s, false, false, 0, 0, none, bs⟩],
          last := ⟨d.job, d.startPos * den s, den s, d.length⟩ :: s.intake.last.filter fun x => x.job != d.job }) ∧
        (d.mode = 2 → ∃ u, exec (.pageArm dt) s = .next (settle u) ∧ (∀ a, u.reg a = s.reg a) ∧ u.intake = { s.intake with
          queue := rest, seq := s.intake.seq ++ [⟨d, .armed, none, den s, false, false, 0, 0, none, bs⟩] }) ∧
        (∀ x : LastArm, d.mode = 0 → (∀ p ∈ s.intake.seq, p.d.job ≠ d.job) →
          (s.intake.last.find? fun y => y.job == d.job) = some x → x.den = den s →
          ∃ u st, exec (.pageArm dt) s = .next (settle u) ∧ u.intake.queue = rest ∧ u.intake.fails = s.intake.fails ∧
            u.intake.seq = s.intake.seq ++ [⟨d, .armed, some st, den s, false, false, 0, 0, none, bs⟩] ∧
            st = (x.start + (x.length + d.startPos) * num s) % (2 ^ 32 * den s)) ∧
        (∀ p : Page, d.mode = 0 → (s.intake.seq.filter fun y => y.d.job == d.job).getLast? = some p →
          ∃ u, exec (.pageArm dt) s = .next (settle u) ∧ u.intake.queue = rest ∧ u.intake.fails = s.intake.fails ∧
            u.intake.seq = s.intake.seq ++
              [⟨d, .armed, p.start.map (startAfter · p.den p.d.length d s), den s, false, false, 0, 0, none, bs⟩]))) ∧
    (s.released 0x1C = true → s.rb Reg.INTAKE_CTRL 1 = true → (∀ c, s.web.cueIn = some c → c.1 = false) →
      filtered 0 1 (s.web.cueIn.map (·.2)) (s.elapse dt) = true →
      (∃ u, exec (.cue dt true) s = .next (settle u) ∧ u.reg Reg.WEB_CUE_POS = W (srcX s) ∧
        u.reg Reg.WEB_CUE_T = W (encStamp 0 (s.elapse dt)) ∧ u.rb (Reg.evtStatus 0x1C) 22 = true ∧ u.web.cueIn = some (true, s.now + dt)) ∧
      (∀ p, (s.intake.seq.find? fun p => p.start.isNone && p.d.mode == 2) = some p → s.enabled 0x10 = true →
        0 ≤ dpos (srcX s) p.d.startPos → ∀ x, x = wrapN 32 ((srcX s : Int) + p.d.cueOfs) * den s →
        (∃ u, exec (.cue dt true) s = .next (settle u) ∧
          (∀ p' ∈ u.intake.seq, p'.d.job = p.d.job → p'.d.page = p.d.page → p'.start = some x) ∧
          u.intake.seq.length = s.intake.seq.length ∧ u.intake.queue = s.intake.queue ∧
          ((s.intake.seq.filter fun y => y.d.job == p.d.job) = [p] → u.intake.last.head? = some ⟨p.d.job, x, den s, p.d.length⟩)) ∧
        (∀ p2, s.intake.seq = [p, p2] → p2.d.job = p.d.job → p2.d.page ≠ p.d.page → p2.d.mode = 0 → p2.start = none →
          ∃ u, exec (.cue dt true) s = .next (settle u) ∧ u.intake.seq = [{ p with start := some x, den := den s },
            { p2 with start := some ((x + (p.d.length + p2.d.startPos) * num s) % (2 ^ 32 * den s)), den := den s }]))) ∧
    (∀ rise : Bool, filtered 0 1 (s.web.cueIn.map (·.2)) (s.elapse dt) = false → exec (.cue dt rise) s = .next (settle (s.elapse dt))) ∧
    (s.released 0x1C = true → (∀ c, s.web.cueIn = some c → c.1 = true) → filtered 0 1 (s.web.cueIn.map (·.2)) (s.elapse dt) = true →
      exec (.cue dt false) s = .next (settle { (s.elapse dt) with web := { s.web with cueIn := some (false, s.now + dt) } })) ∧
    (∀ p, ((seqKnown s).find? fun p => p.st == .armed && !p.eligible && dueReached p (-64) (s.elapse dt)) = some p →
      s.enabled 0x10 = true →
      exec (.pageEligible dt) s = .next (settle (setPage { p with eligible := true } (s.elapse dt))))

/-- R91, R94, R95, R96, R98, R102: an OFFSET 0 segment starts an absent band's stream, and one that comes as its band falls due is
dropped; one of no known page leaves a record or counts in INTAKE_DUP; the dispatcher stages the next complete band; a strip
counts its output, or fails its band with a record, of two that fail at one instant that of the lower engine; a band that is
verified when its due position is reached is mapped, and one that is not is blanked with a record. Where its parts go beyond the
spec's words they are the model's choice, said in log entries 26, 27, 28, 34, 54, 60, 61, 82 and 98. -/
def Obligations.BandsArriveInflateAndFallDue : Prop :=
  ∀ (dt : Nat) (s : State),
    (∀ seg : List Byte, s.enabled 0x40 = true → s.running 0x10 = true → s.rb Reg.INTAKE_CTRL 0 = true → 13 ≤ seg.length →
      seg.length ≤ 2048 →
      (∀ x, findPage (beAt seg 0 2) (beAt seg 4 4) s = some x → (bandOf (beAt seg 2 2) x.2).st = .absent → beAt seg 8 4 = 0 →
        dueNow (beAt seg 0 2) (beAt seg 4 4) (beAt seg 2 2) (s.elapse dt) = false → seg.length < 124 → ∃ u bs b, exec (.chainBand dt seg) s = .next (settle u) ∧
          findPage (beAt seg 0 2) (beAt seg 4 4) u = some (x.1, bs) ∧ bandOf (beAt seg 2 2) bs = b ∧ b.st = .receiving ∧
          b.begun = true ∧ b.hdrBytes = seg.drop 12 ∧ b.next = seg.length - 12 ∧ b.slot = none ∧ u.intake.fails = s.intake.fails) ∧
      ((findPage (beAt seg 0 2) (beAt seg 4 4) s).isSome = true →
        dueNow (beAt seg 0 2) (beAt seg 4 4) (beAt seg 2 2) (s.elapse dt) = true → exec (.chainBand dt seg) s =
        .next (settle (count 0x10 Reg.INTAKE_DUP (stat 0x40 Reg.CHAIN_RX_FRAMES 1 (s.elapse dt))))) ∧
      (findPage (beAt seg 0 2) (beAt seg 4 4) s = none → beAt seg 8 4 ≠ 0 → exec (.chainBand dt seg) s =
        .next (settle (count 0x10 Reg.INTAKE_DUP (stat 0x40 Reg.CHAIN_RX_FRAMES 1 (s.elapse dt))))) ∧
      (findPage (beAt seg 0 2) (beAt seg 4 4) s = none → beAt seg 8 4 = 0 → s.intake.fails.length < 64 →
        ∃ u r, exec (.chainBand dt seg) s = .next (settle u) ∧ u.intake.fails = s.intake.fails ++ [r] ∧ r.reason = 12 ∧
          r.job = beAt seg 0 2 ∧ r.page = beAt seg 4 4 ∧ r.band = beAt seg 2 2 ∧ r.blanked = false)) ∧
    (∀ (d : Desc) (b : Band) (t : State) (i : Nat), s.running 0x11 = true → s.released 0x10 = true → t = handOut 32 (s.elapse dt) →
      dispatchBand s.intake.seq = some (d, b) → t.infl.staging.findIdx? (·.isNone) = some i →
      (∃ e < 16, (s.inForce Reg.INFL_ENGINE_MASK).toNat / 2 ^ e % 2 = 1 ∧ engBusy (tget Reset.engine t.infl.engines e) = false) →
      ∃ u g, exec (.bandDispatch dt) s = .next (settle u) ∧ u.infl.staging[i]? = some (some g) ∧ g.job = d.job ∧ g.page = d.page ∧
        g.band = b.no ∧ u.words = s.words ∧ (∀ p ∈ u.intake.seq, p.d.job = d.job → p.d.page = d.page →
          bandOf b.no p.bands = { b with st := .inflating })) ∧
    (∀ (e : Fin 16) (d : Desc) (b : Band) (h : BandHdr) (g : Staging) (x : Engine), engBand e s = some (d, b, h, g) →
      x = tget Reset.engine s.infl.engines e → dramReady s = true → s.released 0x11 = true →
      ((stripRun b h x.strip s).1 = 0 → x.since < (s.elapse dt).now →
        ∃ u, exec (.stripDone dt [e]) s = .next (settle u) ∧
          u.reg (Reg.INFL_E_OUT e) = s.reg (Reg.INFL_E_OUT e) + W (stripRun b h x.strip s).2.1.length ∧
          u.reg (Reg.INFL_E_RATE e) =
            W (min 0xFFFF ((stripRun b h x.strip s).2.1.length * 1000 / ((s.elapse dt).now - x.since)))) ∧
      ((stripRun b h x.strip s).1 ≠ 0 → s.intake.fails.length < 64 → ∃ u r, exec (.stripfail dt [e]) s = .next (settle u) ∧
          u.intake.fails = s.intake.fails ++ [r] ∧ r.job = d.job ∧ r.page = d.page ∧ r.band = b.no ∧ r.blanked = false ∧
          r.reason = (stripRun b h x.strip s).1 ∧ r.strip = x.strip ∧ u.rb (Reg.evtStatus 0x11) 8 = true)) ∧
    (∀ (e f : Fin 16) (d : Desc) (b : Band) (h : BandHdr) (g : Staging) (x y : Engine), e.val < f.val → engBand e s = some (d, b, h, g) →
      engBand f s = some (d, b, h, g) → x = tget Reset.engine s.infl.engines e → y = tget Reset.engine s.infl.engines f →
      dramReady s = true → s.released 0x11 = true → (stripRun b h x.strip s).1 ≠ 0 → (stripRun b h y.strip s).1 ≠ 0 →
      s.intake.fails.length < 64 → s.rf (Reg.INFL_E_ERR e) 0 16 < 0xFFFF → s.rf (Reg.INFL_E_ERR f) 0 16 < 0xFFFF →
      ∀ es, es = [e, f] ∨ es = [f, e] → ∃ u r, exec (.stripfail dt es) s = .next (settle u) ∧ u.intake.fails = s.intake.fails ++ [r] ∧
        r.reason = (stripRun b h x.strip s).1 ∧ r.strip = x.strip ∧
        u.rf (Reg.INFL_E_ERR e) 0 16 = s.rf (Reg.INFL_E_ERR e) 0 16 + 1 ∧ u.rf (Reg.INFL_E_ERR f) 0 16 = s.rf (Reg.INFL_E_ERR f) 0 16 + 1) ∧
    (∀ (p : Page) (b : Band), s.enabled 0x10 = true → s.enabled 0x14 = true → s.enabled 0x15 = true →
      ((seqKnown s).find? fun p => dueLeft p && dueReached p 0 (s.elapse dt)) = some p → 0 < p.nextBand →
      (s.intake.seq.find? fun x => x.d.job == p.d.job && x.d.page == p.d.page) = some p → b = bandOf p.nextBand p.bands →
      (p.sepBad = false → b.st = .verified → ∃ u p', exec (.bandDue dt) s = .next (settle u) ∧
        (u.intake.seq.find? fun x => x.d.job == p.d.job && x.d.page == p.d.page) = some p' ∧ p'.nextBand = p.nextBand + 1 ∧
        bandOf p.nextBand p'.bands = { b with st := .mapping, extent := some (dueExtent p) } ∧ u.intake.fails = s.intake.fails) ∧
      (p.sepBad = false → b.st = .receiving → s.intake.fails.length < 64 → ∃ u r, exec (.bandDue dt) s = .next (settle u) ∧
        u.intake.fails = s.intake.fails ++ [r] ∧ r.job = p.d.job ∧ r.page = p.d.page ∧ r.band = p.nextBand ∧
        r.first = (dueExtent p).1 ∧ r.lines = (dueExtent p).2 ∧ r.blanked = true ∧ r.reason = (if b.begun then 9 else 10) ∧
        u.rb (Reg.evtStatus 0x10) 9 = true))

/-- R10, R44, R109, R112, R117, R119, R121, R122, R143, R203, R223: a word written to a bank of the tables that is not in use is
stored with its defined bits, and a nozzle map word makes the bank unvalidated; the live bank refuses with CONFIG; MAP_NOZZLES is
taken while DELAY is off and shows the working rods and the line's bytes; MAP_TRIM_DATA reads and writes the staged trim and steps
on; at a page boundary the staged trims become live, but for those written at its own instant. Where its parts go beyond the
spec's words they are the model's choice, said in log entries 7, 19, 29 and 69. -/
def Obligations.TablesTakeWordsInTheirInactiveBank : Prop :=
  ∀ (dt : Nat) (q : Path) (w : Word) (s : State),
    (Takes q 0x14 s →
      (s.enabled 0x16 = false → fld w 0 18 ≠ 0 → fld w 0 18 ≤ 131072 →
        ∃ u, exec (.mapNozzlesWrite dt q w) s = .next (settle u) ∧ u.reg Reg.MAP_NOZZLES = W (fld w 0 18) ∧
          u.reg Reg.MAP_RODS = W ((fld w 0 18 + 2047) / 2048) ∧ u.reg Reg.MAP_LINE_BYTES = W (512 * ((fld w 0 18 + 2047) / 2048)) ∧
          (∀ a, a ∉ [Reg.MAP_NOZZLES, Reg.MAP_RODS, Reg.MAP_LINE_BYTES, Reg.MAP_BANK] → u.reg a = s.reg a) ∧
          u.rb Reg.MAP_BANK 1 = (s.rb Reg.MAP_BANK 1 && fld w 0 18 == nozzles s)) ∧
      ((s.enabled 0x16 = true ∨ fld w 0 18 = 0 ∨ 131072 < fld w 0 18) →
        exec (.mapNozzlesWrite dt q w) s = .next (settle (writeNote q 0 (config 0x14 (s.elapse dt))))) ∧
      (∀ ofs : BitVec 24, ofs.toNat % 4 = 0 → ofs.toNat % 0x800000 < 0x200000 →
        (ofs.toNat / 0x800000 ≠ liveBank s → s.shadowPending 0x14 = false → s.cmdBusy Reg.MAP_CMD_STATUS = false →
          ∃ u, exec (.nozzleMapWrite dt q ofs w) s = .next (settle u) ∧ u.reg (0x50000000 + ofs.toNat) = w ∧
            u.rb Reg.MAP_BANK 1 = false ∧ (∀ a, a ≠ 0x50000000 + ofs.toNat → a ≠ Reg.MAP_BANK → u.reg a = s.reg a)) ∧
        (ofs.toNat / 0x800000 = liveBank s →
          exec (.nozzleMapWrite dt q ofs w) s = .next (settle (writeNote q 0 (config 0x14 (s.elapse dt)))))) ∧
      (s.rb Reg.MAP_TRIM_CTRL 0 = true → s.rb Reg.MAP_TRIM_ADDR 31 = false →
        ∃ u, exec (.mapTrimDataWrite dt q w) s = .next (settle u) ∧
          mget noTrim u.map.trimStaged (s.rf Reg.MAP_TRIM_ADDR 0 17) = w &&& 0x1FFFF ∧ u.map.trimLive = s.map.trimLive ∧
          u.rf Reg.MAP_TRIM_ADDR 0 17 = (s.rf Reg.MAP_TRIM_ADDR 0 17 + 1) % 131072 ∧
          (∀ a, a ≠ Reg.MAP_TRIM_ADDR → u.reg a = s.reg a)) ∧
      ((s.rb Reg.MAP_TRIM_CTRL 0 = false ∨ s.rb Reg.MAP_TRIM_ADDR 31 = true) → exec (.mapTrimDataWrite dt q w) s =
        .next (settle (writeNote q 0 (trimNext (errInc 0x14 2 (config 0x14 (s.elapse dt)))))))) ∧
    (Reads q 0x14 s → exec (.mapTrimDataRead dt q) s = .next (settle (pathNote q 0
      [mget noTrim (if s.rb Reg.MAP_TRIM_ADDR 31 then s.map.trimLive else s.map.trimStaged) (s.rf Reg.MAP_TRIM_ADDR 0 17)]
      (trimNext (s.elapse dt))))) ∧
    (∀ (ofs : Nat) (a : BitVec 32), ofs % 4 = 0 →
      (Takes q 0x15 s → ofs < 0x100000 → ofs % 0x80000 < 0x60000 → a.toNat = 0x51000000 + ofs →
        ofs / 0x80000 ≠ s.rf Reg.SCREEN_BANK 0 1 → s.shadowPending 0x15 = false → s.cmdBusy Reg.SCREEN_CMD_STATUS = false →
        ∃ u, exec (.tableWindowWrite dt q a w) s = .next (settle u) ∧ u.reg a.toNat = w &&& 0x0FFF0FFF ∧
          (∀ b, b ≠ a.toNat → u.reg b = s.reg b)) ∧
      (Takes q 0x17 s → ofs < 0x10000 → ofs % 0x8000 < 0x2000 → a.toNat = 0x51100000 + ofs →
        ofs / 0x8000 ≠ s.rf Reg.FIRE_HIST_BANK 0 1 → s.shadowPending 0x17 = false → s.cmdBusy Reg.FIRE_HIST_CMD_STATUS = false →
        exec (.tableWindowWrite dt q a w) s = .next (settle (writeNote q 0 ((s.elapse dt).setReg a.toNat (w &&& 7))))) ∧
      (Takes q 0x1C s → ofs < 0x10000 → a.toNat = 0x51200000 + ofs → exec (.tableWindowWrite dt q a w) s =
        .next (settle (writeNote q 0 ((s.elapse dt).setReg a.toNat (w &&& W (cmpMask (ofs / 4 % 4))))))) ∧
      (Takes q 0x24 s → ofs < 0x40000 → ofs % 0x8000 < 0x48C4 → a.toNat = 0x51300000 + ofs →
        ofs / 0x8000 % 2 ≠ camBank (ofs / 0x10000) s → s.shadowPending 0x24 = false → s.cmdBusy Reg.ISP_CMD_STATUS = false →
        exec (.tableWindowWrite dt q a w) s = .next (settle (writeNote q 0 ((s.elapse dt).setReg a.toNat w))))) ∧
    (∀ page line : Nat, (trimsHeld s = [] → (trimBoundary page line s).map.trimLive = s.map.trimStaged) ∧
      (∀ n v, trimsHeld s = [(n, v)] → mget noTrim (trimBoundary page line s).map.trimLive n = v ∧
        ∀ k, k ≠ n → mget noTrim (trimBoundary page line s).map.trimLive k = mget noTrim s.map.trimStaged k))

/-- R117, R119: COPY_LIVE and VALIDATE start BUSY, VALIDATE making the inactive bank unvalidated; when COPY_LIVE is done the
inactive bank holds the live one's words, and a VALIDATE that finds no fault makes the bank valid, one that does names the nozzle.
Where its parts go beyond the spec's words they are the model's choice, said in log entry 29. -/
def Obligations.TableCommandsCopyAndValidateBanks : Prop :=
  ∀ (dt : Nat) (q : Path) (s : State),
    (Takes q 0x14 s → s.quiescing 0x14 = false → s.cmdBusy Reg.MAP_CMD_STATUS = false → s.shadowPending 0x14 = false →
      exec (.mapCopyLive dt q) s = .next (settle (writeNote q 0
        (cmdStart Reg.MAP_CMD_STATUS { (s.elapse dt) with map := { s.map with op := 1 } }))) ∧
      exec (.validate dt q) s = .next (settle (writeNote q 0 ((cmdStart Reg.MAP_CMD_STATUS
        { (s.elapse dt) with map := { s.map with op := 2 } }).setB Reg.MAP_BANK 1 false)))) ∧
    (Takes q 0x15 s → s.quiescing 0x15 = false → s.cmdBusy Reg.SCREEN_CMD_STATUS = false → s.shadowPending 0x15 = false →
      exec (.screenCopyLive dt q) s = .next (settle (writeNote q 0 (cmdStart Reg.SCREEN_CMD_STATUS (s.elapse dt))))) ∧
    (s.released 0x14 = true → s.cmdBusy Reg.MAP_CMD_STATUS = true →
      (s.map.op = 1 → ∃ u, exec (.tableCommandDone dt 0x14) s = .next (settle u) ∧
        (∀ n w : Nat, n < 131072 → w < 4 →
          u.reg (Reg.MAP_ENTRY (1 - liveBank s) n w) = s.reg (Reg.MAP_ENTRY (liveBank s) n w)) ∧
        windows (1 - liveBank s) u = windows (liveBank s) s ∧ u.rb Reg.MAP_BANK 1 = true ∧ liveBank u = liveBank s ∧
        u.reg Reg.MAP_CMD_STATUS = cmdWord 2 0 64 ∧ u.rb (Reg.evtStatus 0x14) 4 = true) ∧
      (s.map.op = 2 → ∀ win, validateLoop (bankWords (1 - liveBank s) s)
          (namings (bankWords (1 - liveBank s) s) (1 - liveBank s) (nozzles s)) (1 - liveBank s) (nozzles s)
          (List.range (nozzles s)) 0 0 [] = .inr win →
        ∃ u, exec (.tableCommandDone dt 0x14) s = .next (settle u) ∧ u.rb Reg.MAP_BANK 1 = true ∧
          windows (1 - liveBank s) u = win ∧ u.reg Reg.MAP_CMD_STATUS = cmdWord 2 0 (workRods s)) ∧
      (s.map.op = 2 → ∀ code n, validateLoop (bankWords (1 - liveBank s) s)
          (namings (bankWords (1 - liveBank s) s) (1 - liveBank s) (nozzles s)) (1 - liveBank s) (nozzles s)
          (List.range (nozzles s)) 0 0 [] = .inl (code, n) →
        ∃ u, exec (.tableCommandDone dt 0x14) s = .next (settle u) ∧ u.rb Reg.MAP_BANK 1 = s.rb Reg.MAP_BANK 1 ∧
          u.reg Reg.MAP_VAL_NOZZLE = W n ∧ u.reg Reg.MAP_CMD_STATUS = cmdWord 4 code (n / 2048))) ∧
    (s.released 0x15 = true → s.cmdBusy Reg.SCREEN_CMD_STATUS = true →
      ∃ u, exec (.tableCommandDone dt 0x15) s = .next (settle u) ∧ u.reg Reg.SCREEN_CMD_STATUS = cmdWord 2 0 0 ∧
        (∀ ofs < 0x60000, u.reg (Reg.TILE (1 - s.rf Reg.SCREEN_BANK 0 1) 1 0 0 + ofs) =
          s.reg (Reg.TILE (s.rf Reg.SCREEN_BANK 0 1) 1 0 0 + ofs)))

/-- R101, R110, R127, R446: the rods map the next line, once both rod pages run, and the page goes on behind it: it counts in
MAP_LINES and SCREEN_LINES, table words found bad stay so, a band that is blanked goes to DELAY as a zero line, and a line whose
CRC-32C no longer matches leaves a record of reason LINECHECK and a zero line. Where its parts go beyond the spec's words they are
the model's choice, said in log entries 27, 54 and 60. -/
def Obligations.LinesAreMappedCheckedAndCounted : Prop :=
  (∀ (dt fm ft : Nat) (ups : List (Nat × Byte)) (nb : List Nat) (ru : List (Fin 64)) (s : State), s.released 0x14 = true →
    exec (.lineMap dt ups nb fm ft ru) s = .next (settle (lineMap ups nb fm ft (ru.map Fin.val) (s.elapse dt))) ∧
    (nextLine s = none ∨ s.running 0x14 = false ∨ s.running 0x15 = false ∨ s.quiescing 0x16 = true →
      exec (.lineMap dt ups nb fm ft ru) s = .next (settle (s.elapse dt)))) ∧
  (∀ (dt fm ft : Nat) (ups : List (Nat × Byte)) (nb : List Nat) (ru : List (Fin 64)) (s : State) (p : Page) (b : Band) (x : Nat × Nat),
    s.running 0x14 = true → s.running 0x15 = true → s.quiescing 0x16 = false → nextLine s = some (p, b, x) →
    (b.zero = true → ∃ u, exec (.lineMap dt ups nb fm ft ru) s = .next (settle u) ∧
      u.reg Reg.MAP_LINES = s.reg Reg.MAP_LINES + 1 ∧ u.reg Reg.SCREEN_LINES = s.reg Reg.SCREEN_LINES + 1 ∧
      u.intake.fails = s.intake.fails ∧ (nb = [] → u.map = s.map) ∧ (∀ a ∈ nb, a < 2 ^ 34 → a ∈ u.map.bad) ∧
      (∃ p', (u.intake.seq.find? fun y => y.d.job == p.d.job && y.d.page == p.d.page) = some p' ∧ p.nextLine < p'.nextLine) ∧
      (s.enabled 0x16 = false → u.fire = s.fire)) ∧
    (b.zero = false → dramReady s = true → ∀ g, stagingOf p.d.job p.d.page b.no s = some g →
      (crc32c (upsetLine (at' [] g.lines (p.nextLine - x.1)) ups) = at' 0 g.crcs (p.nextLine - x.1) →
        ∃ u, exec (.lineMap dt ups nb fm ft ru) s = .next (settle u) ∧ u.reg Reg.MAP_LINES = s.reg Reg.MAP_LINES + 1 ∧
          u.reg Reg.SCREEN_LINES = s.reg Reg.SCREEN_LINES + 1 ∧ u.intake.fails = s.intake.fails ∧ (∀ a ∈ nb, a < 2 ^ 34 → a ∈ u.map.bad) ∧
          ∃ p', (u.intake.seq.find? fun y => y.d.job == p.d.job && y.d.page == p.d.page) = some p' ∧ p.nextLine < p'.nextLine) ∧
      (crc32c (upsetLine (at' [] g.lines (p.nextLine - x.1)) ups) ≠ at' 0 g.crcs (p.nextLine - x.1) → s.intake.fails.length < 64 →
        ∃ u r, exec (.lineMap dt ups nb fm ft ru) s = .next (settle u) ∧ u.reg Reg.MAP_LINES = s.reg Reg.MAP_LINES + 1 ∧
          u.intake.fails = s.intake.fails ++ [r] ∧ r.reason = 11 ∧ r.blanked = true ∧ r.first = p.nextLine ∧ r.lines = 1 ∧
          u.reg Reg.INTAKE_LINES_BLANK = s.reg Reg.INTAKE_LINES_BLANK + 1)))

/-- R130, R143, R148, R152, R153, R154: START from READY takes RUN, or INHIBIT while the position is invalid or the stop is
latched, with the benchmark at the present position and no grid; it needs DELAY; STOP returns to READY with no tick open and every
trigger inactive; RESUME ends INHIBIT unless the pin is low; the pitch pair applies together; FIRE_WDOG bits clear by writing 1.
Where its parts go beyond the spec's words they are the model's choice, said in log entries 16, 33, 65 and 89. -/
def Obligations.FireStartsStopsResumesAndTakesItsPitch : Prop :=
  ∀ (dt : Nat) (q : Path) (w : Word) (s : State), Takes q 0x17 s →
    (Ready 0x17 Reg.FIRE_CMD_STATUS s →
      (s.fire.st = 1 → s.enabled 0x16 = true → ∃ u, exec (.fireStart dt q) s = .next (settle u) ∧
        u.fire.st = (if posValid s && !s.fire.latch then 2 else 3) ∧ u.fire.anchored = false ∧ u.fire.ticks = [] ∧
        u.fire.bench = presentPos (den s) (s.elapse dt) ∧ u.reg Reg.FIRE_CMD_STATUS = cmdWord 2 0 0 ∧
        (∀ a, a ≠ Reg.FIRE_CMD_STATUS → a ∉ evtRegs 0x17 → u.reg a = s.reg a)) ∧
      (s.fire.st = 1 → s.enabled 0x16 = false → exec (.fireStart dt q) s =
        .next (settle (writeNote q 0 (cmdError 0x17 Reg.FIRE_CMD_STATUS 0x81 (s.elapse dt))))) ∧
      (2 ≤ s.fire.st → ∃ u, exec (.fireStop dt q) s = .next (settle u) ∧ u.fire.st = 1 ∧ u.fire.anchored = false ∧
        u.fire.ticks = [] ∧ u.fire.reads = [] ∧ u.reg Reg.FIRE_CMD_STATUS = cmdWord 2 0 0 ∧
        (∀ h < 32, tget none u.fire.trigOn h = none)) ∧
      (s.fire.st = 3 → s.fire.pinLow = false → posValid s = true → exec (.fireResume dt q) s = .next (settle (writeNote q 0
        (cmdDone 0x17 Reg.FIRE_CMD_STATUS { (s.elapse dt) with fire := { s.fire with latch := false, st := 2 } })))) ∧
      (s.fire.st = 3 → s.fire.pinLow = true → exec (.fireResume dt q) s =
        .next (settle (writeNote q 0 (cmdError 0x17 Reg.FIRE_CMD_STATUS 0x80 (s.elapse dt)))))) ∧
    (fld w 0 16 ≠ 0 → exec (.firePitchDenWrite dt q w) s = .next (settle (writeNote q 0
      { (s.elapse dt) with fire := { s.fire with denHeld := some (fld w 0 16, decide (2 ≤ s.fire.st)) } }))) ∧
    (fld w 0 16 = 0 → exec (.firePitchDenWrite dt q w) s = .next (settle (writeNote q 0 (config 0x17 (s.elapse dt))))) ∧
    (∀ d, s.fire.denHeld = some (d, false) → s.fire.st < 2 → fld w 0 16 ≠ 0 → d ≤ 16 * fld w 0 16 → fld w 0 16 ≤ 4096 * d →
      ∃ u, exec (.firePitchNumWrite dt q w) s = .next (settle u) ∧ u.reg Reg.FIRE_PITCH_DEN = W d ∧
        u.reg Reg.FIRE_PITCH_NUM = W (fld w 0 16) ∧ u.fire = { s.fire with denHeld := none, bench := s.fire.bench * d / den s } ∧
        (∀ a, a ≠ Reg.FIRE_PITCH_DEN → a ≠ Reg.FIRE_PITCH_NUM → u.reg a = s.reg a)) ∧
    (2 ≤ s.fire.st → ∃ u, exec (.firePitchNumWrite dt q w) s = .next (settle u) ∧ u.rb (Reg.evtStatus 0x17) 0 = true ∧
        (∀ a, a ∉ evtRegs 0x17 → u.reg a = s.reg a)) ∧
    (exec (.fireWdogClear dt q w) s =
      .next (settle (writeNote q 0 ((s.elapse dt).setReg Reg.FIRE_WDOG (s.reg Reg.FIRE_WDOG &&& ~~~w))))) ∧
    (s.quiescing 0x17 = false → s.cmdBusy Reg.FIRE_HIST_CMD_STATUS = false → s.shadowPending 0x17 = false →
      exec (.fireHistCopyLive dt q) s = .next (settle (writeNote q 0 (cmdStart Reg.FIRE_HIST_CMD_STATUS (s.elapse dt)))))

/-- R134, R140, R141, R144, R145, R147, R152, R154, R156, R282: a tick whose read position is reached, and no other, has its row
reads issued; a read before the first line returns zero levels; a trigger's instant is the latest of its candidate, its minimum
period and 32 ns from now; the edge and the end of its pulse drive the pair at the 250 ps tap of their instant, and a head that is
lost gets none; the tap calibrator keeps its last measurement; the watchdog cuts a pair that is active too long; ESTOP_N low
inhibits FIRE with every trigger inactive. Where its parts go beyond the spec's words they are the model's choice, said in log
entries 70, 71, 76, 78, 80 and 88. -/
def Obligations.FireReadsTriggersAndInhibits : Prop :=
  ∀ (dt : Nat) (s t : State), s.released 0x17 = true → t = s.elapse dt →
    (∀ ser k : Nat, s.web.src = .enc → 2 ≤ s.fire.st → s.fire.anchored = true → s.quiescing 0x16 = false → s.quiescing 0x17 = false →
      s.fire.ticks = [] → s.fire.nextRead = k → s.fire.nextDec = k →
      reached (den s) (moveD (den s) (tickPos k s) (-(((lead s + 1) * num s : Nat) : Int))) t = true →
      reached (den s) (moveD (den s) (tickPos (k + 1) s) (-(((lead s + 1) * num s : Nat) : Int))) t = false →
      reached (den s) (moveD (den s) (tickPos k s) (-((lead s * num s : Nat) : Int))) t = false →
      ∃ u, exec (.fireEval dt ser) s = .next (settle u) ∧ u.fire = (issueReads k t).fire) ∧
    (∀ (h : Fin 32) (r : Fin 8) (ser : Nat) (x : RowRead), (∀ y ∈ s.fire.ticks, y.st ≠ 1) →
      (s.fire.reads.find? fun x => x.h == h.val && x.r == r.val && x.levels.isNone) = some x → x.line = none →
      exec (.rowReadDone dt h r ser) s = .next (settle { t with fire := { s.fire with reads := s.fire.reads.map fun y =>
        if y.tick = x.tick ∧ y.h = h.val ∧ y.r = r.val then { y with levels := some (List.replicate (headCount h s) 0), bad := false }
        else y } })) ∧
    (∀ (c : Int) (h : Nat), (trigInstant c h s).1 = max (c + phase h s) (max (nowQ s + 128)
      (match tget none s.fire.lastTrig h with
       | some l => (l : Int) + 4 * (minPeriod s : Int)
       | none => c + phase h s))) ∧
    (∀ (h : Fin 32) (k : Tick) (x : HeadTick) (i : Nat), k ∈ s.fire.ticks → k.st = 2 → x ∈ k.heads → x.h = h.val → x.trig = some i →
      (tapAt i t).isSome = true →
        (headUp h s = true → ∃ u j tap, exec (.triggerEdge dt h) s = .next (settle u) ∧ tapAt j t = some tap ∧
          u.sent = .trig h true tap :: s.sent ∧ tget none u.fire.trigOn h = some j ∧
          (u.head h).nextEdge = ((s.head h).nextEdge + 1) % 65536 ∧
          u.rf (Reg.HEADS_EDGE h) 0 16 = (s.head h).nextEdge % 65536 ∧ (∀ a, a ≠ Reg.HEADS_EDGE h → u.reg a = s.reg a)) ∧
        (headUp h s = false → ∃ u, exec (.triggerEdge dt h) s = .next (settle u) ∧ u.sent = s.sent ∧ u.heads = s.heads ∧
          u.fire.trigOn = s.fire.trigOn)) ∧
    (∀ (h : Fin 32) (i tap : Nat), tget none s.fire.trigOn h = some i → tapAt (i + 4 * s.rf Reg.FIRE_PULSE 0 12) t = some tap →
      exec (.triggerPulseEnd dt h) s = .next (settle (emit (.trig h false tap)
        { t with fire := { s.fire with trigOn := tset none s.fire.trigOn h none } }))) ∧
    (∀ (h : Fin 32) (m : Fin 97), tget none s.fire.trigOn h = none → ∃ u, exec (.tapcal dt h m) s = .next (settle u) ∧
      (tget Reset.tap u.fire.taps h).mPrev = m ∧ (tget Reset.tap u.fire.taps h).measured = true ∧
      (tget Reset.tap u.fire.taps h).fails = (if (tget Reset.tap s.fire.taps h).measured = true ∧ (tget Reset.tap s.fire.taps h).mPrev ≤ m.val + 1 ∧
        m.val ≤ (tget Reset.tap s.fire.taps h).mPrev + 1 then 0 else (tget Reset.tap s.fire.taps h).fails + 1) ∧
      (∀ g, g ≠ h.val → tget Reset.tap u.fire.taps g = tget Reset.tap s.fire.taps g) ∧ (∀ a, a ∉ evtRegs 0x17 → u.reg a = s.reg a)) ∧
    (∀ (h : Fin 32) (i : Nat), tget none s.fire.trigOn h = some i → (32 * s.rf Reg.FIRE_MAX_WIDTH 0 16 : Nat) ≤ 10 * (nowQ t - i) →
      ∃ u, exec (.strobefault dt h) s = .next (settle u) ∧ tget none u.fire.trigOn h = none ∧ u.rb Reg.FIRE_WDOG h = true ∧
        u.rb (Reg.evtStatus 0x17) 12 = true) ∧
    (∀ ns : Nat, exec (.estop dt false ns) s = .next (settle { t with fire := { s.fire with pinLow := false } })) ∧
    (s.fire.st = 2 → ∃ u, exec (.estop dt true 0) s = .next (settle u) ∧ u.fire.st = 3 ∧ u.fire.latch = true ∧
      u.fire.pinLow = true ∧ (∀ h < 32, tget none u.fire.trigOn h = none) ∧ u.rb (Reg.evtStatus 0x17) 13 = true)

/-- R164, R166, R167, R172, R173, R175, R184, R186, R187, R190, R260: keepalives, head commands, their responses and timeouts,
telemetry, the loss of a head and rejoins, each with what it sends and shows. A keepalive that falls due starts once the line
frame on its lane has ended, a command waits until its lane is free of line frames; an upstream frame is taken by its TYPE, and
one that is broken or of a reserved TYPE raises TELBAD; a head that HOLD has held back becomes READY by no telemetry before its
rejoin. Where its parts go beyond the spec's words they are the model's choice, said in log entries 8, 36, 39, 40, 66, 79 and 87.
-/
def Obligations.HeadLinkServesItsHeads : Prop :=
  ∀ (dt : Nat) (q : Path) (h : Fin 32) (s t : State), t = s.elapse dt →
    (s.released 0x18 = true → headInUse h s = true →
      ((∀ k, (s.head h).kaAt = some k → k + s.rf Reg.HLINK_KA_PERIOD 0 12 ≤ t.now) → linkQuiesced s = false →
        (laneWait (headLane h s) t = some 0 → exec (.keepaliveSend dt h) s = .next (settle (emit
          (.keepalive h (claim s) (s.head h).kaSeq (crc8 (beBytes 2 (claim s) ++ beBytes 1 (s.head h).kaSeq)))
          (t.setHead h { s.head h with kaSeq := ((s.head h).kaSeq + 1) % 256,
                                       kaAt := some (t.now + ((s.head h).laneFree - t.timeNs64 * 1000 + 999) / 1000) })))) ∧
        (laneWait (headLane h s) t ≠ some 0 → exec (.keepaliveSend dt h) s = .next (settle t))) ∧
      (∀ (body : List Byte) (r : HCmdRun) (c : Instr), c ∈ [.headResponse dt h body true, .headTelemetry dt h body true] →
        beAt body 0 1 = 0x82 → frameBroken (headLane h s) (body.length + 6) t = false → (s.head h).run = some r → r.cmd.src = .hcmd →
        beAt body 1 1 = r.seq → (s.head h).queue = [] →
        ∃ u, exec c s = .next (settle u) ∧ (u.head h).run = none ∧
          u.reg Reg.HLINK_HCMD_STATUS = (if beAt body 2 1 = 0 then cmdWord 2 0 r.resends else cmdWord 4 0x81 r.resends) ∧
          u.reg Reg.HLINK_HCMD_RESP = W (beAt body 2 1 + 65536 * ((body.drop 6).take (min 256 (beAt body 4 2))).length) ∧
          u.rb (Reg.evtStatus 0x18) 4 = true) ∧
      (∀ r : HCmdRun, (s.head h).run = some r → r.sentAt + s.rf Reg.HLINK_CMD_TIMEOUT 0 14 * 1000 ≤ t.now →
        (r.resends < 3 → telOk h t = true → ∃ u f, exec (.hlinkCmdTimeout dt h) s = .next (settle u) ∧
          (u.head h).run = some { r with resends := r.resends + 1, sentAt := t.now } ∧ u.sent = .head h f :: s.sent) ∧
        (3 ≤ r.resends → (s.head h).queue = [] → r.cmd.src = .hcmd → ∃ u, exec (.hlinkCmdTimeout dt h) s = .next (settle u) ∧
          (u.head h).run = none ∧ u.reg Reg.HLINK_HCMD_STATUS = cmdWord 4 4 r.resends ∧ u.rb (Reg.evtStatus 0x18) 13 = true ∧
          u.sent = s.sent)) ∧
      (∀ (b : List Byte) (c : Instr), c ∈ [.headResponse dt h b true, .headTelemetry dt h b true] → beAt b 0 1 = 0x81 → b.length = 32 →
        frameBroken (headLane h s) 38 t = false → ∃ u, exec c s = .next (settle u) ∧
        (u.head h).telAt = some t.now ∧ (u.head h).hstate = beAt b 2 1 ∧ (u.head h).port = beAt b 3 1 ∧
        (u.head h).claim = beAt b 4 2 ∧ u.reg (Reg.HEADS_CLAIM h) = W (beAt b 4 2) ∧
        u.reg (Reg.HEADS_TEMP h) = W (beAt b 6 2 + 2147483648) ∧ u.reg (Reg.HEADS_VENDOR h 0) = W (beAt b 0x18 4) ∧
        u.reg (Reg.HEADS_VENDOR h 1) = W (beAt b 0x1C 4) ∧
        ((s.head h).held = true → headUp h s = false → headUp h u = false)) ∧
      (∀ (b : List Byte) (ok : Bool) (c : Instr), c ∈ [.headResponse dt h b ok, .headTelemetry dt h b ok] →
        (ok = false ∨ beAt b 0 1 ∉ [0x81, 0x82] ∨ frameBroken (headLane h s) (b.length + 6) t = true) →
        exec c s = .next (settle (errInc 0x18 1 (raise 0x18 14 (t.setHead h { s.head h with telRun := 0 }))))) ∧
      ((s.head h).telAt ≠ none → telOk h t = false → (s.head h).ready = true → ∃ u, exec (.headlost dt h) s = .next (settle u) ∧
        (u.head h).ready = false ∧ u.rb Reg.HLINK_READY h = false ∧ u.rb (Reg.evtStatus 0x18) 8 = true ∧
        u.rf (Reg.HEADS_STATE h) 0 2 = 0) ∧
      (∀ k, (s.head h).rejoinAt = some k → k + 100000 ≤ t.now → mayRejoin h t = true →
        ∃ u, exec (.rejoinRetry dt h) s = .next (settle u) ∧ (u.head h).rejoinAt = some t.now)) ∧
    (∀ w : Word, Takes q 0x18 s → Ready 0x18 Reg.HLINK_HCMD_STATUS s → fld w 0 5 = h → fld w 16 11 ≤ 1024 → headInUse h s = true →
      s.quiescing 0x19 = false → (s.head h).run = none → (s.head h).queue = [] →
      (telOk h t = true → cmdMayStart h t = false → ∃ u, exec (.hlinkHcmd dt q w) s = .next (settle u) ∧ (u.head h).run = none ∧
        (u.head h).queue = [⟨.hcmd, fld w 8 8, hcmdParams (fld w 16 11) s⟩] ∧ u.sent = s.sent ∧
        u.reg Reg.HLINK_HCMD_STATUS = cmdWord 1 0 0) ∧
      (telOk h t = true → cmdMayStart h t = true → ∃ u f r, exec (.hlinkHcmd dt q w) s = .next (settle u) ∧ (u.head h).run = some r ∧
        r.cmd = ⟨.hcmd, fld w 8 8, hcmdParams (fld w 16 11) s⟩ ∧ r.resends = 0 ∧ r.sentAt = t.now ∧
        u.sent = .head h f :: s.sent ∧ u.reg Reg.HLINK_HCMD_STATUS = cmdWord 1 0 0) ∧
      (telOk h t = false → ∃ u, exec (.hlinkHcmd dt q w) s = .next (settle u) ∧
        u.reg Reg.HLINK_HCMD_STATUS = cmdWord 4 0x80 0 ∧ u.sent = s.sent ∧ (u.head h).queue = [])) ∧
    (∀ w : Word, Takes q 0x18 s → bit w h = true → headInUse h s = true → holdSet h s = false → headUp h s = false →
      ∃ u, exec (.hlinkRejoin dt q w) s = .next (settle u) ∧ (u.head h).rejoinAt = some t.now) ∧
    (∀ w : Word, Takes q 0x19 s → exec (.headsHoldWrite dt q h w) s =
      .next (settle (writeNote q 0 (t.setReg (Reg.HEADS_HOLD h) (w &&& 1)))))

/-- R191, R192, R193, R194, R198, R204, R205, R206: a transition counts one in the direction of the line that changed, an illegal
one counts nothing and makes an encoder with enough of them faulty, and a pulse of a line shorter than its filter does neither;
standstill ends the speed; compare pulses start and end at their instants; a target the stake's position has not moved to by a
forward motion is no hit. -/
def Obligations.EncodersCountAndPulse : Prop :=
  ∀ (dt : Nat) (e : Fin 2) (s t : State), s.released 0x1C = true → t = s.elapse dt →
    (∀ (x : EncSt) (inv : Bool), (x.a = x.b → quadFwd x false inv = !inv ∧ quadFwd x true inv = inv) ∧
      (x.a ≠ x.b → quadFwd x false inv = inv ∧ quadFwd x true inv = !inv)) ∧
    (∀ (lineB : Bool) (ser : Nat), lineOk e lineB t = false → exec (.encTransition dt e lineB ser) s = .next (settle t)) ∧
    ((lineOk e false t = false ∨ lineOk e true t = false) → exec (.encill dt e) s = .next (settle t)) ∧
    (∀ (lineB : Bool) (ser : Nat), lineOk e lineB t = true → ∃ u, exec (.encTransition dt e lineB ser) s = .next (settle u) ∧
      (u.enc e).cnt = wrapN 32 ((s.enc e).cnt + (if quadFwd (s.enc e) lineB (s.rb (Reg.WEB_ENC_CFG e) 1) then 1 else -1)) ∧
      (u.enc e).te = encStamp e t ∧ (u.enc e).a = ((s.enc e).a != !lineB) ∧ (u.enc e).b = ((s.enc e).b != lineB) ∧
      u.enc (1 - e.val) = s.enc (1 - e.val)) ∧
    (∀ n, n = ((t.now :: (s.enc e).ills).filter fun v => t.now - v ≤ s.rf Reg.WEB_FAULT_CFG 16 16 * 1000).length →
      lineOk e false t = true → lineOk e true t = true →
      ∃ u, exec (.encill dt e) s = .next (settle u) ∧ (u.enc e).cnt = (s.enc e).cnt ∧ (u.enc e).valid = false ∧
        (u.enc e).a = !(s.enc e).a ∧ (u.enc e).b = !(s.enc e).b ∧ u.rb (Reg.evtStatus 0x1C) 10 = true ∧
        (u.enc e).faulty = ((s.enc e).faulty || decide (s.rf Reg.WEB_FAULT_CFG 0 8 ≤ n)) ∧
        u.enc (1 - e.val) = s.enc (1 - e.val) ∧
        (e = 0 → (s.enc e).faulty = false → s.rf Reg.WEB_FAULT_CFG 0 8 ≤ n → s.web.src = .enc →
          u.web.src = if s.rb Reg.WEB_CTRL 1 && stakeFresh t then .stakeFb else .none_)) ∧
    ((s.enc e).seen = true → (s.enc e).still = false → s.rf Reg.WEB_STANDSTILL 0 14 * 1000 < t.timeNs64 - (s.enc e).te →
      exec (.standstill dt e) s = .next (settle (raise 0x1C 12
        (t.setEnc e { s.enc e with valid := false, run := 0, times := [], still := true })))) ∧
    (∀ (c : Fin 8) (b f : Nat), (tget Reset.cmp s.web.cmp c).pulse = some (b, f) →
      ((tget Reset.cmp s.web.cmp c).active = false → b ≤ t.timeNs64 → exec (.cmpDelayedPulse dt c) s =
        .next (settle (emit (.cmp c (cmpLevel c true s)) { t with web := { s.web with
          cmp := tset Reset.cmp s.web.cmp c { tget Reset.cmp s.web.cmp c with active := true } } }))) ∧
      ((tget Reset.cmp s.web.cmp c).active = true → f ≤ t.timeNs64 → exec (.cmpPulseEnd dt c) s =
        .next (settle (emit (.cmp c (cmpLevel c false s)) { t with web := { s.web with
          cmp := tset Reset.cmp s.web.cmp c { tget Reset.cmp s.web.cmp c with active := false, pulse := none } } })))) ∧
    (∀ x at_ : Nat, (∀ y, s.web.judged = some y → dpos x y ≤ 0) →
      cmpHitsTo x at_ s = ({ s with web := { s.web with judged := some x } }, []))

/-- R191, R195, R196: an index of ENC0 that falls while FIRE is in RUN or INHIBIT takes the datum and raises IDXSKIP, but reloads
nothing and leaves an ARM_ONCE encoder armed; a reload of ENC1, or of ENC0 in any other state of FIRE, applies; without a reload
mode the encoder stays as it is. An index is taken once its line has been low and then high for a filter length each. -/
def Obligations.AnIndexReloadIsWithheldWhileFireRuns : Prop :=
  ∀ (dt : Nat) (e : Fin 2) (s : State), s.released 0x1C = true →
    (filtered e 2 (s.enc e).iAt (s.elapse dt) = false → exec (.index dt e) s = .next (settle (s.elapse dt))) ∧
    (filtered e 2 (s.enc e).iAt (s.elapse dt) = true →
      (s.rb (Reg.WEB_ENC_CFG e) 2 = false ∨ ((s.enc e).a = true ∧ (s.enc e).b = true)) →
      ∃ u, exec (.index dt e) s = .next (settle u) ∧ u.reg (Reg.WEB_DATUM e) = W (s.enc e).cnt ∧
        u.reg (Reg.WEB_DATUM_T e) = W (encStamp e (s.elapse dt)) ∧ u.reg (Reg.WEB_IDXCNT e) = s.reg (Reg.WEB_IDXCNT e) + 1 ∧
        u.rb (Reg.evtStatus 0x1C) 13 = true ∧
        (s.rf (Reg.WEB_ENC_CFG e) 3 2 = 0 → u.enc e = { s.enc e with iAt := some (s.now + dt) }) ∧
        (∀ m, m = s.rf (Reg.WEB_ENC_CFG e) 3 2 → (m = 1 ∨ (m = 2 ∧ (s.enc e).armed = true)) →
          ((e = 1 ∨ s.fire.st < 2) → (u.enc e).cnt = (s.reg (Reg.WEB_IDX_LOAD e)).toNat) ∧
          (e = 0 → 2 ≤ s.fire.st → u.enc e = { s.enc e with iAt := some (s.now + dt) } ∧ u.rb (Reg.evtStatus 0x1C) 14 = true)))

/-- R195, R201, R202, R204, R208: the commands of WEB: arming, loading, learning the offset, resuming from ENC0, restarting
compare outputs, and the choice of source. Where its parts go beyond the spec's words they are the model's choice, said in log
entries 7, 41 and 101. -/
def Obligations.WebCommandsSetTheSourceAndTheOutputs : Prop :=
  ∀ (dt : Nat) (q : Path) (s t : State), Takes q 0x1C s → t = s.elapse dt →
    (s.quiescing 0x1C = false → s.cmdBusy Reg.WEB_CMD_STATUS = false →
      (exec (.armIndex0 dt q) s = .next (settle (writeNote q 0 (cmdDone 0x1C Reg.WEB_CMD_STATUS
        (t.setEnc 0 { s.web.enc0 with armed := true }))))) ∧
      (exec (.armIndex1 dt q) s = .next (settle (writeNote q 0 (cmdDone 0x1C Reg.WEB_CMD_STATUS
        (t.setEnc 1 { s.web.enc1 with armed := true }))))) ∧
      (∀ e : Fin 2, (e = 1 ∨ s.fire.st < 2) → ∃ u, exec (.load dt q e) s = .next (settle u) ∧
        (u.enc e).cnt = (s.reg Reg.WEB_LOAD_VAL).toNat ∧ (u.enc e).valid = false ∧ u.enc (1 - e.val) = s.enc (1 - e.val) ∧
        u.reg Reg.WEB_CMD_STATUS = cmdWord 2 0 0) ∧
      (2 ≤ s.fire.st → exec (.load dt q 0) s =
        .next (settle (writeNote q 0 (cmdError 0x1C Reg.WEB_CMD_STATUS 0x81 t)))) ∧
      (s.web.enc0.faulty = false → exec (.learnOfs dt q) s = .next (settle (writeNote q 0 (cmdStart Reg.WEB_CMD_STATUS
        { t with web := { s.web with stake := { s.web.stake with learn := some t.now } } })))) ∧
      (s.web.enc0.faulty = true → exec (.learnOfs dt q) s =
        .next (settle (writeNote q 0 (cmdError 0x1C Reg.WEB_CMD_STATUS 0x80 t)))) ∧
      (∃ u, exec (.encResume dt q) s = .next (settle u) ∧ u.web.enc0.faulty = false ∧ u.web.enc0.ills = [] ∧
        u.web.enc1 = s.web.enc1 ∧ u.reg Reg.WEB_CMD_STATUS = cmdWord 2 0 0 ∧
        (s.web.src = .none_ → u.web.src = .enc ∧ u.web.enc0.cnt = s.web.enc0.cnt) ∧
        (s.web.src = .stakeFb → u.web.src = .enc ∧ u.web.enc0.cnt = s.web.stake.xe)) ∧
      (∀ m : BitVec 8, ∃ u, exec (.cmpRestart dt q m) s = .next (settle u) ∧ u.reg Reg.WEB_CMD_STATUS = cmdWord 2 0 0 ∧
        (∀ c < 8, m.getLsbD c = false → tget Reset.cmp u.web.cmp c = tget Reset.cmp s.web.cmp c) ∧
        (∀ c < 8, m.getLsbD c = true → (tget Reset.cmp u.web.cmp c).entry = s.rf (Reg.WEB_CMP_CFG c) 8 9 ∧
          (tget Reset.cmp u.web.cmp c).on = s.rb (Reg.CMP_ENTRY c (s.rf (Reg.WEB_CMP_CFG c) 8 9) 3) 16 ∧
          ((tget Reset.cmp u.web.cmp c).on = true →
            (tget Reset.cmp u.web.cmp c).next = (s.reg (Reg.CMP_ENTRY c (s.rf (Reg.WEB_CMP_CFG c) 8 9) 0)).toNat)))) ∧
    (∀ w : Word,
      ((s.fire.st < 2 ∨ fld w 0 2 = s.rf Reg.WEB_CTRL 0 2) → ∃ u, exec (.webSrcWrite dt q w) s = .next (settle u) ∧
        u.reg Reg.WEB_CTRL = w &&& W 0x3F3F0F ∧ u.web.enc0 = s.web.enc0 ∧ u.web.enc1 = s.web.enc1 ∧
        (bit w 0 = true → s.rb Reg.WEB_CTRL 0 = false → u.web.src = if stakeFresh t then .stake else .noneS) ∧
        (bit w 0 = false → s.rb Reg.WEB_CTRL 0 = true → s.web.enc0.faulty = false → u.web.src = .enc)) ∧
      (2 ≤ s.fire.st → fld w 0 2 ≠ s.rf Reg.WEB_CTRL 0 2 →
        exec (.webSrcWrite dt q w) s = .next (settle (writeNote q 0 (config 0x1C t)))))

/-- R201, R202, R208: a stake word leaves at its period; a word received is taken with its sequence, its position and its time, or
dropped with its error, its T_EDGE read nearest to the present TIME; one that arrives within WEB_STAKE_FRESH of LEARN_OFS sets
WEB_STAKE_OFS, and a later one leaves it; a stake that ages past WEB_STAKE_FRESH is stale. Where its parts go beyond the spec's
words they are the model's choice, said in log entries 34, 41 and 81. -/
def Obligations.StakeWordsAreSentTakenAndAge : Prop :=
  ∀ (dt : Nat) (s t : State), t = s.elapse dt → s.enabled 0x1C = true →
    (chainOn s = true → s.rb Reg.WEB_CTRL 3 = true → s.web.stake.txAt + s.rf Reg.WEB_STAKE_PERIOD 0 7 * 1000 ≤ t.now →
      ∃ u, exec (.stakeSend dt) s = .next (settle u) ∧ u.reg Reg.WEB_STAKE_TX = s.reg Reg.WEB_STAKE_TX + 1 ∧
        u.web = { s.web with stake := { s.web.stake with txSeq := (s.web.stake.txSeq + 1) % 256, txAt := t.now } }) ∧
    (∀ w : List Byte, s.enabled 0x40 = true → s.rb Reg.WEB_CTRL 2 = true → w.length = 18 →
      (stakeWordOk w s = false → exec (.stakeReceive dt w) s = .next (settle (errInc 0x1C 2 (raise 0x1C 17
        (stat 0x40 Reg.CHAIN_RX_FRAMES 1 t))))) ∧
      (stakeWordOk w s = true → bit (W (beAt w 1 1)) 0 = false →
        ∃ u, exec (.stakeReceive dt w) s = .next (settle u) ∧ u.reg Reg.WEB_STAKE_RX = s.reg Reg.WEB_STAKE_RX + 1 ∧
          u.web.stake.seq = some (beAt w 3 1) ∧ u.web.stake.at_ = some t.now ∧ u.web.stake.stale = false ∧
          u.web.stake.xe = (beAt w 4 4 + (u.reg Reg.WEB_STAKE_OFS).toNat) % 2 ^ 32 ∧ u.web.stake.tCount = beAt w 12 4 ∧
          u.web.stake.te = t.timeNs64 + dpos (beAt w 8 4) t.timeNs ∧
          (s.web.stake.learn = none → u.reg Reg.WEB_STAKE_OFS = s.reg Reg.WEB_STAKE_OFS) ∧
          (∀ l, s.web.stake.learn = some l → s.rf Reg.WEB_STAKE_FRESH 0 10 * 1000 + l < t.now → u.web.stake.learn = none ∧
            u.reg Reg.WEB_STAKE_OFS = s.reg Reg.WEB_STAKE_OFS ∧ u.reg Reg.WEB_CMD_STATUS = cmdWord 4 0x80 0) ∧
          (∀ l, s.web.stake.learn = some l → t.now ≤ s.rf Reg.WEB_STAKE_FRESH 0 10 * 1000 + l → s.web.enc0.faulty = false →
            u.web.stake.learn = none ∧ u.reg Reg.WEB_STAKE_OFS = W (wrapN 32 (posAt u.web.stake.te t - (beAt w 4 4 : Int))) ∧
            u.reg Reg.WEB_CMD_STATUS = cmdWord 2 0 0 ∧ u.reg Reg.WEB_STAKE_DIFF = 0))) ∧
    (∀ a, s.web.stake.at_ = some a → s.web.stake.stale = false → a + s.rf Reg.WEB_STAKE_FRESH 0 10 * 1000 < t.now →
      ∃ u, exec (.stakestale dt) s = .next (settle u) ∧ u.rb (Reg.evtStatus 0x1C) 15 = true ∧ u.web.stake.stale = true ∧
        (s.web.src = .enc → u.web.src = .enc) ∧ (s.web.src = .stakeFb → u.web.src = .none_) ∧
        (s.web.src = .stake → u.web.src = .noneS))

/-- R209, R211, R212, R217, R230: a frame start inside its window is accepted with the window's stamp, one outside every window is
skipped; a packet with a wrong header, or of another channel or type, is counted and not taken; a line adds one row; the frame end
posts the statistics; a window that closes unused is missing; a trigger hit opens its window once its instant is past, so that a
frame start at that very instant is judged by the window before. Where its parts go beyond the spec's words they are the model's
choice, said in log entries 42, 74 and 79. -/
def Obligations.CameraFramesAreAcceptedSkippedOrMissing : Prop :=
  ∀ (dt : Nat) (p : Fin 4) (s t : State), t = s.elapse dt → camOn p s = true → camHeld p s = false →
    s.shadowPending (camPage p) = false → s.shadowPending 0x24 = false → s.shadowPending 0x25 = false →
    (∀ w, (s.cam p).win = none → (s.cam p).hits = [w] →
      (w.at_ < t.now → ((camArrive t).cam p).win = some w ∧ ((camArrive t).cam p).hits = []) ∧
      (t.now ≤ w.at_ → ((camArrive t).cam p).win = none ∧ ((camArrive t).cam p).hits = [w])) ∧
    ((∀ e ∈ s.cams, ∀ w ∈ e.2.hits, t.now ≤ w.at_) →
    (∀ (num : BitVec 16) (w : CamWin), (s.cam p).cur = none → (s.cam p).win = some w → w.opens ≤ t.now → t.now ≤ w.closes →
      ∃ u f, exec (.camFrameStart dt p num) s = .next (settle u) ∧ (u.cam p).cur = some f ∧ (u.cam p).win = none ∧
        f.idx = (nextIdx (s.lb (Reg.CAM_CTRL p) 3) (s.cam p) num.toNat).1 ∧ f.x = w.x ∧ f.trig = w.t ∧ f.rows = [] ∧
        f.width = s.lf (Reg.CAM_SIZE p) 0 14 ∧ f.height = s.lf (Reg.CAM_SIZE p) 16 13 ∧ (u.cam p).bad = 0 ∧
        u.reg (Reg.CAM_FNUM p) = W num.toNat ∧ u.reg (Reg.CAM_FRAMES p) = s.reg (Reg.CAM_FRAMES p) + 1) ∧
    (∀ num : BitVec 16, (s.cam p).cur = none → (s.cam p).win = none →
      ∃ u, exec (.camFrameStart dt p num) s = .next (settle u) ∧ (u.cam p).cur = none ∧ (u.cam p).skipping = true ∧
        (u.cam p).bad = (s.cam p).bad + 1 ∧ u.rb (Reg.evtStatus (camPage p)) 8 = true ∧
        u.reg (Reg.CAM_FRAMES p) = s.reg (Reg.CAM_FRAMES p)) ∧
    (∀ (vc : BitVec 4) (ty : BitVec 6) (px : List (BitVec 12)) (ok bad : Bool) (ovr : Option Nat) (fixed : Nat),
      (exec (.camLine dt p false vc ty px ok ovr bad fixed) s = .next (settle (errInc (camPage p) 3 t))) ∧
      ((vc.toNat ≠ s.lf (Reg.CAM_CTRL p) 4 4 ∨ ty.toNat ≠ fmtType (s.lf (Reg.CAM_CTRL p) 8 2)) →
        exec (.camLine dt p true vc ty px ok ovr bad fixed) s = .next (settle (stat (camPage p) (Reg.CAM_OTHER p) 1 t))) ∧
      (∀ f, vc.toNat = s.lf (Reg.CAM_CTRL p) 4 4 → ty.toNat = fmtType (s.lf (Reg.CAM_CTRL p) 8 2) → (s.cam p).cur = some f →
        f.rows.length < f.height → ∃ u g r, exec (.camLine dt p true vc ty px ok ovr bad fixed) s = .next (settle u) ∧
          (u.cam p).cur = some g ∧ g.rows = f.rows ++ [r] ∧ g.idx = f.idx ∧
          r.valid = (if ok then min (ovr.getD px.length) (min px.length f.width) else 0) ∧
          r.flagged = (!ok || decide (px.length ≠ f.width) || ovr.isSome) ∧
          (r.flagged = true → u.rb (Reg.evtStatus (camPage p)) 12 = true) ∧ (u.cam p).frames = (s.cam p).frames)) ∧
    (∀ f, (s.cam p).cur = some f → ∃ u, exec (.camFrameEnd dt p) s = .next (settle u) ∧ (u.cam p).cur = none ∧
      at' 0 (u.cam p).stats 0 = W f.idx ∧ at' 0 (u.cam p).stats 1 = W f.trig ∧ at' 0 (u.cam p).stats 5 = W f.dyn ∧
      (f.rows.length < f.height → u.rb (Reg.evtStatus (camPage p)) 13 = true)) ∧
    (∀ w, (s.cam p).win = some w → w.closes < t.now → ∃ u, exec (.framemiss dt p) s = .next (settle u) ∧
      (u.cam p).win = none ∧ (u.cam p).bad = (s.cam p).bad + 1 ∧ u.rb (Reg.evtStatus (camPage p)) 9 = true))

/-- R119, R137, R213, R214, R215, R222, R227, R231, R232: the CCI commands start, and end DONE, NAK or TIMEOUT with what they
read; a list ends at its first entry with LAST. COPY_LIVE of the camera tables starts with its ports; the next line every port has
seen is read for inspection; its return inspects the line with the levels it holds, a ZERO line with none, and skips a line whose
tag is gone or that no camera covers; while DRAM is out of service it waits; the oldest report is removed. Where its parts go
beyond the spec's words they are the model's choice, said in log entries 7, 29, 30 and 102. -/
def Obligations.CciListsCopiesAndInspectionReads : Prop :=
  ∀ (dt : Nat) (q : Path) (p : Fin 4) (s t : State), t = s.elapse dt →
    (Takes q (camPage p) s → Ready (camPage p) (Reg.CAM_CCI_STATUS p) s →
      (∀ id : Byte, exec (.queueFs dt q p id) s = .next (settle (writeNote q 0 (cmdStart (Reg.CAM_CCI_STATUS p)
        (t.setCam p { s.cam p with cci := some ⟨1, id.toNat, false, t.now⟩ }))))) ∧
      (exec (.runNow dt q p) s = .next (settle (writeNote q 0 (cmdStart (Reg.CAM_CCI_STATUS p)
        (t.setCam p { s.cam p with cci := some ⟨2, 0, true, t.now⟩ }))))) ∧
      (∀ r : BitVec 16, exec (.cciRead dt q p r) s = .next (settle (writeNote q 0 (cmdStart (Reg.CAM_CCI_STATUS p)
        (t.setCam p { s.cam p with cci := some ⟨3, r.toNat, true, t.now⟩ })))))) ∧
    (∀ (n : Fin 33) (r : CciRun), s.released (camPage p) = true → (s.cam p).cci = some r → r.started = true →
      (∀ v : Byte, r.op = 3 → ∃ u, exec (.cciListDone dt p n (.ok v)) s = .next (settle u) ∧ (u.cam p).cci = none ∧
        u.reg (Reg.CAM_CCI_RDATA p) = W v.toNat ∧ u.reg (Reg.CAM_CCI_STATUS p) = cmdWord 2 0 0 ∧
        u.rb (Reg.evtStatus (camPage p)) 4 = true) ∧
      (∀ v : Byte, r.op ≠ 3 → ∃ u o, exec (.cciListDone dt p n (.ok v)) s = .next (settle u) ∧ (u.cam p).cci = none ∧
        u.reg (Reg.CAM_CCI_STATUS p) = cmdWord 2 0 (cciLen p s) ∧ u.sent = o ++ s.sent ∧ o.length = cciLen p s ∧
        u.reg (Reg.CAM_CCI_RDATA p) = s.reg (Reg.CAM_CCI_RDATA p) ∧ (r.op = 1 → (u.cam p).failed = false)) ∧
      (∃ u, exec (.cciListDone dt p n .nak) s = .next (settle u) ∧ (u.cam p).cci = none ∧ (u.cam p).failed = true ∧
        u.reg (Reg.CAM_CCI_STATUS p) = cmdWord 4 0x80 (if r.op = 3 then 0 else min n (cciLen p s - 1)) ∧ u.rb (Reg.evtStatus (camPage p)) 14 = true) ∧
      (∃ u, exec (.cciListDone dt p n .stretch) s = .next (settle u) ∧ (u.cam p).cci = none ∧ (u.cam p).failed = true ∧
        u.reg (Reg.CAM_CCI_STATUS p) = cmdWord 4 4 (if r.op = 3 then 0 else min n (cciLen p s - 1)))) ∧
    (∀ m : BitVec 4, Takes q 0x24 s → s.quiescing 0x24 = false → s.cmdBusy Reg.ISP_CMD_STATUS = false →
      s.shadowPending 0x24 = false → exec (.ispCopyLive dt q m) s = .next (settle (writeNote q 0 (cmdStart Reg.ISP_CMD_STATUS
        { t with insp := { s.insp with mask := m.toNat } })))) ∧
    (∀ k, inspOn s = true → camPorts s ≠ [] → s.insp.next = k → k < s.fire.nextRead →
      (∀ r ∈ camPorts s, sight r k s ≠ .wait) → (∃ r ∈ camPorts s, sight r k s ≠ .skip) →
      ∃ u, exec (.inspectRead dt) s = .next (settle u) ∧ u.insp.next = k + 1 ∧ u.insp.reads = s.insp.reads ++ [k]) ∧
    (∀ (k : Nat) (l : List Nat), s.insp.reads = k :: l → dramReady s = true → (∃ r ∈ camPorts s, sight r k s ≠ .skip) →
      tagOf k s = none → ∃ u, exec (.inspectReadDone dt) s = .next (settle u) ∧ u.insp.reads = l ∧
        u.reg Reg.INSPECT_SKIP_TAG = s.reg Reg.INSPECT_SKIP_TAG + 1) ∧
    (∀ (k : Nat) (l : List Nat) (g : Tag) (ls : List Nat), s.insp.reads = k :: l → dramReady s = true →
      (∃ r ∈ camPorts s, sight r k s ≠ .skip) → tagOf k s = some g → g.part = false → g.map = mapStamp s →
      (g.zero = true ∨ s.dramBad (lineAddr k s) (lineBytes s) = false) →
      ls = (if g.zero then [] else (List.range (nozzles s)).map fun i => levelIn (s.dramRead (lineAddr k s) (lineBytes s)) i) →
      ∃ u, exec (.inspectReadDone dt) s = .next (settle u) ∧ u.insp.reads = l ∧ ⟨k, true, ls⟩ ∈ u.insp.lines ∧
        tagOf k u = some { g with inspected := true } ∧ u.reg Reg.INSPECT_LINES = s.reg Reg.INSPECT_LINES + 1) ∧
    (∀ k l, s.insp.reads = k :: l → dramReady s = true → (∀ r ∈ camPorts s, sight r k s = .skip) →
      ∃ u, exec (.inspectReadDone dt) s = .next (settle u) ∧ u.insp.reads = l ∧ ⟨k, false, []⟩ ∈ u.insp.lines ∧
        u.reg Reg.INSPECT_LINES = s.reg Reg.INSPECT_LINES) ∧
    ((s.insp.reads = [] ∨ dramReady s = false) → exec (.inspectReadDone dt) s = .next (settle t)) ∧
    (∀ w : Word, Takes q 0x25 s → bit w 0 = true → exec (.inspectDefPop dt q w) s = .next (settle (writeNote q 0
      { t with insp := { s.insp with reports := s.insp.reports.drop 1 } })))

/-- R197, R234, R236, R238, R245, R246, R247, R248, R249: windows close and are counted, the lease is renewed or runs out, and the
commands of Traverse freeze, thaw, reset, unmark, mark a splice and send the sub-delays again, each with what it changes; a resync
waits for the lease and PLACE_APPLY, and a splice edge is taken where its filter accepts it. Where its parts go beyond the spec's
words they are the model's choice, said in log entries 43 and 100. -/
def Obligations.TraverseClosesWindowsAndTakesCommands : Prop :=
  ∀ (dt : Nat) (q : Path) (s t : State) (span : Nat × Nat), t = s.elapse dt →
    span = (wrapN 32 ((((srcX s + (s.reg Reg.TRAV_SPLICE_OFS).toNat) % 2 ^ 32 : Nat) : Int) - s.rf Reg.TRAV_SPLICE_SPAN 0 16),
      ((srcX s + (s.reg Reg.TRAV_SPLICE_OFS).toNat) % 2 ^ 32 + s.rf Reg.TRAV_SPLICE_SPAN 16 16) % 2 ^ 32) →
    (∀ (bad : List Nat) (w : Nat), estOn s = true → s.quiescing 0x28 = false → s.shadowPending 0x28 = false → s.trav.win = some w →
      w + winLines s ≤ s.trav.next → ∃ u, exec (.travWindowClose dt bad) s = .next (settle u) ∧
        u.trav.win = some (w + winLines s) ∧ u.trav.winNo = (s.trav.winNo + 1) % 65536 ∧
        u.reg Reg.TRAV_WINDOWS = s.reg Reg.TRAV_WINDOWS + 1 ∧ u.rb (Reg.evtStatus 0x28) 8 = true) ∧
    (s.released 0x28 = true → s.trav.lease = true → s.trav.leaseAt + s.rf Reg.TRAV_LEASE_TIME 0 10 * 1000000 ≤ t.now →
      exec (.leaselost dt) s = .next (settle (raise 0x28 12 { t with trav := { s.trav with lease := false } }))) ∧
    (Takes q 0x28 s →
      (∀ w : Word, ∃ u, exec (.travLease dt q w) s = .next (settle u) ∧ u.trav.lease = true ∧ u.trav.leaseAt = t.now) ∧
      (Ready 0x28 Reg.TRAV_CMD_STATUS s →
        (exec (.freeze dt q) s = .next (settle (writeNote q 0 (cmdDone 0x28 Reg.TRAV_CMD_STATUS
          { t with trav := { s.trav with frozen := true } })))) ∧
        (exec (.thaw dt q) s = .next (settle (writeNote q 0 (cmdDone 0x28 Reg.TRAV_CMD_STATUS
          { t with trav := { s.trav with frozen := false } })))) ∧
        (s.rf Reg.TRAV_CMD_FIRST 0 17 + s.rf Reg.TRAV_CMD_COUNT 0 18 ≤ 131072 →
          (∃ u, exec (.resetState dt q) s = .next (settle u) ∧ u.reg Reg.TRAV_CMD_STATUS = cmdWord 2 0 0 ∧
            (∀ n, s.rf Reg.TRAV_CMD_FIRST 0 17 ≤ n → n < s.rf Reg.TRAV_CMD_FIRST 0 17 + s.rf Reg.TRAV_CMD_COUNT 0 18 →
              noCal n s = false → (u.noz n).st = 1 ∧ (u.noz n).prevG = none ∧ (u.noz n).prevD = none ∧ (u.noz n).fail = 0)) ∧
          (s.rb Reg.MAP_TRIM_CTRL 0 = false →
            ∃ u, exec (.unmiss dt q) s = .next (settle u) ∧ u.reg Reg.TRAV_CMD_STATUS = cmdWord 2 0 0 ∧
            (∀ n, s.rf Reg.TRAV_CMD_FIRST 0 17 ≤ n → n < s.rf Reg.TRAV_CMD_FIRST 0 17 + s.rf Reg.TRAV_CMD_COUNT 0 18 →
              noCal n s = false → (s.noz n).st = 4 → (u.noz n).st = 3 ∧ (u.noz n).trimWait = true ∧ (u.noz n).mark = false ∧
              bit (mget noTrim u.map.trimStaged n) 16 = false))) ∧
        (131072 < s.rf Reg.TRAV_CMD_FIRST 0 17 + s.rf Reg.TRAV_CMD_COUNT 0 18 →
          exec (.resetState dt q) s = .next (settle (writeNote q 0 (cmdError 0x28 Reg.TRAV_CMD_STATUS 1 t)))) ∧
        (s.trav.splices = [] → ∃ u, exec (.splice dt (some q)) s = .next (settle u) ∧ u.trav.splices = [span] ∧
          u.reg Reg.TRAV_CMD_STATUS = cmdWord 2 0 0 ∧ u.rb (Reg.evtStatus 0x28) 14 = true) ∧
        (∀ h : Fin 32, ((s.head h).ready = true → mayApply true s = true → ∃ u, exec (.resyncSub dt q h) s = .next (settle u) ∧
            ⟨h, (headCount h s + 2039) / 2040, true, true⟩ ∈ u.trav.syncs ∧ u.reg Reg.TRAV_CMD_STATUS = cmdWord 1 0 0) ∧
          ((s.head h).ready = true → mayApply true s = false → exec (.resyncSub dt q h) s = .next (settle (writeNote q 0
            (cmdStart Reg.TRAV_CMD_STATUS { t with trav := { s.trav with resync := some h } })))) ∧
          ((s.head h).ready = false → exec (.resyncSub dt q h) s =
            .next (settle (writeNote q 0 (cmdError 0x28 Reg.TRAV_CMD_STATUS 0x81 t)))))) ∧
      (∀ w : Word, s.lb Reg.TRAV_CTRL 2 = false → ∃ u, exec (.travSubDataWrite dt q w) s = .next (settle u) ∧
        u.noz (s.rf Reg.TRAV_NOZ_ADDR 0 17) = { s.noz (s.rf Reg.TRAV_NOZ_ADDR 0 17) with sub := fld w 0 4 } ∧
        (∀ n, n ≠ s.rf Reg.TRAV_NOZ_ADDR 0 17 → u.noz n = s.noz n) ∧
        (∀ h, headOf (s.rf Reg.TRAV_NOZ_ADDR 0 17) s = some h → u.rb Reg.TRAV_SUBSYNC h = false) ∧
        u.rf Reg.TRAV_NOZ_ADDR 0 17 = (s.rf Reg.TRAV_NOZ_ADDR 0 17 + 1) % 131072)) ∧
    (filtered 0 2 s.web.spliceAt t = false → exec (.splice dt none) s = .next (settle t)) ∧
    (s.enabled 0x28 = true → filtered 0 2 s.web.spliceAt t = true →
      (s.lb Reg.TRAV_CTRL 4 = false → exec (.splice dt none) s =
        .next (settle { t with web := { s.web with spliceAt := some t.now } })) ∧
      (s.lb Reg.TRAV_CTRL 4 = true → s.trav.splices = [] → ∃ u, exec (.splice dt none) s = .next (settle u) ∧
        u.trav.splices = [span] ∧ u.web.spliceAt = some t.now ∧ u.rb (Reg.evtStatus 0x28) 14 = true)) ∧
    (Reads q 0x28 s →
      (exec (.travSubDataRead dt q) s = .next (settle (pathNote q 0 [W (s.noz (s.rf Reg.TRAV_NOZ_ADDR 0 17)).sub] (nozNext t)))) ∧
      (exec (.travNozEstRead dt q) s = .next (settle (pathNote q 0 [W ((s.noz (s.rf Reg.TRAV_NOZ_ADDR 0 17)).lastG % 65536 +
        65536 * wrapN 16 (s.noz (s.rf Reg.TRAV_NOZ_ADDR 0 17)).lastD)] (nozNext t)))))

/-- R11, R250, R251, R252, R256, R257, R258, R264, R265: a PLL locks, or falls with its lanes; the reference is lost and returns;
LANE_CFG is taken whole or refused with CONFIG, a reserved ROLE keeps the role; EI_REQ puts a transmitter into electrical idle
once it has sent its frame, lets it out, and is ignored with CONFIG on a HEADLINK or ETH lane; LOOP belongs to the TEST role;
ERR_INJ flips one bit sent. Where its parts go beyond the spec's words they are the model's choice, said in log entries 14 and 44.
-/
def Obligations.LaneQuadsAndTransmittersFollowTheirControls : Prop :=
  ∀ (dt : Nat) (s t : State), t = s.elapse dt →
    (∀ q : Fin 12, s.released (0x30 + q.val) = true →
      (∀ j : Fin 2, s.rb (Reg.LANEQ_PLL q j) 0 = true → s.rb (Reg.LANEQ_STATUS q) 0 = true → s.rb (Reg.LANEQ_STATUS q) (1 + j) = false →
        ∃ u, exec (.pllLock dt q j) s = .next (settle u) ∧ u.rb (Reg.LANEQ_STATUS q) (1 + j) = true ∧
          (∀ a, a ≠ Reg.LANEQ_STATUS q → u.reg a = s.reg a)) ∧
      (∀ j : Fin 2, s.rb (Reg.LANEQ_STATUS q) (1 + j) = true → ∃ u, exec (.pllunlock dt q j) s = .next (settle u) ∧
        u.rb (Reg.LANEQ_STATUS q) (1 + j) = false ∧ u.rb (Reg.evtStatus (0x30 + q.val)) 13 = true ∧
        (∀ i < 4, laneRole (4 * q + i) s ≠ 0 → s.rf (Reg.LANE_CFG (4 * q + i)) 3 1 = j →
          (u.lane (4 * q + i)).idle = true ∧ (u.lane (4 * q + i)).rx = if laneRole (4 * q + i) s = 4 then 0 else 1)) ∧
      (s.rb (Reg.LANEQ_STATUS q) 0 = true → ∃ u, exec (.reflost dt q) s = .next (settle u) ∧
        u.rf (Reg.LANEQ_STATUS q) 0 3 = 0 ∧ u.rb (Reg.evtStatus (0x30 + q.val)) 12 = true) ∧
      (exec (.refclkReturn dt q) s = .next (settle (t.setB (Reg.LANEQ_STATUS q) 0 true)))) ∧
    (∀ (p : Path) (l : Fin 48), Takes p (lanePage l) s →
      (∀ w : Word, fld w 0 3 ≤ 5 → (laneCfgOk l (w &&& 0x333F) s = true → ∃ u, exec (.laneCfgWrite dt p l w) s = .next (settle u) ∧
          u.reg (Reg.LANE_CFG l) = w &&& 0x333F ∧ (fld w 0 3 = 0 → (u.lane l).rx = 0 ∧ (u.lane l).idle = true) ∧
          (fld w 0 3 ≠ 5 → u.reg (Reg.LANE_CTRL l) = s.reg (Reg.LANE_CTRL l) &&& 1)) ∧
        (laneCfgOk l (w &&& 0x333F) s = false →
          exec (.laneCfgWrite dt p l w) s = .next (settle (writeNote p 0 (config (lanePage l) t))))) ∧
      (∀ w v : Word, 5 < fld w 0 3 → v = put (w &&& 0x333F) 0 3 (laneRole l s) → laneCfgOk l v s = true →
        ∃ u, exec (.laneCfgWrite dt p l w) s = .next (settle u) ∧ u.reg (Reg.LANE_CFG l) = v ∧
          u.rb (Reg.evtStatus (lanePage l)) 0 = true) ∧
      (laneRole l s = 5 ∨ ((laneRole l s = 2 ∨ laneRole l s = 3) ∧ s.rf (Reg.LANE_CTRL l) 1 5 = 0) →
        (∃ u, exec (.eiEntry dt p l) s = .next (settle u) ∧ u.rb (Reg.LANE_CTRL l) 0 = true ∧
          (u.lane l).idle = (decide (laneRole l s = 5) || !laneSending l t || !lanePllLock l s) ∧ (u.lane l).rx = (s.lane l).rx) ∧
        (∃ u, exec (.eiExit dt p l) s = .next (settle u) ∧ u.rb (Reg.LANE_CTRL l) 0 = false ∧
          (laneRole l s ≠ 5 → (u.lane l).idle = !lanePllLock l s)) ∧
        (∃ u, exec (.errInj dt p l) s = .next (settle u) ∧ u.sent = .bitFlip l :: s.sent ∧
          (∀ a, a ∉ [Reg.LANE_CTRL l, Reg.LANE_PRBS_BITS l, Reg.LANE_PRBS_BITS l + 4] → a ∉ evtRegs (lanePage l) →
            u.reg a = s.reg a))) ∧
      ((laneRole l s = 1 ∨ laneRole l s = 4) → s.rf (Reg.LANE_CTRL l) 1 5 = 0 → ∀ c ∈ [Instr.eiEntry dt p l, .eiExit dt p l],
        ∃ u, exec c s = .next (settle u) ∧ u.rb (Reg.LANE_CTRL l) 0 = s.rb (Reg.LANE_CTRL l) 0 ∧
          u.rb (Reg.evtStatus (lanePage l)) 0 = true) ∧
      (∀ k : BitVec 3, laneRole l s = 5 → k.toNat ≤ 3 → ∃ u, exec (.loopSet dt p l k) s = .next (settle u) ∧
        u.rf (Reg.LANE_CTRL l) 1 3 = k.toNat ∧ (k.toNat ≠ s.rf (Reg.LANE_CTRL l) 1 3 → (u.lane l).rx = 1)) ∧
      (∀ k : BitVec 3, laneRole l s ≠ 5 → k.toNat ≠ 0 →
        exec (.loopSet dt p l k) s = .next (settle (writeNote p 0 (config (lanePage l) t)))))

/-- R256, R259, R260, R261, R262, R265: a receiver's states from SQUELCHED over HUNT to LOCKED and back, its lock losses and
invalid symbols, the elastic buffer and its SKIPs, adaptation, the eye sweep at the end of its period (its estimate, its agreement
or the failure of a sweep in which nothing passes), and the PRBS checker's lock, errors and loss. Where its parts go beyond the
spec's words they are the model's choice, said in log entries 44, 79, 86 and 106. -/
def Obligations.LaneReceiversHuntLockAndCount : Prop :=
  ∀ (dt : Nat) (l : Fin 48) (s t : State), t = s.elapse dt → s.released (lanePage l) = true →
    (laneRole l s ≠ 0 → (s.lane l).rx = 1 → ∃ u, exec (.laneSignalDetect dt l) s = .next (settle u) ∧ (u.lane l).rx = 2 ∧
      (u.lane l).signal = true ∧ u.words = s.words) ∧
    ((s.lane l).rx ≠ 3 → exec (.squelch dt l) s = .next (settle (t.setLane l
      { s.lane l with rx := if (s.lane l).rx = 2 then 1 else (s.lane l).rx, signal := false }))) ∧
    ((s.lane l).rx = 2 → ∃ u, exec (.lockup dt l) s = .next (settle u) ∧ (u.lane l).rx = 3 ∧ (u.lane l).fill = 8 ∧
      u.rb (Reg.evtStatus (lanePage l)) 8 = true) ∧
    (∀ (sq : Bool) (r : LaneRx), (s.lane l).rx = 3 → (sq = true ∨ 4 ≤ r.bad) → s.rf (Reg.LANE_LOCKLOSS l) 0 16 < 0xFFFF →
      ∃ u, exec (.locklost dt l sq r) s = .next (settle u) ∧ (u.lane l).rx = (if sq then 1 else 2) ∧
        (sq = true → (u.lane l).signal = false) ∧ u.reg (Reg.LANE_LOCKLOSS l) = W (s.rf (Reg.LANE_LOCKLOSS l) 0 16 + 1) ∧
        u.rb (Reg.evtStatus (lanePage l)) 9 = true ∧
        (s.rf (Reg.LANE_SYMERR l) 0 16 + r.bad < 0xFFFF → u.rf (Reg.LANE_SYMERR l) 0 16 = s.rf (Reg.LANE_SYMERR l) 0 16 + r.bad)) ∧
    (∀ r : LaneRx, (s.lane l).rx = 3 → ∃ u, exec (.eiReceived dt ⟨l, r⟩) s = .next (settle u) ∧ (u.lane l).rx = 1 ∧
      (u.lane l).signal = false ∧ u.reg (Reg.LANE_LOCKLOSS l) = s.reg (Reg.LANE_LOCKLOSS l) ∧
      (s.rf (Reg.LANE_SYMERR l) 0 16 + r.bad < 0xFFFF → u.rf (Reg.LANE_SYMERR l) 0 16 = s.rf (Reg.LANE_SYMERR l) 0 16 + r.bad)) ∧
    (∀ r : LaneRx, (s.lane l).rx = 3 → ∃ u, exec (.elasterr dt l r.bad r.drift) s = .next (settle u) ∧ (u.lane l).rx = 3 ∧
      (u.lane l).fill = 8 ∧ (u.lane l).errAt = some t.now ∧ u.rb (Reg.evtStatus (lanePage l)) 11 = true) ∧
    (∀ d f : Int, f = (s.lane l).fill + d → 0 ≤ f → f ≤ 16 →
      (9 < f → (elastSkip l d s).reg (Reg.LANE_SKIP_DEL l) = s.reg (Reg.LANE_SKIP_DEL l) + 1 ∧
        (((elastSkip l d s).lane l).fill : Int) = f - 1) ∧
      (f < 7 → (elastSkip l d s).reg (Reg.LANE_SKIP_INS l) = s.reg (Reg.LANE_SKIP_INS l) + 1 ∧
        (((elastSkip l d s).lane l).fill : Int) = f + 1) ∧
      (7 ≤ f → f ≤ 9 → elastSkip l d s = s.setLane l { s.lane l with fill := f.toNat })) ∧
    (∀ (pass : BitVec 64) (r : LaneRx) (c : BitVec 4) (f : BitVec 30), laneLock l s = true →
      ∃ u, exec (.eyeSweep dt l pass r c f) s = .next (settle u) ∧
        (s.rb (Reg.LANE_RXEQ l) 4 = true → (u.lane l).ctle = c.toNat) ∧ (s.rb (Reg.LANE_RXEQ l) 5 = true → (u.lane l).dfe = f.toNat) ∧
        ((s.rb (Reg.LANE_RXEQ l) 6 = false ∨ t.now < (s.lane l).eyeAt + s.rf Reg.LANE_EYE_CFG 0 10 * 1000) →
          (u.lane l).prev = (s.lane l).prev ∧ (u.lane l).fail = (s.lane l).fail ∧ (u.lane l).phase = (s.lane l).phase) ∧
        (s.rb (Reg.LANE_RXEQ l) 6 = true → (s.lane l).eyeAt + s.rf Reg.LANE_EYE_CFG 0 10 * 1000 ≤ t.now →
          (∀ i n m k : Nat, circularRuns (toBits 64 pass.toNat) = [(i, n)] → m = (2 * i + n - 1) % 128 → (s.lane l).prev = some k →
            (circ 7 m k).natAbs ≤ 2 * s.rf Reg.LANE_EYE_CFG 16 4 → (u.lane l).prev = some m ∧ (u.lane l).fail = 0 ∧ (u.lane l).width = n) ∧
          (pass = 0 → (u.lane l).prev = (s.lane l).prev ∧ (u.lane l).fail = (s.lane l).fail + 1 ∧ (u.lane l).width = 0 ∧
            ((s.lane l).fail = 15 → u.rb (Reg.evtStatus (lanePage l)) 10 = true)))) ∧
    (prbsChecks l s = true →
      ((s.lane l).prbs = false →
        exec (.prbsLock dt l) s = .next (settle (t.setLane l { s.lane l with prbs := true, prbsAt := t.now }))) ∧
      ((s.lane l).prbs = true → exec (.prbsLock dt l) s = .next (settle t)) ∧
      (∀ e worst : Nat, (s.lane l).prbs = true → ∃ u, exec (.prbserr dt l e worst) s = .next (settle u) ∧
        (u.lane l).prbs = decide (worst ≤ 32) ∧ u.reg (Reg.LANE_PRBS_ERR l) = s.reg (Reg.LANE_PRBS_ERR l) + W e ∧
        (32 < worst → u.rb (Reg.evtStatus (lanePage l)) 14 = true)))

/-- R271, R272, R273, R274, R275, R277: what a port stripes over its lanes is realigned to the frame; a frame for this node whose
CRC-32 and header are right is delivered and counted, one for another node goes on by its route; one with a wrong CRC-32, or that
cannot be realigned, is dropped and counted; the end of a transmission frees its port, and a free port starts its next frame;
KEEPs are sent and received, and a watched node that falls silent is lost; EVENT frames reach the log; an unexpected REGRSP
counts. Where its parts go beyond the spec's words they are the model's choice, said in log entries 34, 35, 36 and 92. -/
def Obligations.ChainFramesAreCheckedDeliveredAndKept : Prop :=
  ∀ (dt : Nat) (s t : State), t = s.elapse dt → s.enabled 0x40 = true →
    (∀ (n : Nat) (fr : List Byte) (lanes : List LaneStream), 0 < n → fr.length = 12 + beAt fr 4 2 →
      lanes.map (·.body) = stripe n fr → (∀ x ∈ lanes, x.skew ≤ 64) → realign n lanes = some fr) ∧
    (∀ (port : Fin 64) (lanes : List LaneStream) (fr : List Byte) (age : Nat), s.chain.up.contains port.val = true →
      realign (portLanes port s).length lanes = some fr →
      (∀ l ∈ portLanes port s, frameBroken l ((lanes.map fun x => x.body.length).foldl max 0 + 2) t = false) →
      (∀ (ty dst src : Byte) (hops seq : Nat) (p : List Byte), src.toNat < 64 → src.toNat ≠ nodeId s → p.length ≤ 2048 →
        lenOk ty.toNat p.length p = some true →
        fr = frame ([ty, dst, src] ++ beBytes 1 hops ++ beBytes 2 p.length ++ beBytes 2 seq ++ p) →
        (dst.toNat = nodeId s → exec (.chainFrameReceive dt port lanes true age) s =
          .next (settle (chainDeliver port ty.toNat src.toNat p age (stat 0x40 Reg.CHAIN_RX_FRAMES 1 t)))) ∧
        (dst.toNat < 64 → dst.toNat ≠ nodeId s → isTime ty.toNat = false → hops % 16 ≠ 0 →
          exec (.chainFrameReceive dt port lanes true age) s = .next (settle (chainForward
            ([s.rf (Reg.CHAIN_ROUTE dst.toNat) 0 7].filter (· != port.val)) fr (stat 0x40 Reg.CHAIN_RX_FRAMES 1 t))))) ∧
      (crc32 (fr.take (8 + beAt fr 4 2)) ≠ beAt fr (8 + beAt fr 4 2) 4 →
        exec (.chainFrameReceive dt port lanes true age) s = .next (settle (errInc 0x40 0 t)))) ∧
    (∀ (port : Fin 64) (lanes : List LaneStream) (ok : Bool) (age : Nat), s.chain.up.contains port.val = true →
      realign (portLanes port s).length lanes = none →
      exec (.chainFrameReceive dt port lanes ok age) s = .next (settle (errInc 0x40 0 t))) ∧
    (∀ port : Fin 64, exec (.chainTxNext dt port) s =
      .next (settle { t with chain := { t.chain with busy := t.chain.busy.filter (· != port.val) } })) ∧
    (∀ (port : Nat) (f : TxFrame), port ∉ s.chain.busy → port ∈ s.chain.up → s.quiescing 0x40 = false → portReady port s = true →
      launchHold port s = false → (s.chain.queue.filter fun g => g.port == port) = [f] → f.level < 9 → f.stamp = none →
      (chainStart port s).sent = .chain port (stripe (portLanes port s).length (chainFrame f s)) :: s.sent ∧
      (chainStart port s).chain.queue = s.chain.queue.erase f ∧ (chainStart port s).chain.busy = port :: s.chain.busy) ∧
    (s.quiescing 0x40 = false → s.rb Reg.CHAIN_CTRL 12 = true → (∀ k, s.chain.keepAt = some k →
        k + s.rf Reg.CHAIN_KEEP_PERIOD 0 10 * 1000 ≤ t.now) →
      ∃ u, exec (.keepSend dt) s = .next (settle u) ∧ u.chain.keepAt = some t.now ∧ u.chain.seq = (s.chain.seq + 1) % 65536) ∧
    (∀ (n : Fin 64) (p : List Byte), n.val ≠ nodeId s → p.length = 20 → beAt p 0 1 = 1 →
      ∃ u, exec (.keep dt n p) s = .next (settle u) ∧ u.rb (Reg.CHAIN_SEEN (n.val / 32)) (n.val % 32) = true ∧
        u.chain.lost.contains n.val = false ∧ (n.val ∈ s.chain.lost → u.rb (Reg.evtStatus 0x40) 9 = true) ∧
        u.reg Reg.CHAIN_RX_FRAMES = s.reg Reg.CHAIN_RX_FRAMES + 1) ∧
    (∀ n : Fin 64, s.rb (Reg.CHAIN_WATCH (n.val / 32)) (n.val % 32) = true → s.chain.lost.contains n.val = false →
      mget (fun _ => 0) s.chain.seenAt n.val = 0 → s.chain.since + s.rf Reg.CHAIN_KEEP_TIMEOUT 0 16 * 1000 ≤ t.now →
      ∃ u, exec (.chainlost dt n) s = .next (settle u) ∧ u.reg Reg.CHAIN_LOST_NODE = W n ∧ n.val ∈ u.chain.lost ∧
        u.rb (Reg.CHAIN_SEEN (n.val / 32)) (n.val % 32) = false ∧ u.rb (Reg.evtStatus 0x40) 8 = true) ∧
    (∀ (n : Fin 64) (p : List Byte), n.val ≠ nodeId s → p.length = 12 → svcRuns 10 s = true →
      ∃ u r, exec (.chainEvent dt n p) s = .next (settle u) ∧ u.svc.log = (r :: s.svc.log).take 1024 ∧
        u.svc.logNext = s.svc.logNext + 1 ∧ r.take 4 = beBytes 4 t.timeNs ∧ r.drop 8 = ([BitVec.ofNat 8 n.val] ++ p ++ List.replicate 24 0).take 24) ∧
    (∀ p : List Byte, 8 ≤ p.length → p.length ≤ 264 → exec (.regrsp dt p) s =
      .next (settle (errInc 0x40 1 (stat 0x40 Reg.CHAIN_RX_FRAMES 1 t))))

/-- R276, R278, R279, R280, R288, R289: register requests over Chain run their burst and are answered, or counted where the node
may not; an Ethernet frame with a wrong FCS is counted, an ARP request answered, a repeated register request answered from its
kept reply and not run again, in a datagram with its UDP checksum; the link state; launch entries are queued, launched once read
and stamped. Where its parts go beyond the spec's words they are the model's choice, said in log entries 13, 34, 37 and 68. -/
def Obligations.RegisterRequestsAndLaunchesAreAnswered : Prop :=
  ∀ (dt : Nat) (s t : State), t = s.elapse dt →
    (∀ (n : Fin 64) (p : List Byte), s.enabled 0x40 = true → n.val ≠ nodeId s →
      (p.length = 8 → regNode n s = false → exec (.regrd dt n p) s =
        .next (settle (count 0x40 Reg.CHAIN_DROP_REG (stat 0x40 Reg.CHAIN_RX_FRAMES 1 t)))) ∧
      (∀ st ws v, p.length = 8 → regNode n s = true → beAt p 2 1 ≤ 63 →
        burstRead .chain (beAt p 4 4) (beAt p 2 1 + 1) (stat 0x40 Reg.CHAIN_RX_FRAMES 1 t) = (st, ws, v) →
        exec (.regrd dt n p) s = .next (settle (chainSend 0x12 n 4
          (.bytes (p.take 2 ++ beBytes 1 st ++ beBytes 1 ws.length ++ (p.drop 4).take 4 ++ wordBytes ws)) v))) ∧
      (∀ st v, regNode n s = true → beAt p 2 1 ≤ 63 → p.length = 8 + 4 * (beAt p 2 1 + 1) →
        burstWrite .chain (beAt p 4 4) (bytesWords (beAt p 2 1 + 1) (p.drop 8)) (stat 0x40 Reg.CHAIN_RX_FRAMES 1 t) = (st, v) →
        exec (.regwr dt n p) s = .next (settle (chainSend 0x12 n 4
          (.bytes (p.take 2 ++ beBytes 1 st ++ beBytes 1 0 ++ (p.drop 4).take 4)) v)))) ∧
    (∀ fr : List Byte, ethOn s = true → ∀ age, exec (.ethFrameReceive dt ⟨fr, age⟩ false) s = .next (settle (errInc 0x41 0 t))) ∧
    (∀ fr : List Byte, ethOn s = true → 60 ≤ fr.length → fr.length ≤ 1514 → fr.take 6 = List.replicate 6 0xFF → beAt fr 12 2 = 0x0806 →
      beAt fr 14 4 = 0x00010800 → beAt fr 18 4 = 0x06040001 → beAt fr 38 4 = ethIp s →
      s.eth.txq = [] → ethHold t = false →
      ∀ age, ∃ u b, exec (.ethFrameReceive dt ⟨fr, age⟩ true) s = .next (settle u) ∧ u.sent = .eth b :: s.sent ∧ b.take 6 = (fr.drop 6).take 6 ∧
        b.length = 60 ∧ u.reg Reg.ETH_TX_FRAMES = s.reg Reg.ETH_TX_FRAMES + 1 ∧ u.reg Reg.ETH_RX_FRAMES = s.reg Reg.ETH_RX_FRAMES + 1) ∧
    (∀ (mac ip port : Nat) (p : List Byte) (k : UdpReply), ethOn s = true → s.eth.txq = [] → ethHold s = false → 16 ≤ p.length → beAt p 0 2 = 0x534B → beAt p 2 1 = 1 →
      (beAt p 3 1 = 1 ∨ beAt p 3 1 = 2) →
      (W ip &&& s.reg Reg.ETH_ALLOW_MASK) = (s.reg Reg.ETH_ALLOW_IP &&& s.reg Reg.ETH_ALLOW_MASK) →
      crc32c (p.take (p.length - 4)) = beAt p (p.length - 4) 4 →
      (s.eth.replies.find? fun k => k.ip == ip && k.port == port && k.tag == beAt p 4 2) = some k →
      (udpRequest mac ip port p s).sent = .udp mac ip port k.bytes
        (udpSum (ethIp s) ip (s.rf Reg.ETH_REG_PORT 0 16) port k.bytes) :: s.sent ∧
      (∀ a, a ≠ Reg.ETH_REG_REPLAYS → a ≠ Reg.ETH_TX_FRAMES → a ∉ evtRegs 0x41 → (udpRequest mac ip port p s).reg a = s.reg a)) ∧
    (∀ sync an fd rf : Bool, s.enabled 0x41 = true → s.rb Reg.ETH_CTRL 0 = true →
      (sync = false ∨ ∃ l < 48, laneRole l s = 4) → ∃ u, exec (.ethLinkChange dt sync an fd rf) s = .next (settle u) ∧
        u.reg Reg.ETH_STATUS = W (ofBits [sync, an, sync && (!s.rb Reg.ETH_CTRL 1 || (an && fd)), rf]) ∧
        (s.rb Reg.ETH_STATUS 2 = false → (sync && (!s.rb Reg.ETH_CTRL 1 || (an && fd))) = true →
          u.rb (Reg.evtStatus 0x41) 8 = true) ∧
        (s.rb Reg.ETH_STATUS 2 = true → (sync && (!s.rb Reg.ETH_CTRL 1 || (an && fd))) = false →
          u.rb (Reg.evtStatus 0x41) 9 = true)) ∧
    (∀ (q : Path) (eth : Bool), Takes q (lqPage eth) s →
      ((s.lq eth).q.length < 8 → (if eth then 60 else 8) ≤ s.rf (Reg.LQ (lqPage eth) 1) 0 12 →
        s.rf (Reg.LQ (lqPage eth) 1) 0 12 ≤ (if eth then 1514 else 2056) →
        ∃ u e, exec (.lqPush dt q eth) s = .next (settle u) ∧ (u.lq eth).q = (s.lq eth).q ++ [e] ∧
          e.addr = s.rf (Reg.LQ (lqPage eth) 0) 0 28 ∧ e.len = s.rf (Reg.LQ (lqPage eth) 1) 0 12 ∧
          e.tag = s.rf (Reg.LQ (lqPage eth) 1) 16 8 ∧ e.atTime = s.rb (Reg.LQ (lqPage eth) 1) 24 ∧
          e.time = (s.reg (Reg.LQ (lqPage eth) 2)).toNat ∧ ((s.lq eth).q ≠ [] → e.armed = false) ∧ e.bytes = none ∧ u.words = s.words) ∧
      (8 ≤ (s.lq eth).q.length → exec (.lqPush dt q eth) s = .next (settle (writeNote q 0 (config (lqPage eth) t)))) ∧
      (exec (.lqStampPop dt q eth) s = .next (settle (writeNote q 0
        (t.setLq eth { s.lq eth with stamps := (s.lq eth).stamps.drop 1, lost := false }))))) ∧
    (∀ (eth : Bool) (e : LqEntry) (r : List LqEntry), s.running (lqPage eth) = true → (s.lq eth).q = e :: r → e.bytes = none →
      exec (.launch dt eth) s = .next (settle t)) ∧
    (∀ (e : LqEntry) (r : List LqEntry) (b : List Byte), s.running 0x41 = true → s.eth.lq.q = e :: r → e.atTime = false →
      e.bytes = some b → s.eth.lq.stamps.length < 8 → ∃ u, exec (.launch dt true) s = .next (settle u) ∧ u.eth.lq.q.length = r.length ∧
        u.eth.lq.stamps = s.eth.lq.stamps ++ [⟨e.tag, false, !s.rb Reg.ETH_STATUS 2, t.timeNs⟩] ∧
        u.sent = (if s.rb Reg.ETH_STATUS 2 then .eth b :: s.sent else s.sent)) ∧
    (∀ (e : LqEntry) (b : List Byte) (port : Nat), s.running 0x40 = true → s.chain.lq.q = [e] → e.atTime = false →
      e.bytes = some b → 2 ≤ b.length → isTime (beAt b 0 1) = false → (lenOk (beAt b 0 1) 0 []).isSome = true →
      ((dstPorts (beAt b 1 1) s).filter fun p => p ∈ s.chain.up) = [port] → port ∉ s.chain.busy → portReady port t = true →
      s.chain.queue = [] → s.chain.lq.stamps.length < 8 → ∃ u, exec (.launch dt false) s = .next (settle u) ∧ u.chain.lq.q = [] ∧
        u.chain.lq.stamps = s.chain.lq.stamps ++ [⟨e.tag, false, false, t.timeNs⟩] ∧
        u.sent = .chain port (stripe (portLanes port s).length (frame (b.take 2 ++ beBytes 1 (nodeId s) ++
          beBytes 1 (s.rf Reg.CHAIN_CTRL 8 4) ++ b.drop 4))) :: s.sent) ∧
    (∀ (e : LqEntry) (r : List LqEntry) (b : List Byte), s.running 0x40 = true → s.chain.lq.q = e :: r → e.atTime = false →
      e.bytes = some b → s.chain.up = [] → s.chain.lq.stamps.length < 8 → ∃ u, exec (.launch dt false) s = .next (settle u) ∧
        u.chain.lq.q.length = r.length ∧ u.chain.lq.stamps = s.chain.lq.stamps ++ [⟨e.tag, false, true, t.timeNs⟩] ∧ u.sent = s.sent)

/-- R282, R283, R284, R285, R286: TIME_SYNC leaves at its period, the exchange starts with a TIME_SYNC from the master port,
answers requests and ends with the measured delay and offset; an offset beyond TIME_JUMP_LIMIT holds the servo; STEP moves TIME
while FIRE does not run; wraps are reported, and the time service then keeps the epoch in step with its reference (log entry 91);
the epoch words apply together. Where its parts go beyond the spec's words they are the model's choice, said in log entries 14, 36
and 91. -/
def Obligations.PressTimeIsExchangedSteppedAndWrapped : Prop :=
  ∀ (dt : Nat) (s t : State), t = s.elapse dt →
    (s.running 0x42 = true → masterPorts s ≠ [] → (∀ k, s.time.syncAt = some k →
        k + s.rf Reg.TIME_SYNC_PERIOD 0 20 * 1000 ≤ t.now) →
      ∃ u, exec (.timeSyncSend dt) s = .next (settle u) ∧ u.time.syncAt = some t.now ∧
        u.time.syncSeq = (s.time.syncSeq + 1) % 65536) ∧
    (∀ (port : Fin 64) (p : List Byte) (age : Nat), s.enabled 0x40 = true → s.enabled 0x42 = true →
      (port = 0 ∨ s.chain.up.contains port.val = true) → beAt p 0 1 = 1 →
      (p.length = 20 → s.rf Reg.TIME_CTRL 0 2 = 1 → s.rf Reg.TIME_CTRL 8 7 = port →
        ∃ u e, exec (.timeSync dt port p age) s = .next (settle u) ∧ u.time.exch = some e ∧ e.seq = beAt p 2 2 ∧ e.t1 = beAt p 4 4 ∧
          e.t2 = (t.timeNs + 2 ^ 32 - age % 2 ^ 32) % 2 ^ 32) ∧
      (p.length = 8 → ∃ u, exec (.timeDlyreq dt port p age) s = .next (settle u) ∧
        u.chain.seq = (s.chain.seq + 1) % 65536) ∧
      (∀ e : Exch, p.length = 8 → s.time.exch = some e → s.rf Reg.TIME_CTRL 0 2 = 1 → s.rf Reg.TIME_CTRL 8 7 = port →
        e.seq = beAt p 2 2 → ∃ u, exec (.timeDlyrsp dt port p) s = .next (settle u) ∧ u.time.exch = none ∧ u.time.lastSeq = e.seq ∧
          u.reg Reg.TIME_DELAY = W (wrapN 32 (divRound (dtime e.t2 e.t1 + dtime (beAt p 4 4) e.t3) 2)) ∧
          u.reg Reg.TIME_EXCH = s.reg Reg.TIME_EXCH + 1)) ∧
    (∀ (q : Path) (w : Word), Takes q 0x42 s →
      (s.rf Reg.TIME_CTRL 0 2 = 2 → ∃ u, exec (.timeOfsIn dt q w) s = .next (settle u) ∧ u.reg Reg.TIME_OFFSET = w ∧
        u.time.ofsAt = some t.timeNs64 ∧
        (s.rf Reg.TIME_JUMP_LIMIT 0 20 < (sgn 32 w.toNat).natAbs → u.time.hold = true ∧ u.time.rate = s.time.rate ∧
          u.rb (Reg.evtStatus 0x42) 10 = true) ∧
        ((sgn 32 w.toNat).natAbs ≤ s.rf Reg.TIME_JUMP_LIMIT 0 20 → u.time.hold = false ∧
          (s.rb Reg.TIME_CTRL 2 = false → u.time.rate = s.time.rate))) ∧
      (s.rf Reg.TIME_CTRL 0 2 ≠ 2 → exec (.timeOfsIn dt q w) s = .next (settle (writeNote q 0 t))) ∧
      (Ready 0x42 Reg.TIME_CMD_STATUS s → s.fire.st < 2 → ∃ u, exec (.step dt q) s = .next (settle u) ∧
        u.time.acc = (((t.time.acc : Int) + sgn 32 (s.reg Reg.TIME_STEP_VAL).toNat * (2 ^ 32 : Nat)) % ((2 ^ 96 : Nat) : Int)).toNat ∧
        u.web.enc0.resync = true ∧ u.web.enc0.valid = false ∧ u.web.enc1.resync = true ∧ u.web.enc1.valid = false ∧
        u.reg Reg.TIME_CMD_STATUS = cmdWord 2 0 0) ∧
      (Ready 0x42 Reg.TIME_CMD_STATUS s → 2 ≤ s.fire.st →
        exec (.step dt q) s = .next (settle (writeNote q 0 (cmdError 0x42 Reg.TIME_CMD_STATUS 0x80 t)))) ∧
      (∃ u, exec (.timeEpochWrapWrite dt q w) s = .next (settle u) ∧ u.time.epoch =
          [s.reg Reg.TIME_EPOCH_NS, s.reg Reg.TIME_EPOCH_SEC_LO, s.reg Reg.TIME_EPOCH_SEC_HI, w] ∧ u.reg Reg.TIME_EPOCH_WRAP = w ∧
        (∀ a, a ≠ Reg.TIME_EPOCH_WRAP → u.reg a = s.reg a))) ∧
    (s.enabled 0x42 = true → t.time.acc / 2 ^ 64 ≠ s.time.wraps →
      (svcRuns 1 s = false →
        exec (.timewrap dt) s = .next (settle (raise 0x42 11 { t with time := { t.time with wraps := t.time.acc / 2 ^ 64 } }))) ∧
      (∀ n p, svcRuns 1 s = true → s.time.ref = some (n, p) → ∃ u, exec (.timewrap dt) s = .next (settle u) ∧
        u.rb (Reg.evtStatus 0x42) 11 = true ∧ secValid u = true ∧ u.reg Reg.TIME_EPOCH_WRAP = W (timeWrap t) ∧
        u.time.epoch = [u.reg Reg.TIME_EPOCH_NS, u.reg Reg.TIME_EPOCH_SEC_LO, u.reg Reg.TIME_EPOCH_SEC_HI, u.reg Reg.TIME_EPOCH_WRAP] ∧
        (n ≤ t.timeNs64 / 2 ^ 32 * 2 ^ 32 → (p + (t.timeNs64 / 2 ^ 32 * 2 ^ 32 - n)) / 1000000000 < 2 ^ 48 →
          pressNs u = p + (t.timeNs64 - n))))

/-- R295, R296, R298, R300, R301, R303, R304, R305, R306: a channel issues the block of its first request in the order of R298; a
block that completes is counted, its ECC result is noted, and the request's last block ends it; tokens accrue every 64 ns to the
burst; old requests are promoted; a regulator is written whole or refused; refreshes are postponed, forced and made up; the MR4
codes are shown; the scrubber moves on at its pace. Where its parts go beyond the spec's words they are the model's choice, said
in log entries 45, 46, 79, 93 and 94. -/
def Obligations.DramServesBlocksTokensAndRefreshes : Prop :=
  ∀ (dt : Nat) (s t : State), t = s.elapse dt →
    (s.released 0x48 = true →
      (∀ (ch : Fin 4) (r : DReq) (b lv : Nat), dramReady s = true → s.quiescing 0x48 = false → s.quiescing 0x49 = false →
        s.quiescing 0x4A = false → (∀ k ∈ s.dramc.forced, k / 2 ≠ ch.val) → (∀ x ∈ s.dramc.issued, x.ch ≠ ch.val) → lv < 9 →
        (∀ x ∈ s.dramc.queue, (x.left.any fun y => blockFree ch x y t) = true → lv ≤ reqLevel x s) →
        (s.dramc.queue.find? fun x => (x.left.any fun y => blockFree ch x y t) && reqLevel x s == lv) = some r →
        (r.left.find? fun y => blockFree ch r y t) = some b →
        ∃ u, exec (.dramBlockIssue dt ch) s = .next (settle u) ∧ u.words = s.words ∧ u.dramc.tokens = s.dramc.tokens ∧
          u.dramc.issued = s.dramc.issued ++
            [⟨ch, r.id, r.port, b, r.write, decide (r.addr ≤ 64 * b ∧ 64 * b + 64 ≤ r.addr + r.bytes)⟩] ∧
          u.dramc.queue = s.dramc.queue.map fun q => if q.id = r.id then
            { q with left := q.left.erase b, out := q.out + 1, excess := q.excess || q.held } else q) ∧
      (∀ ch : Fin 4, (dramReady s = false ∨ (∃ x ∈ s.dramc.issued, x.ch = ch.val) ∨ (∃ k ∈ s.dramc.forced, k / 2 = ch.val)) →
        exec (.dramBlockIssue dt ch) s = .next (settle t)) ∧
      (∀ (ch : Fin 4) (ecc : Ecc) (b : DBlock), b.port < 12 → (s.dramc.issued.find? fun b => b.ch == ch.val) = some b →
        ∃ u, exec (.dramBlockDone dt ch ecc) s = .next (settle u) ∧ u.dramc.issued = s.dramc.issued.erase b ∧
          u.reg (Reg.DRAMQOS_BYTES b.port) = s.reg (Reg.DRAMQOS_BYTES b.port) + 1 ∧
          (∀ a, a = (if b.write then Reg.DRAM_WR else Reg.DRAM_RD) →
            (u.reg a).toNat + 2 ^ 32 * u.rf (a + 4) 0 16 = ((s.reg a).toNat + 2 ^ 32 * s.rf (a + 4) 0 16 + 64) % 2 ^ 48) ∧
          (b.write = false → eccOf b.block ecc s = .bad → s.rb Reg.DRAM_CTRL 2 = true → b.block ∈ u.badBlocks ∧
            u.rb (Reg.evtStatus 0x48) 8 = true ∧ u.reg Reg.DRAM_ECC_ADDR = W (b.block % 2 ^ 28 + 2 ^ 28 * b.port) ∧
            u.dramc.mr4Want = true) ∧
          (b.write = true → b.whole = false → eccOf b.block ecc s = .bad → s.rb Reg.DRAM_CTRL 2 = true → b.block ∈ u.badBlocks) ∧
          (∀ r, (s.dramc.queue.find? fun q => q.port == b.port) = some r → r.id = b.id → r.left = [] → r.out ≤ 1 →
            ∀ q ∈ u.dramc.queue, q.id ≠ b.id)) ∧
      (∀ k : Fin 8, (k.val % 2 = 0 ∨ s.rb Reg.DRAM_CTRL 8 = true) →
        (∀ x, tget none s.dramc.refAt k = some x → (t.now - x) * 1000 < refiPs (k / 2) s →
          exec (.refreshDue dt k) s = .next (settle t)) ∧
        ((∀ x, tget none s.dramc.refAt k = some x → refiPs (k / 2) s ≤ (t.now - x) * 1000) → ∃ u,
          exec (.refreshDue dt k) s = .next (settle u) ∧ tget none u.dramc.refAt k = some t.now ∧ u.dramc.queue = s.dramc.queue ∧
          (k.val ∈ s.dramc.forced → refCnt k u = min 15 (refCnt k s + 1) ∧ u.dramc.refBusy = s.dramc.refBusy) ∧
          (k.val ∉ s.dramc.forced → (c0OnCh (k / 2) s = false ∨ s.rf Reg.DRAM_REF 0 4 ≤ refCnt k s) →
            u.words = s.words ∧ tget 0 u.dramc.refBusy k = t.now + rfcNs s) ∧
          (k.val ∉ s.dramc.forced → c0OnCh (k / 2) s = true → refCnt k s < s.rf Reg.DRAM_REF 0 4 →
            refCnt k u = refCnt k s + 1 ∧ u.dramc.refBusy = s.dramc.refBusy ∧
            (refCnt k s + 1 = s.rf Reg.DRAM_REF 0 4 → k.val ∈ u.dramc.forced ∧ u.rb (Reg.evtStatus 0x48) 9 = true) ∧
            (refCnt k s + 1 < s.rf Reg.DRAM_REF 0 4 → u.dramc.forced = s.dramc.forced)))) ∧
      (∀ k : Fin 8, (rankBusy k t = true → exec (.refreshMakeup dt k) s = .next (settle t)) ∧
        (rankBusy k t = false → (k.val ∉ s.dramc.forced → c0Queued (k / 2) s = false → 0 < refCnt k s →
            ∃ u, exec (.refreshMakeup dt k) s = .next (settle u) ∧ refCnt k u = refCnt k s - 1 ∧
              u.reg Reg.DRAM_MAKEUP = s.reg Reg.DRAM_MAKEUP + 1 ∧ tget 0 u.dramc.refBusy k = t.now + rfcNs s) ∧
          (k.val ∉ s.dramc.forced → c0Queued (k / 2) s = true → exec (.refreshMakeup dt k) s = .next (settle t)) ∧
          (k.val ∈ s.dramc.forced → ∃ u, exec (.refreshMakeup dt k) s = .next (settle u) ∧ refCnt k u = refCnt k s - 1 ∧
            tget 0 u.dramc.refBusy k = t.now + rfcNs s ∧ (refCnt k s ≤ 1 → k.val ∉ u.dramc.forced) ∧
            (1 < refCnt k s → u.dramc.forced = s.dramc.forced)))) ∧
      (∀ (c0 c1 c2 c3 : Fin 5 × Fin 5) (h : Fin 5 × Fin 5 → Nat),
        (∀ c, h c = if s.rb Reg.DRAM_CTRL 8 then max c.1.val c.2.val else c.1.val) →
        (s.dramc.mr4Want = false → t.now < s.dramc.mr4At + s.rf Reg.DRAM_REF 16 8 * 1000000 →
          exec (.mr4Poll dt c0 c1 c2 c3) s = .next (settle t)) ∧
        (s.dramc.mr4Want = true ∨ s.dramc.mr4At + s.rf Reg.DRAM_REF 16 8 * 1000000 ≤ t.now →
          ∃ u, exec (.mr4Poll dt c0 c1 c2 c3) s = .next (settle u) ∧ u.dramc.mr4At = t.now ∧ u.dramc.mr4Want = false ∧
          u.rf Reg.DRAM_TEMP 0 4 = h c0 ∧ u.rf Reg.DRAM_TEMP 4 4 = h c1 ∧ u.rf Reg.DRAM_TEMP 8 4 = h c2 ∧ u.rf Reg.DRAM_TEMP 12 4 = h c3 ∧
          ((h c0 = 4 ∨ h c1 = 4 ∨ h c2 = 4 ∨ h c3 = 4) → u.rb (Reg.evtStatus 0x48) 11 = true) ∧
          (∀ a, a ≠ Reg.DRAM_TEMP → a ∉ evtRegs 0x48 → u.reg a = s.reg a))) ∧
      (dramReady s = true → s.rb Reg.DRAM_CTRL 3 = true →
        (∀ ecc : Ecc, scrubDue t = false → exec (.scrub dt ecc) s = .next (settle t)) ∧
        (scrubDue t = true → ∀ b, b = s.rf Reg.DRAM_SCRUB_POS 0 28 → (b + 1) * 64 ≤ dramBytes s →
          ∀ ecc : Ecc, ∃ u h, exec (.scrub dt ecc) s = .next (settle u) ∧ u.dramc.scrubAt = some t.now ∧
            u.reg Reg.DRAM_SCRUB_POS = W (if (b + 1) * 64 = dramBytes s then 0 else b + 1) ∧
            ((s.rb Reg.DRAM_CTRL 2 = false ∨ ∀ n, eccOf b ecc s ≠ .corrected n) →
              u.dramc.queue = s.dramc.queue ++ [⟨s.dramc.nextId, 10, false, 64 * b, 64, t.now, [b], 0, h, false, false⟩]) ∧
            (s.rb Reg.DRAM_CTRL 2 = true → eccOf b ecc s = .bad → b ∈ u.badBlocks ∧ u.rb (Reg.evtStatus 0x48) 8 = true)))) ∧
    (s.released 0x4A = true →
      (∀ n, n = (t.now - s.dramc.tokAt) / 64 → 0 < n → ∃ u, exec (.tokenAccrue dt) s = .next (settle u) ∧ u.words = s.words ∧
        u.dramc.tokAt = s.dramc.tokAt + 64 * n ∧
        ((∀ r ∈ s.dramc.queue, r.held = false ∨ r.excess = true) → u.dramc.queue = s.dramc.queue ∧ ∀ p < 12, tokensOf p u =
          clampI (-(qosBurst p s * 64000 : Nat)) (qosBurst p s * 64000 : Nat) (tokensOf p s + (n * qosRate p s * 1024 : Nat))) ∧
        (∀ r, s.dramc.queue = [r] → r.held = true → r.excess = false → r.port < 12 →
          ((r.bytes * 1000 : Nat) : Int) ≤
            clampI (-(qosBurst r.port s * 64000 : Nat)) (qosBurst r.port s * 64000 : Nat)
              (tokensOf r.port s + (n * qosRate r.port s * 1024 : Nat)) →
          u.dramc.queue = [{ r with held := false }] ∧ tokensOf r.port u =
            clampI (-(qosBurst r.port s * 64000 : Nat)) (qosBurst r.port s * 64000 : Nat)
              (tokensOf r.port s + (n * qosRate r.port s * 1024 : Nat)) - (r.bytes * 1000 : Nat))) ∧
      (t.now < s.dramc.tokAt + 64 → exec (.tokenAccrue dt) s = .next (settle t)) ∧
      (∃ u, exec (.dramPromote dt) s = .next (settle u) ∧
        (∀ r ∈ s.dramc.queue, portClass r.port ≠ 0 → r.held = false → r.promoted = false → r.left ≠ [] →
          s.rf Reg.DRAMQOS_AGE (8 * (portClass r.port - 1)) 8 ≤ (t.now - r.at_) / 64 → { r with promoted := true } ∈ u.dramc.queue) ∧
        (∀ a, a ∉ [Reg.DRAMQOS_PROMO 1, Reg.DRAMQOS_PROMO 2, Reg.DRAMQOS_PROMO 3] → a ∉ evtRegs 0x4A → u.reg a = s.reg a))) ∧
    (∀ (q : Path) (p : Fin 12) (w : Word), Takes q 0x4A s →
      ((fld w 16 12 * 64 < portMax p ∨
          (qosRate p s < fld w 0 12 ∧ qosCap s < qosResv fun x => if x = p.val then fld w 0 12 else qosRate x s)) →
        exec (.dramqosRegWrite dt q p w) s = .next (settle (writeNote q 0 (config 0x4A t)))) ∧
      (portMax p ≤ fld w 16 12 * 64 → (fld w 0 12 ≤ qosRate p s ∨
          (qosResv fun x => if x = p.val then fld w 0 12 else qosRate x s) ≤ qosCap s) →
        ∃ u, exec (.dramqosRegWrite dt q p w) s = .next (settle u) ∧ u.reg (Reg.DRAMQOS_REG p) = w &&& 0x0FFF1FFF ∧
          tokensOf p u = clampI (-(fld w 16 12 * 64000 : Nat)) (fld w 16 12 * 64000 : Nat) (tokensOf p s) ∧
          (∀ a, a ≠ Reg.DRAMQOS_REG p → u.reg a = s.reg a)))

/-- R307, R308, R309: a read eye that agrees with the one before moves its delay by one step and one that does not counts against
the lane; the training commands are refused with NOTREADY (0x80) while the memory serves, and else write the map, send the MRW,
keep the MRR, and FINISH and RETRAIN put the memory into service and out of it. Where its parts go beyond the spec's words they
are the model's choice, said in log entries 45, 59, 79 and 86. -/
def Obligations.DramTrainsByItsCommands : Prop :=
  ∀ (dt : Nat) (s t : State), t = s.elapse dt →
    (∀ a l : Nat, 0 < l → a + l ≤ 128 → tapRuns (toBits 128 ((2 ^ l - 1) * 2 ^ a)) = [(a, l)]) ∧
    (∀ (k : Fin 8) (lane : Fin 2) (low high : BitVec 64) (pass : BitVec 128) (x : RdEye) (i : Nat), s.released 0x48 = true → eyeTracked k s = true → pass = high ++ low →
      i = 2 * k.val + lane.val → x = tget Reset.eye s.dramc.eyes i →
      (t.now < x.at_ + s.rf Reg.DRAM_EYE_CFG 0 10 * 1000 → exec (.rdeyeSweep dt k lane low high) s = .next (settle t)) ∧
      (x.at_ + s.rf Reg.DRAM_EYE_CFG 0 10 * 1000 ≤ t.now →
        (∀ (a l m q : Nat), (∀ r ∈ tapRuns (toBits 128 pass.toNat), r.2 ≤ l) →
          ((tapRuns (toBits 128 pass.toNat)).filter fun r => r.2 == l) = [(a, l)] → m = 2 * a + l - 1 → x.prev = some q →
          ∃ u y, exec (.rdeyeSweep dt k lane low high) s = .next (settle u) ∧ y = tget Reset.eye u.dramc.eyes i ∧
            y.prev = some m ∧ y.width = l ∧ y.at_ = t.now ∧ y.on = x.on ∧
            (∀ j, j ≠ i → tget Reset.eye u.dramc.eyes j = tget Reset.eye s.dramc.eyes j) ∧
            (max m q - min m q ≤ 2 * s.rf Reg.DRAM_EYE_CFG 16 4 → u.words = s.words ∧ y.fail = 0 ∧
              (4 * x.delay < m + q → y.delay = x.delay + 1) ∧ (4 * x.delay = m + q → y.delay = x.delay) ∧
              (m + q < 4 * x.delay → y.delay + 1 = x.delay)) ∧
            (2 * s.rf Reg.DRAM_EYE_CFG 16 4 < max m q - min m q → y.delay = x.delay ∧ y.fail = x.fail + 1 ∧
              (x.fail = 15 → u.rb (Reg.evtStatus 0x48) 12 = true))) ∧
        (pass = 0 → ∃ u y, exec (.rdeyeSweep dt k lane low high) s = .next (settle u) ∧ y = tget Reset.eye u.dramc.eyes i ∧
          y.prev = x.prev ∧ y.delay = x.delay ∧ y.width = 0 ∧ y.fail = x.fail + 1 ∧
          (x.fail = 15 → u.rb (Reg.evtStatus 0x48) 12 = true)))) ∧
    (∀ q : Path, Takes q 0x49 s → Ready 0x49 Reg.DRAMTRN_CMD_STATUS s →
      (∀ w : Word,
        (dramReady s = true →
          exec (.sweep dt q w) s = .next (settle (writeNote q 0 (cmdError 0x49 Reg.DRAMTRN_CMD_STATUS 0x80 t))) ∧
          exec (.mrw dt q w) s = .next (settle (writeNote q 0 (cmdError 0x49 Reg.DRAMTRN_CMD_STATUS 0x80 t))) ∧
          ∀ mr : Byte, exec (.mrr dt q w mr) s =
            .next (settle (writeNote q 0 (cmdError 0x49 Reg.DRAMTRN_CMD_STATUS 0x80 t)))) ∧
        (dramReady s = false →
          (sweepPair (fld w 12 3) (fld w 8 4) = true → (fld w 12 3 ≠ 4 ∨ s.rb Reg.DRAM_CTRL 2 = true) →
            ∃ u, exec (.sweep dt q w) s = .next (settle u) ∧ u.reg Reg.DRAMTRN_CMD_STATUS = cmdWord 1 0 0 ∧
              u.dramc.sweep = (s.rf Reg.DRAMTRN_RANGE 0 7, s.rf Reg.DRAMTRN_RANGE 8 7) ∧
              (∀ a, a ≠ Reg.DRAMTRN_CMD_STATUS → a ≠ Reg.DRAMTRN_CMD → u.reg a = s.reg a)) ∧
          (sweepPair (fld w 12 3) (fld w 8 4) = false → exec (.sweep dt q w) s =
            .next (settle (writeNote q 0 (cmdError 0x49 Reg.DRAMTRN_CMD_STATUS 1 (config 0x49 t))))) ∧
          exec (.mrw dt q w) s = .next (settle (writeNote q 0 (cmdDone 0x49 Reg.DRAMTRN_CMD_STATUS
            (emit (.mrw (fld w 4 2) (fld w 6 1) (s.rf Reg.DRAMTRN_MR 0 7) (s.rf Reg.DRAMTRN_MR 8 8)) t)))) ∧
          (∀ mr : Byte, exec (.mrr dt q w mr) s = .next (settle (writeNote q 0 (cmdDone 0x49 Reg.DRAMTRN_CMD_STATUS
            (t.setReg Reg.DRAMTRN_MRR (W mr.toNat)))))))) ∧
      (∃ u, exec (.finish dt q) s = .next (settle u) ∧ dramReady u = true ∧ u.reg Reg.DRAM_SIZE = W (payloadMiB s) ∧
        u.reg Reg.DRAMTRN_CMD_STATUS = cmdWord 2 0 0 ∧ u.fab = [] ∧ (dramReady s = true → s.fab = [] → u.dramc = s.dramc) ∧
        (dramReady s = false → ∀ i < 16, (i / 2 % 2 = 0 ∨ s.rb Reg.DRAM_CTRL 8 = true) →
          (tget Reset.eye u.dramc.eyes i).on = true ∧ (tget Reset.eye u.dramc.eyes i).delay = s.rf (Reg.DRAMTRN_DLY_RD (i / 2)) (8 * (i % 2)) 7)) ∧
      (exec (.retrain dt q) s = .next (settle (writeNote q 0 (cmdDone 0x49 Reg.DRAMTRN_CMD_STATUS
        (t.setB Reg.DRAM_STATUS 0 false)))))) ∧
    (∀ map0 map1 : BitVec 128, s.released 0x49 = true → s.cmdBusy Reg.DRAMTRN_CMD_STATUS = true →
      ∃ u, exec (.sweepDone dt map0 map1) s = .next (settle u) ∧
        u.reg Reg.DRAMTRN_CMD_STATUS = cmdWord 2 0 ((s.dramc.sweep.2 + 1 - s.dramc.sweep.1) % 128) ∧
        (∀ n < 128,
          u.rb (Reg.DRAMTRN_MAP 0 (n / 32)) (n % 32) = (decide (s.dramc.sweep.1 ≤ n) &&
            decide (n ≤ s.dramc.sweep.2) && map0.getLsbD n) ∧
          u.rb (Reg.DRAMTRN_MAP 1 (n / 32)) (n % 32) = (decide (s.dramc.sweep.1 ≤ n) &&
            decide (n ≤ s.dramc.sweep.2) &&
            (if s.rf Reg.DRAMTRN_CMD 8 4 ≤ 1 then map0.getLsbD n else map1.getLsbD n))))

/-- R313, R314, R316, R318, R319, R320, R321, R322: START takes a job or refuses it with its code, RESUME gives a stopped job a
new destination, FLUSH notes where the block ends, and a job ends with its output in memory, its counts and its CRCs, stops where
the destination is full, or ends with the error of its input. Where its parts go beyond the spec's words they are the model's
choice, said in log entries 28, 55 and 103. -/
def Obligations.DeflateJobsStartResumeAndEnd : Prop :=
  ∀ (dt : Nat) (q : Path) (e : Fin 2) (s t : State), t = s.elapse dt →
    (Takes q 0x50 s → Ready 0x50 (Reg.DEFL_E_STATUS e) s →
      (startRefused (q == .svc) e s = none → ∀ src dst,
        src = s.rf (Reg.DEFL_E_ADDR_HI e) 0 2 * 2 ^ 32 + (s.reg (Reg.DEFL_E_SRC_LO e)).toNat →
        dst = s.rf (Reg.DEFL_E_ADDR_HI e) 8 2 * 2 ^ 32 + (s.reg (Reg.DEFL_E_DST_LO e)).toNat →
        ∃ u, exec (.deflStart dt q e) s = .next (settle u) ∧ u.reg (Reg.DEFL_E_STATUS e) = cmdWord 1 0 0 ∧
          (u.defl e).job = some ⟨s.reg (Reg.DEFL_E_MODE e), src, s.rf (Reg.DEFL_E_SRC_LEN e) 0 28, dst,
            s.rf (Reg.DEFL_E_DST_LEN e) 0 28, [], 0, 0, []⟩ ∧
          u.reg (Reg.DEFL_E_IN_DONE e) = 0 ∧ u.reg (Reg.DEFL_E_OUT_DONE e) = 0 ∧ u.reg (Reg.DEFL_E_BUF_OUT e) = 0 ∧
          u.defl (1 - e.val) = s.defl (1 - e.val) ∧ u.dram = s.dram) ∧
      (s.rb Reg.DEFL_OWN e = true → q ≠ .svc →
        exec (.deflStart dt q e) s = .next (settle (writeNote q 0 (cmdError 0x50 (Reg.DEFL_E_STATUS e) 5 t)))) ∧
      ((s.rb Reg.DEFL_OWN e = false ∨ q = .svc) →
        (s.rf (Reg.DEFL_E_SRC_LEN e) 0 28 = 0 ∨ s.rf (Reg.DEFL_E_DST_LEN e) 0 28 = 0) →
        exec (.deflStart dt q e) s = .next (settle (writeNote q 0 (cmdError 0x50 (Reg.DEFL_E_STATUS e) 1 t)))) ∧
      (∀ j : DeflJob, (s.rb Reg.DEFL_OWN e = false ∨ q = .svc) → (s.defl e).job = some j → (s.defl e).stopped = true → ∀ dst m,
        dst = s.rf (Reg.DEFL_E_ADDR_HI e) 8 2 * 2 ^ 32 + (s.reg (Reg.DEFL_E_DST_LO e)).toNat →
        m = s.rf (Reg.DEFL_E_DST_LEN e) 0 28 → 0 < m → overlap j.src j.srcLen dst m = false → dst + m ≤ dramBytes s →
        ∃ u, exec (.deflResume dt q e) s = .next (settle u) ∧ u.reg (Reg.DEFL_E_STATUS e) = cmdWord 1 0 0 ∧
          (u.defl e).job = some { j with dst := dst, dstLen := m, bufOut := 0 } ∧ (u.defl e).stopped = false ∧
          u.reg (Reg.DEFL_E_BUF_OUT e) = 0 ∧ u.reg (Reg.DEFL_E_OUT_DONE e) = W j.out.length)) ∧
    (Takes q 0x50 s → ∀ (j : DeflJob) (consumed : Nat), (s.defl e).job = some j → s.cmdBusy (Reg.DEFL_E_STATUS e) = true →
      bit j.mode 0 = false → consumed < j.srcLen →
      ∃ u, exec (.deflFlush dt q e consumed) s = .next (settle u) ∧ u.words = s.words ∧
        (u.defl e).job = some { j with flushes := j.flushes ++ [consumed] } ∧ u.defl (1 - e.val) = s.defl (1 - e.val)) ∧
    (∀ (j : DeflJob) (out : List Byte) (consumed : Nat), s.released 0x50 = true → Untraced s → (s.defl e).job = some j →
      s.cmdBusy (Reg.DEFL_E_STATUS e) = true → dramReady s = true → ∀ n, n = deflReads j out consumed s - j.inDone →
      (s.dramBad (j.src + j.inDone) n = true → ∃ u, exec (.deflJobEnd dt e out consumed) s = .next (settle u) ∧
        u.reg (Reg.DEFL_E_STATUS e) = cmdWord 4 3 0 ∧ (u.defl e).job = none ∧ u.dram = s.dram) ∧
      (s.dramBad (j.src + j.inDone) n = false → bit j.mode 0 = true → ∀ (rest : List Bool) (data : List Byte),
        inflateRaw (2 ^ 32 - 1) (s.dramRead j.src j.srcLen) = (0, rest, data) →
        ∀ due, due = data.drop j.out.length →
        (due.length ≤ j.dstLen - j.bufOut → j.dst + j.bufOut + due.length ≤ dramBytes s → ∃ u, exec (.deflJobEnd dt e out consumed) s = .next (settle u) ∧
          u.reg (Reg.DEFL_E_STATUS e) = cmdWord 2 0 0 ∧ u.dramRead (j.dst + j.bufOut) due.length = due ∧
          u.reg (Reg.DEFL_E_OUT_DONE e) = W (j.out.length + due.length) ∧
          u.reg (Reg.DEFL_E_OUT_CRC e) = W (crc32c (j.out ++ due)) ∧ (u.defl e).job = none) ∧
        (j.dstLen - j.bufOut < due.length → j.dst + j.bufOut + (j.dstLen - j.bufOut) ≤ dramBytes s → ∃ u, exec (.deflJobEnd dt e out consumed) s = .next (settle u) ∧
          u.reg (Reg.DEFL_E_STATUS e) = cmdWord 2 0x80 0 ∧ (u.defl e).stopped = true ∧
          u.dramRead (j.dst + j.bufOut) (j.dstLen - j.bufOut) = due.take (j.dstLen - j.bufOut) ∧
          u.reg (Reg.DEFL_E_BUF_OUT e) = W (j.bufOut + (j.dstLen - j.bufOut)) ∧ u.rb (Reg.evtStatus 0x50) 8 = true)) ∧
      (s.dramBad (j.src + j.inDone) n = false → bit j.mode 0 = false → out.length ≤ j.dstLen - j.bufOut →
        j.dst + j.bufOut + out.length ≤ dramBytes s →
        j.out.length + out.length < j.srcLen →
        deflValid { j with out := j.out ++ out, bufOut := j.bufOut + out.length } ((s.defl e).chain.getD ([], []))
          (s.dramRead j.src j.srcLen) = true →
        ∃ u, exec (.deflJobEnd dt e out consumed) s = .next (settle u) ∧ u.reg (Reg.DEFL_E_STATUS e) = cmdWord 2 0 0 ∧
          u.dramRead (j.dst + j.bufOut) out.length = out ∧ u.reg (Reg.DEFL_E_OUT_DONE e) = W (j.out.length + out.length) ∧
          (u.defl e).job = none))

/-- R325, R329, R330, R331, R332, R333, R336, R337, R341: a tick starts the group's acquisitions, presets the slots whose EN has
risen and frees the held ones whose oscillation bit has been cleared; the updates that follow compute each slot that was enabled
as the tick came by R329, or hold the safe value where its source is not valid, or are skipped with LOOPOVR; a PWM period lasts as
its slot's output says, and none starts before the last one is over. Where its parts go beyond the spec's words they are the
model's choice, said in log entry 47. -/
def Obligations.LoopGroupsTickUpdateAndDrive : Prop :=
  ∀ (dt : Nat) (s t : State), t = s.elapse dt →
    (∀ (g : Fin 8) (done : List (Fin 4 × List Word)), s.running 0x58 = true → (s.group g).due = false →
      (∀ a, (s.group g).tickAt = some a → a + s.rf (Reg.LOOP_G_PERIOD g) 0 20 * 1000 ≤ t.now) → s.shadowPending 0x58 = false →
      ∃ u, exec (.loopGroupTick dt g done) s = .next (settle u) ∧
        u.group g = { s.group g with tickAt := some t.now, due := true } ∧
        u.reg (Reg.LOOP_G_TICKS g) = s.reg (Reg.LOOP_G_TICKS g) + 1 ∧
        (∀ i ∈ groupSlots g s, (s.slot i).fresh = true → u.slot i = { s.slot i with
          fresh := false, i := slotSafe i s * 65536, yPrev := none, u := slotSafe i s, held := none, side := 0, record := [] }) ∧
        (∀ i ∈ groupSlots g s, (s.slot i).fresh = false → u.slot i = { s.slot i with
          held := if oscAct i s then (s.slot i).held else none }) ∧
        (∀ i, i ∉ groupSlots g s → u.slot i = s.slot i) ∧
        (s.enabled 0x59 = true → capState g s = 1 → capState g u = if capMode g s = 1 ∧ (capRegion g s).2 < 2 then 3 else 2)) ∧
    (∀ (g : Fin 8) (frames : List (Fin 4 × List Word)) (v : State), s.enabled 0x58 = true → (s.group g).due = true →
      v = takeFrames g frames (t.setGroup g { s.group g with due := false }) →
      (∃ u, exec (.loopAcqDone dt g frames true) s = .next (settle u) ∧ (u.group g).due = false ∧
        u.rb (Reg.evtStatus 0x58) 11 = true ∧ ∀ i, u.slot i = s.slot i) ∧
      (∀ i, groupSlots g s = [i] → (s.slot i).fresh = true →
        ∃ u, exec (.loopAcqDone dt g frames false) s = .next (settle u) ∧ (u.group g).due = false ∧ ∀ j, u.slot j = s.slot j) ∧
      (∀ i, groupSlots g s = [i] → (s.slot i).fresh = false → capState g s ≠ 2 → s.inForce (Reg.LOOP_G_HYST g) = 0 →
        (∀ (y : Int) (k : PidK) (w : Int), loopSource g (s.rf (Reg.LOOP_S_CFG i) 8 8) v = some y → (s.slot i).held = none →
          k = pidK i s →
          w = clampI (k.omin * 65536) (k.omax * 65536) ((s.slot i).i + sat32 (asr (k.ki * sat32 (k.sp - y) * 65536) k.siS)) →
          ∃ u n, exec (.loopAcqDone dt g frames false) s = .next (settle u) ∧ n = u.slot i ∧ (u.group g).due = false ∧
            n.y = y ∧ n.yPrev = some y ∧ n.e = sat32 (k.sp - y) ∧ n.p = sat32 (asr (k.kp * n.e * 65536) k.spS) ∧
            n.d = (match (s.slot i).yPrev with | some b => sat32 (asr (k.kd * (b - y) * 65536) k.sdS) | none => 0) ∧
            n.f = sat32 (asr (k.kf * (loopSource g (s.rf (Reg.LOOP_S_CFG i) 24 8) v).getD 0 * 65536) k.sfS) ∧
            n.u = clampI k.omin k.omax (asr (n.p + w + n.d + n.f + 32768) 16) ∧ (n.i = w ∨ n.i = (s.slot i).i) ∧
            safeAct i u = false ∧ u.reg Reg.LOOP_UPDATES = s.reg Reg.LOOP_UPDATES + 1 ∧ ∀ j, j ≠ i → u.slot j = s.slot j) ∧
        (loopSource g (s.rf (Reg.LOOP_S_CFG i) 8 8) v = none →
          ∃ u, exec (.loopAcqDone dt g frames false) s = .next (settle u) ∧ (u.slot i).u = slotSafe i s ∧
            (u.slot i).yPrev = none ∧ (u.slot i).i = (s.slot i).i ∧ safeAct i u = true ∧
            (safeAct i s = false → u.rb (Reg.evtStatus 0x58) 8 = true)))) ∧
    (∀ (n : Fin 16) (x : Nat), tget none s.loop.pwmAt n = some x → t.now < x + s.rf (Reg.LOOP_PWM n) 12 20 * 10 →
      exec (.pwmPeriod dt n) s = .next (settle t)) ∧
    (∀ n : Fin 16, s.enabled 0x58 = true → s.rb (Reg.LOOP_PWM n) 0 = true →
      (∀ x, tget none s.loop.pwmAt n = some x → x + s.rf (Reg.LOOP_PWM n) 12 20 * 10 ≤ t.now) →
      ∃ u, exec (.pwmPeriod dt n) s = .next (settle u) ∧ u.words = s.words ∧ tget none u.loop.pwmAt n = some t.now ∧
        (sinksOn s = false → tget 0 u.loop.pwm n = 0) ∧
        ((∀ i < 128, slotOn i s = true → s.rf (Reg.LOOP_S_CFG i) 16 8 ≠ n.val + 1) → tget 0 u.loop.pwm n = 0) ∧
        (∀ i, sinksOn s = true →
          (slots128.find? fun i => slotOn i s && s.rf (Reg.LOOP_S_CFG i) 16 8 == n.val + 1) = some i →
          tget 0 u.loop.pwm n = if (s.slot i).u = 32767 then s.rf (Reg.LOOP_PWM n) 12 20 * 10
            else (s.slot i).u.toNat * (s.rf (Reg.LOOP_PWM n) 12 20 * 10) / 32768))

/-- R326, R328, R330, R337, R339, R340, R341: a slot is enabled where its sources, its sink and the budget allow it, and starts
afresh; while it is enabled only EN may be written, and its PWM pin falls with EN; clearing oscillation bits empties their
records; captures are armed, triggered and stopped. Where its parts go beyond the spec's words they are the model's choice, said
in log entries 47, 50 and 53. -/
def Obligations.LoopSlotsAndCapturesObeyTheirCommands : Prop :=
  ∀ (dt : Nat) (q : Path) (s t : State), t = s.elapse dt →
    (Takes q 0x58 s →
      (∀ (i : Fin 128) (d w : Word), w = putBit d 0 true &&& 0xFFFFFFEF →
        (slotOn i s = false → slotCfgOk i w s = true → ∃ u, exec (.loopSlotEnable dt q i d) s = .next (settle u) ∧
          u.reg (Reg.LOOP_S_CFG i) = w ∧ (u.slot i).fresh = true ∧ (∀ j, j ≠ i.val → u.slot j = s.slot j) ∧
          (∀ a, a ≠ Reg.LOOP_S_CFG i → u.reg a = s.reg a)) ∧
        (slotOn i s = true → w ≠ s.reg (Reg.LOOP_S_CFG i) → ∃ u, exec (.loopSlotEnable dt q i d) s = .next (settle u) ∧
          u.reg (Reg.LOOP_S_CFG i) = s.reg (Reg.LOOP_S_CFG i) ∧ u.rb (Reg.evtStatus 0x58) 0 = true ∧ u.loop = s.loop)) ∧
      (∀ (i : Fin 128) (d w : Word), w = putBit d 0 false &&& 0xFFFFFFEF →
        ((slotOn i s = true ∧ w = putBit (s.reg (Reg.LOOP_S_CFG i)) 0 false) ∨ (slotOn i s = false ∧ slotCfgOk i w s = true)) →
        ∃ u, exec (.loopSlotDisable dt q i d) s = .next (settle u) ∧ u.reg (Reg.LOOP_S_CFG i) = w ∧ (∀ j, u.slot j = s.slot j) ∧
          (slotOn i s = true → 1 ≤ fld w 16 8 → fld w 16 8 ≤ 16 → tget 0 u.loop.pwm (fld w 16 8 - 1) = 0) ∧
          (slotOn i s = false → u.loop = s.loop)) ∧
      (∀ (k : Fin 4) (w : Word), ∃ u, exec (.loopOscActClear dt q k w) s = .next (settle u) ∧
        u.reg (Reg.LOOP_OSC_ACT k) = s.reg (Reg.LOOP_OSC_ACT k) &&& ~~~w ∧ (∀ a, a ≠ Reg.LOOP_OSC_ACT k → u.reg a = s.reg a) ∧
        (∀ b < 32, bit w b = true →
          u.slot (32 * k.val + b) = { s.slot (32 * k.val + b) with side := 0, record := [] }) ∧
        (∀ b < 32, bit w b = false → u.slot (32 * k.val + b) = s.slot (32 * k.val + b)))) ∧
    (∀ g : Fin 8, Takes q 0x59 s → Ready 0x59 Reg.LOOPCAP_CMD_STATUS s →
      (armOk g s = true → ∃ u, exec (.arm dt q g) s = .next (settle u) ∧ u.reg (Reg.LOOPCAP_G_STATE g) = W 1 ∧
        u.capOf g = ⟨0, 127, false, none, 0⟩ ∧ u.reg Reg.LOOPCAP_CMD_STATUS = cmdWord 2 0 0 ∧
        (∀ h, h ≠ g.val → u.capOf h = s.capOf h)) ∧
      (armOk g s = false → exec (.arm dt q g) s =
        .next (settle (writeNote q 0 (cmdError 0x59 Reg.LOOPCAP_CMD_STATUS 1 (config 0x59 t))))) ∧
      (capMode g s = 2 → (capState g s = 1 ∨ capState g s = 2) → exec (.trigger dt q g) s =
        .next (settle (writeNote q 0 (cmdDone 0x59 Reg.LOOPCAP_CMD_STATUS (t.setCap g { s.capOf g with trig := true }))))) ∧
      ((capMode g s ≠ 2 ∨ capState g s = 0 ∨ capState g s = 3) → exec (.trigger dt q g) s =
        .next (settle (writeNote q 0 (cmdError 0x59 Reg.LOOPCAP_CMD_STATUS 1 t)))) ∧
      ((capState g s = 1 ∨ capState g s = 2) → ∃ u, exec (.captureStop dt q g) s = .next (settle u) ∧ capState g u = 3 ∧
        u.rb (Reg.evtStatus 0x59) 8 = true ∧ u.reg Reg.LOOPCAP_CMD_STATUS = cmdWord 2 0 0 ∧ u.loop = s.loop ∧
        u.reg (Reg.LOOPCAP_G_TRIGPTR g) =
          if capMode g s = 2 then W (s.capOf g).last else s.reg (Reg.LOOPCAP_G_TRIGPTR g)) ∧
      ((capState g s = 0 ∨ capState g s = 3) → exec (.captureStop dt q g) s =
        .next (settle (writeNote q 0 (cmdDone 0x59 Reg.LOOPCAP_CMD_STATUS t)))))

/-- R346, R347, R348, R349, R350, R351, R352, R354: MOVE, SPEED and HOME start their profile or end at once, STOP and HALT end it,
also at the instant of the command and at standstill, the driver is enabled and disabled with its waits, the update moves V by the
acceleration, a carry is one step, and limits and the home source stop the axis as they say. Where its parts go beyond the spec's
words they are the model's choice, said in log entries 48 and 52. -/
def Obligations.MotionAxesMoveStopAndHome : Prop :=
  ∀ (dt : Nat) (q : Path) (a : Fin 4) (s t : State) (x : AxisSt) (tgt : Int), t = s.elapse dt → x = s.axis a →
    tgt = sgn 32 (s.reg (Reg.MOTION_TARGET a)).toNat →
    (Takes q 0x60 s → Ready 0x60 (Reg.MOTION_CMD_STATUS a) s →
      (x.st < 2 →
        exec (.move dt q a) s = .next (settle (writeNote q 0 (cmdError 0x60 (Reg.MOTION_CMD_STATUS a) 0x82 t))) ∧
        exec (.speed dt q a) s = .next (settle (writeNote q 0 (cmdError 0x60 (Reg.MOTION_CMD_STATUS a) 0x82 t))) ∧
        exec (.home dt q a) s = .next (settle (writeNote q 0 (cmdError 0x60 (Reg.MOTION_CMD_STATUS a) 0x82 t)))) ∧
      (x.st = 2 → x.v = 0 → s.fire.pinLow = false →
        (x.lost = false → x.pos ≠ tgt → limitAhead x (decide (x.pos < tgt)) = false →
          ∃ u, exec (.move dt q a) s = .next (settle u) ∧ u.reg (Reg.MOTION_CMD_STATUS a) = cmdWord 1 0 0 ∧
            (u.axis a).st = 3 ∧ (u.axis a).mode = 1 ∧ (u.axis a).target = tgt ∧ (u.axis a).fwd = decide (x.pos < tgt) ∧
            (u.axis a).v = s.rf (Reg.MOTION_VSTART a) 0 27 ∧ (u.axis a).pos = x.pos ∧
            (∀ b, b ≠ a.val → u.axis b = s.axis b) ∧ (∀ r, r ≠ Reg.MOTION_CMD_STATUS a → u.reg r = s.reg r)) ∧
        (x.lost = true → ∃ u, exec (.move dt q a) s = .next (settle u) ∧ u.axes = s.axes ∧
          u.reg (Reg.MOTION_CMD_STATUS a) = cmdWord 4 0x81 0) ∧
        (x.lost = false → x.pos = tgt → ∃ u, exec (.move dt q a) s = .next (settle u) ∧ (u.axis a).st = 2 ∧
          u.reg (Reg.MOTION_CMD_STATUS a) = cmdWord 2 0 0) ∧
        (tgt ≠ 0 → tgt.natAbs ≤ vLimit → limitAhead x (decide (0 < tgt)) = false →
          ∃ u, exec (.speed dt q a) s = .next (settle u) ∧ u.reg (Reg.MOTION_CMD_STATUS a) = cmdWord 1 0 0 ∧
            (u.axis a).st = 3 ∧ (u.axis a).mode = 2 ∧ (u.axis a).target = tgt ∧ (u.axis a).fwd = decide (0 < tgt) ∧
            (u.axis a).v = s.rf (Reg.MOTION_VSTART a) 0 27) ∧
        (vLimit < tgt.natAbs → ∃ u, exec (.speed dt q a) s = .next (settle u) ∧ u.axes = s.axes ∧
          u.reg (Reg.MOTION_CMD_STATUS a) = cmdWord 4 1 0) ∧
        (wrongLimit a s = false → ∃ u, exec (.home dt q a) s = .next (settle u) ∧
          u.reg (Reg.MOTION_CMD_STATUS a) = cmdWord 1 0 0 ∧ (u.axis a).st = 5 ∧ (u.axis a).fwd = s.rb (Reg.MOTION_CFG a) 26 ∧
          (u.axis a).latched = none) ∧
        (wrongLimit a s = true → ∃ u, exec (.home dt q a) s = .next (settle u) ∧
          u.reg (Reg.MOTION_CMD_STATUS a) = cmdWord 4 0x83 0 ∧ (u.axis a).st = 2 ∧ u.rb (Reg.evtStatus 0x60) 11 = true))) ∧
    (Takes q 0x60 s → s.enabled 0x60 = true →
      (3 ≤ x.st → x.cmdAt = some t.now → 0 < x.v → x.mode = 1 →
        (x.lost = true ∨ s.rf (Reg.MOTION_PULLIN a) 0 27 < x.v → ∃ u, exec (.motionStopStop dt q a) s = .next (settle u) ∧
          (u.axis a).st = 2 ∧ (u.axis a).v = 0 ∧ (u.axis a).lost = true ∧ u.reg (Reg.MOTION_CMD_STATUS a) = cmdWord 4 0x81 0) ∧
        (x.lost = false → x.v ≤ s.rf (Reg.MOTION_PULLIN a) 0 27 → ∃ u, exec (.motionStopStop dt q a) s = .next (settle u) ∧
          (u.axis a).st = x.st ∧ (u.axis a).v = s.rf (Reg.MOTION_VSTART a) 0 27 ∧ (u.axis a).target = x.target ∧
          (u.axis a).pos = x.pos ∧ u.words = s.words)) ∧
      (3 ≤ x.st →
        (x.cmdAt ≠ some t.now ∨ x.v = 0 → ∃ u, exec (.motionStopStop dt q a) s = .next (settle u) ∧ (u.axis a).st = 2 ∧ (u.axis a).v = 0 ∧
          (s.rf (Reg.MOTION_PULLIN a) 0 27 < x.v → (u.axis a).lost = true ∧ (u.axis a).homed = false ∧
            u.rb (Reg.evtStatus 0x60) 10 = true) ∧
          (x.v ≤ s.rf (Reg.MOTION_PULLIN a) 0 27 → (u.axis a).lost = x.lost ∧ (u.axis a).homed = x.homed) ∧
          (s.cmdBusy (Reg.MOTION_CMD_STATUS a) = true → u.reg (Reg.MOTION_CMD_STATUS a) = cmdWord 4 0x80 0)) ∧
        (0 < x.v → ∃ u, exec (.halt dt q a) s = .next (settle u) ∧ u.axis a = { x with halting := true } ∧ u.words = s.words ∧
          ∀ b, b ≠ a.val → u.axis b = s.axis b) ∧
        (x.v = 0 → ∃ u, exec (.halt dt q a) s = .next (settle u) ∧ (u.axis a).st = 2 ∧ (u.axis a).v = 0 ∧ (u.axis a).lost = x.lost ∧
          (s.cmdBusy (Reg.MOTION_CMD_STATUS a) = true → u.reg (Reg.MOTION_CMD_STATUS a) = cmdWord 4 0x80 0))) ∧
      (x.drvEn = false → s.pair.role ≠ 2 → ∃ u, exec (.drvEnSet dt q a) s = .next (settle u) ∧ (u.axis a).drvEn = true ∧
        (u.axis a).waitAt = some t.now ∧ u.words = s.words ∧
        (u.axis a).st = if s.rb (Reg.MOTION_CFG a) 1 && !x.lost then 1 else 0) ∧
      (x.drvEn = true → x.st = 2 → x.v = 0 → ∃ u, exec (.drvEnClear dt q a) s = .next (settle u) ∧ (u.axis a).drvEn = false ∧
        (u.axis a).st = 0 ∧ (u.axis a).pos = x.pos ∧ (s.rb (Reg.MOTION_CFG a) 1 = false → (u.axis a).lost = true) ∧
        (s.rb (Reg.MOTION_CFG a) 1 = true → (u.axis a).lost = x.lost))) ∧
    (s.released 0x60 = true →
      (∀ w, x.waitAt = some w → w + s.rf (Reg.MOTION_CYCLE a) 16 16 * 1000 ≤ t.now → x.st = 0 →
        ∃ u, exec (.enWaitEnd dt a) s = .next (settle u) ∧ u.words = s.words ∧
          u.axis a = { x with waitAt := none, st := 2, phaseAt := t.now + s.rf (Reg.MOTION_CFG a) 16 8 * 10 }) ∧
      (x.st = 3 → x.restart = none → x.updAt + 1000 ≤ t.now → x.mode = 2 → x.halting = false → x.confirmed = false →
        (0 < x.target ∧ x.fwd = true ∨ x.target < 0 ∧ x.fwd = false) → s.rf (Reg.MOTION_VSTART a) 0 27 ≤ x.v →
        s.rf (Reg.MOTION_JERK a) 0 24 = 0 → x.v + s.rf (Reg.MOTION_ACC a) 0 24 < x.target.natAbs →
        ∃ u, exec (.profileUpdate dt a) s = .next (settle u) ∧ (u.axis a).v = x.v + s.rf (Reg.MOTION_ACC a) 0 24 ∧
          (u.axis a).st = 3 ∧ u.words = s.words) ∧
      (3 ≤ x.st → x.mode ≠ 1 → 2 ^ 32 ≤ (axisSync t x).phase → ∃ u, exec (.stepCarry dt a) s = .next (settle u) ∧
        (u.axis a).pos = pos32 (x.pos + (if x.fwd then 1 else -1)) ∧
        (u.axis a).phase = (axisSync t x).phase - 2 ^ 32 ∧ u.reg (Reg.MOTION_STEPS a) = s.reg (Reg.MOTION_STEPS a) + 1) ∧
      (x.st = 1 → 1 < x.reSteps → 2 ^ 32 ≤ (axisSync t x).phase → ∃ u, exec (.stepCarry dt a) s = .next (settle u) ∧
        (u.axis a).pos = x.pos ∧ (u.axis a).reSteps = x.reSteps - 1) ∧
      (∀ p : Bool, 0 < x.v → (x.st = 3 ∨ x.st = 4) → x.fwd = p → ∃ u, exec (.limittrip dt a p true) s = .next (settle u) ∧
        (u.axis a).v = 0 ∧ (u.axis a).st = 2 ∧ limitAhead (u.axis a) p = true ∧ u.rb (Reg.evtStatus 0x60) 9 = true) ∧
      (∀ p : Bool, ∃ u, exec (.limittrip dt a p false) s = .next (settle u) ∧ limitAhead (u.axis a) p = false ∧ u.words = s.words) ∧
      (x.st = 5 → x.confirmed = false → x.latched = none → ∃ u, exec (.homeEdge dt a) s = .next (settle u) ∧
        u.axis a = { x with latched := some x.pos } ∧ u.words = s.words) ∧
      (∀ l, x.st = 5 → x.confirmed = false → x.latched = some l → x.v ≤ s.rf (Reg.MOTION_PULLIN a) 0 27 →
        ∃ u, exec (.homeConfirm dt a true false) s = .next (settle u) ∧ (u.axis a).st = 2 ∧ (u.axis a).homed = true ∧
          (u.axis a).lost = false ∧ (u.axis a).homeLatch = l ∧
          (u.axis a).pos = pos32 (x.pos - l + sgn 32 (s.reg (Reg.MOTION_HOME_POS a)).toNat)) ∧
      (x.st = 5 → x.confirmed = false → ∃ u, exec (.homeConfirm dt a false false) s = .next (settle u) ∧
        (u.axis a).latched = none ∧ (u.axis a).st = 5))

/-- R357, R358, R359, R362, R363, R364: the heartbeat goes out and comes in, the peer is lost, a takeover raises the claim and
makes the unit ACTIVE, PAIR_EN and DETACH make it STANDBY and DETACHED, YIELD asks to be taken over, JOIN waits for a MIRROR,
MIRROR frames are sent, taken, refused and missed. Where its parts go beyond the spec's words they are the model's choice, said in
log entries 34, 37, 38, 64 and 105. -/
def Obligations.ThePairBeatsTakesOverAndMirrors : Prop :=
  ∀ (dt : Nat) (q : Path) (s t : State), t = s.elapse dt →
    (s.released 0x68 = true → s.enabled 0x68 = true →
      (pairEn s = true → s.pair.role ≠ 0 → s.pair.yielding = false → s.pair.outAt + 500 ≤ t.now →
        exec (.pairAliveToggle dt) s = .next (settle { t with pair := { s.pair with out := !s.pair.out, outAt := t.now } })) ∧
      (s.pair.peerAlive = false → ∃ u, exec (.pairAliveEdge dt) s = .next (settle u) ∧ u.rb (Reg.evtStatus 0x68) 11 = true ∧
        u.pair = { s.pair with edgeAt := some t.now, peerAlive := true, aliveSince := t.now }) ∧
      (∀ e, s.pair.edgeAt = some e → s.pair.peerAlive = true → e + s.rf Reg.PAIR_CFG 0 16 < t.now → s.pair.role ≠ 2 →
        ∃ u, exec (.pairAliveEdge dt) s = .next (settle u) ∧ u.rb (Reg.evtStatus 0x68) 10 = true ∧
          u.rb (Reg.evtStatus 0x68) 11 = true ∧ u.pair = { s.pair with edgeAt := some t.now, aliveSince := t.now }) ∧
      (s.pair.peerAlive = true → (∀ e, s.pair.edgeAt = some e → t.now ≤ e + s.rf Reg.PAIR_CFG 0 16) →
        exec (.pairAliveEdge dt) s = .next (settle { t with pair := { s.pair with edgeAt := some t.now } })) ∧
      (∀ e, s.pair.edgeAt = some e → s.pair.peerAlive = true → e + s.rf Reg.PAIR_CFG 0 16 < t.now → s.pair.role ≠ 2 →
        ∃ u, exec (.peerlost dt) s = .next (settle u) ∧ u.rb (Reg.evtStatus 0x68) 10 = true ∧
          u.pair = { s.pair with peerAlive := false }) ∧
      (pairEn s = true → s.pair.role = 2 → s.pair.peerAlive = true → s.pair.aliveSince + 1000000 ≤ t.now →
        exec (.takeArm dt) s = .next (settle { t with pair := { s.pair with takeArmed := true } })) ∧
      (pairEn s = true → (s.pair.role = 1 ∨ s.pair.role = 2) → s.pair.sentAt + 20000 ≤ t.now → s.quiescing 0x40 = false →
        ∃ u, exec (.mirrorSend dt) s = .next (settle u) ∧
        (s.pair.role = 1 → u.pair.recs = s.pair.recs.drop 125) ∧ u.pair.sentAt = t.now ∧ u.pair.ticks = 0 ∧ u.pair.mseq = (s.pair.mseq + 1) % 65536 ∧
        u.reg Reg.PAIR_MIRROR_TX = s.reg Reg.PAIR_MIRROR_TX + 1) ∧
      (s.pair.mirrorOk = true → s.pair.mirrorAt + s.rf Reg.PAIR_MIRROR_TMO 0 14 * 1000 < t.now →
        ∃ u, exec (.mirrorlost dt) s = .next (settle u) ∧ u.rb (Reg.evtStatus 0x68) 12 = true ∧
          u.pair = { s.pair with mirrorOk := false, aligned := false, checksOk := false, held := true })) ∧
    (s.enabled 0x40 = true → s.enabled 0x68 = true → ∀ p : List Byte, 48 ≤ p.length → p.length ≤ 2048 → (p.length - 48) % 16 = 0 →
      (beAt p 0 1 = 1 → p.length = 48 + 16 * beAt p 6 2 → beAt p 2 2 % 16 ≠ s.chip.straps → s.pair.role ≠ 2 →
        ∃ u, exec (.mirror dt p) s = .next (settle u) ∧ u.reg Reg.PAIR_MIRROR_RX = s.reg Reg.PAIR_MIRROR_RX + 1 ∧
          u.reg Reg.PAIR_PEER_CLAIM = W (beAt p 2 2) ∧
          ((s.pair.mirrorOk = false ∨ t.now ≤ s.pair.mirrorAt + s.rf Reg.PAIR_MIRROR_TMO 0 14 * 1000) →
            u.pair = { s.pair with mirrorAt := t.now, mirrorOk := true, peerActive := beAt p 1 1 % 2 == 1 }) ∧
          (s.pair.mirrorOk = true → s.pair.mirrorAt + s.rf Reg.PAIR_MIRROR_TMO 0 14 * 1000 < t.now →
            u.rb (Reg.evtStatus 0x68) 12 = true ∧ u.pair = { s.pair with
              mirrorAt := t.now, peerActive := beAt p 1 1 % 2 == 1, aligned := false, checksOk := false, held := true })) ∧
      ((beAt p 0 1 ≠ 1 ∨ p.length ≠ 48 + 16 * beAt p 6 2 ∨ beAt p 2 2 % 16 = s.chip.straps) → s.rf (Reg.errCount 0x68 2) 0 16 < 0xFFFF →
        ∃ u, exec (.mirror dt p) s = .next (settle u) ∧ u.pair = s.pair ∧
          u.rf (Reg.errCount 0x68 2) 0 16 = s.rf (Reg.errCount 0x68 2) 0 16 + 1)) ∧
    (Takes q 0x68 s →
      (∀ w : Word, ∃ u, exec (.pairEnWrite dt q w) s = .next (settle u) ∧ u.reg Reg.PAIR_CTRL = w &&& 0x703 ∧
        (s.enabled 0x68 = true → bit w 0 = true → s.pair.role = 0 → u.pair.role = 2 ∧ u.pair.aligned = false ∧
          u.pair.takeArmed = false) ∧
        (bit w 0 = false → u.pair.role = 0 ∧
          (s.pair.role ≠ 0 → s.pair.joining = true → u.reg Reg.PAIR_CMD_STATUS = cmdWord 4 0x80 0))) ∧
      (Ready 0x68 Reg.PAIR_CMD_STATUS s →
        (s.pair.role = 2 → s.fire.st = 1 → ∃ u, exec (.join dt q) s = .next (settle u) ∧
          u.pair = { s.pair with joining := true } ∧ u.reg Reg.PAIR_CMD_STATUS = cmdWord 1 0 0) ∧
        (∀ e f, s.pair.role = 2 → raisedEpoch s = some e → (s.pair.aligned = true ∨ f = true) →
          ∃ u, exec (.take dt q f) s = .next (settle u) ∧ u.pair.role = 1 ∧ u.rf Reg.PAIR_CLAIM 4 12 = e ∧
            u.reg Reg.PAIR_CMD_STATUS = cmdWord 2 0 0 ∧ u.reg Reg.PAIR_TAKEOVERS = s.reg Reg.PAIR_TAKEOVERS + 1 ∧
            u.reg Reg.PAIR_LAST_TAKE = W t.timeNs ∧ u.pair.lastUnaligned = !s.pair.aligned ∧ u.rb (Reg.evtStatus 0x68) 8 = true) ∧
        (∀ f, s.pair.role = 2 → raisedEpoch s = none → (s.pair.aligned = true ∨ f = true) →
          ∃ u, exec (.take dt q f) s = .next (settle u) ∧ u.pair = s.pair ∧ u.reg Reg.PAIR_CMD_STATUS = cmdWord 4 0x82 0) ∧
        (s.pair.role = 2 → s.pair.aligned = false → exec (.take dt q false) s =
          .next (settle (writeNote q 0 (cmdError 0x68 Reg.PAIR_CMD_STATUS 0x81 t)))) ∧
        ((s.pair.role = 1 ∨ s.pair.role = 2) → ∃ u, exec (.detach dt q) s = .next (settle u) ∧ u.pair.role = 0 ∧
          u.pair.out = false ∧ u.pair.yielding = false ∧ u.reg Reg.PAIR_CMD_STATUS = cmdWord 2 0 0) ∧
        (s.pair.role = 1 → ∃ u, exec (.yieldCmd dt q) s = .next (settle u) ∧
          u.pair = { s.pair with yielding := true, out := false } ∧ u.reg Reg.PAIR_CMD_STATUS = cmdWord 2 0 0) ∧
        (s.pair.role = 0 → ∀ f,
          exec (.join dt q) s = .next (settle (writeNote q 0 (cmdError 0x68 Reg.PAIR_CMD_STATUS 0x80 t))) ∧
          exec (.take dt q f) s = .next (settle (writeNote q 0 (cmdError 0x68 Reg.PAIR_CMD_STATUS 0x80 t))) ∧
          exec (.detach dt q) s = .next (settle (writeNote q 0 (cmdError 0x68 Reg.PAIR_CMD_STATUS 0x80 t))) ∧
          exec (.yieldCmd dt q) s = .next (settle (writeNote q 0 (cmdError 0x68 Reg.PAIR_CMD_STATUS 0x80 t))))))

/-- R372, R377, R379, R380, R382, R385: Tally counts A and B, filtered by its own FILT, and adds length above the high-water
count, answers each UART command, burns the audit record of a parameter change (and is BUSY for one while another burns: log entry
49), ignores a request with a bad CRC, and comes back from VSTBY with its totals or zeroed. Where its parts go beyond the spec's
words they are the model's choice, said in log entry 49. -/
def Obligations.TallyCountsAnswersAndBurns : Prop :=
  ∀ (dt : Nat) (s t : State), t = s.elapse dt → s.chip.island = false →
    (∀ (a b : Bool), ((a ≠ s.tally.a ∧ tallyHeld s.tally.aAt t.now s.tally = false) ∨
        (b ≠ s.tally.b ∧ tallyHeld s.tally.bAt t.now s.tally = false)) → exec (.tallyCount dt a b) s = .next (settle t)) ∧
    (∀ (a b fwd : Bool), s.tally.romOk = true → s.tally.live = true →
      (a ≠ s.tally.a → tallyHeld s.tally.aAt t.now s.tally = true) → (b ≠ s.tally.b → tallyHeld s.tally.bAt t.now s.tally = true) →
      (a ≠ s.tally.a → b ≠ s.tally.b → exec (.tallyCount dt a b) s = .next (settle { t with tally := { s.tally with
        a := a, b := b, aAt := some t.now, bAt := some t.now, ill := (s.tally.ill + 1) % 2 ^ 32 } })) ∧
      ((a ≠ s.tally.a ∧ b = s.tally.b ∨ a = s.tally.a ∧ b ≠ s.tally.b) →
        fwd = ((if b ≠ s.tally.b then b == a else a != b) != s.tally.params.invert) →
        ∃ u, exec (.tallyCount dt a b) s = .next (settle u) ∧ u.tally.a = a ∧ u.tally.b = b ∧
          u.tally.aAt = (if a ≠ s.tally.a then some t.now else s.tally.aAt) ∧
          u.tally.bAt = (if b ≠ s.tally.b then some t.now else s.tally.bAt) ∧
          u.tally.cnt = s.tally.cnt + (if fwd then 1 else -1) ∧ u.words = s.words ∧
          ((fwd = false ∨ s.tally.cnt + 1 ≤ s.tally.high) → u.tally.life = s.tally.life ∧ u.tally.high = s.tally.high) ∧
          (fwd = true → s.tally.high < s.tally.cnt + 1 → u.tally.high = s.tally.high + 1 ∧
            u.tally.lenRem = (s.tally.lenRem + 1000000 % s.tally.params.cpm) % s.tally.params.cpm ∧
            tget 0 u.tally.life 0 = (tget 0 s.tally.life 0 + (1000000 / s.tally.params.cpm +
              (s.tally.lenRem + 1000000 % s.tally.params.cpm) / s.tally.params.cpm)) % 2 ^ 64 ∧
            ∀ k, k ≠ 0 → tget 0 u.tally.life k = tget 0 s.tally.life k))) ∧
    (s.tally.romOk = true → s.tally.burn = none →
      exec (.tallyIdent dt [] true false) s = .next (settle (emit (.tally (tallyReply 1 0 (swId ++ beBytes 4 0x6B2ED417 ++
        beBytes 2 (auditCount s.tally) ++ beBytes 2 ((tallyStatus s.tally).toNat % 65536)))) t)) ∧
      exec (.totals dt [] true false) s = .next (settle (emit (.tally (tallyReply 2 0 (cntBytes s.tally.life))) t)) ∧
      exec (.paramRead dt [] true false) s = .next (settle (emit (.tally (tallyReply 4 0 (paramBytes s.tally.params))) t)) ∧
      (∀ (k : Byte) (j : TallyJob), j = (if k = 0 then s.tally.open_ else at' emptyJob s.tally.hist (k.toNat - 1)) →
        (k.toNat ≤ 16 → exec (.job dt [k] true false) s = .next (settle (emit (.tally (tallyReply 3 0
          (beBytes 2 j.job ++ beBytes 1 j.valid.toNat ++ beBytes 1 0 ++ cntBytes j.cnt))) t))) ∧
        (16 < k.toNat → exec (.job dt [k] true false) s = .next (settle (emit (.tally (tallyReply 3 4 [])) t)))) ∧
      (∀ k : Byte,
        (∀ r, s.tally.audit[k.toNat]? = some r →
          exec (.auditRead dt [k] true false) s = .next (settle (emit (.tally (tallyReply 6 0 r)) t))) ∧
        (s.tally.audit.length ≤ k.toNat →
          exec (.auditRead dt [k] true false) s = .next (settle (emit (.tally (tallyReply 6 4 [])) t)))) ∧
      (∀ p : List Byte, p.length = 20 →
        (64 ≤ s.tally.audit.length →
          exec (.paramWrite dt p true false) s = .next (settle (emit (.tally (tallyReply 5 5 [])) t))) ∧
        (s.tally.audit.length < 64 → s.tally.sealOpen = false →
          exec (.paramWrite dt p true false) s = .next (settle (emit (.tally (tallyReply 5 3 [])) t))) ∧
        (s.tally.audit.length < 64 → s.tally.sealOpen = true → paramsOf (p.take 12) = none →
          exec (.paramWrite dt p true false) s = .next (settle (emit (.tally (tallyReply 5 4 [])) t))) ∧
        (∀ x, s.tally.audit.length < 64 → s.tally.sealOpen = true → paramsOf (p.take 12) = some x →
          exec (.paramWrite dt p true false) s = .next (settle { t with tally := { s.tally with
            burn := some (auditRecord s.tally.audit.length 1 (p.drop 12) (p.take 12) (tget 0 s.tally.life 0 % 2 ^ 32), true) } }))) ∧
      (∀ c : Byte, (c.toNat < 1 ∨ 6 < c.toNat) → exec (.tallyReservedCmd dt c true false) s =
        .next (settle (emit (.tally (tallyReply c.toNat 1 [])) t))) ∧
      (∀ p : List Byte, p ≠ [] →
        exec (.tallyIdent dt p true false) s = .next (settle (emit (.tally (tallyReply 1 2 [])) t)) ∧
        exec (.totals dt p true false) s = .next (settle (emit (.tally (tallyReply 2 2 [])) t)) ∧
        exec (.paramRead dt p true false) s = .next (settle (emit (.tally (tallyReply 4 2 [])) t)))) ∧
    (∀ (r p : List Byte), s.tally.romOk = true → s.tally.burn = some (r, false) → p.length = 20 →
      exec (.paramWrite dt p true false) s = .next (settle (emit (.tally (tallyReply 5 6 [])) t))) ∧
    (∀ (p : List Byte) (busy : Bool), exec (.totals dt p false busy) s = .next (settle t) ∧
      exec (.paramWrite dt p false busy) s = .next (settle t)) ∧
    (∀ (r : List Byte) (reply : Bool), s.tally.burn = some (r, reply) → ∃ u, exec (.tallyBurnDone dt) s = .next (settle u) ∧
      u.tally.audit = s.tally.audit ++ [r] ∧ u.tally.burn = none ∧ u.tally.life = s.tally.life ∧
      (beAt r 2 1 = 1 → u.tally.lenRem = 0 ∧ u.tally.areaRem = 0 ∧
        ∀ x, paramsOf ((r.drop 12).take 12) = some x → u.tally.params = x) ∧
      (reply = true → u.sent = .tally (tallyReply 5 0 (beBytes 2 s.tally.audit.length)) :: s.sent) ∧
      (reply = false → u.sent = s.sent)) ∧
    (exec (.tallyUartGap dt) s = .next (settle t)) ∧
    (∀ low : Bool, exec (.sealOpenChange dt low) s = .next (settle { t with tally := { s.tally with sealOpen := low } })) ∧
    (∀ (z : State) (rom : Bool), z = { s with chip := { s.chip with island := true } } →
      (∃ u, exec (.vstbyPowerOn dt true rom) z = .next (settle u) ∧ u.chip.island = false ∧ u.chip.cause = 0 ∧
        u.chip.resets = 0 ∧ u.tally = { s.tally with romOk := rom, retLost := false }) ∧
      (∃ u, exec (.vstbyPowerOn dt false rom) z = .next (settle u) ∧ u.chip.island = false ∧ u.tally.life = [] ∧
        u.tally.cnt = 0 ∧ u.tally.high = 0 ∧ u.tally.retLost = true ∧ u.tally.params = s.tally.params ∧
        (s.tally.audit.length < 64 → u.tally.burn.isSome = true)))

/-- R387, R388, R389, R390, R391: heartbeats and their staleness, restarts and halts of the cores, and the mailboxes' data,
doorbells and acknowledgements, with their order at one instant. Where its parts go beyond the spec's words they are the model's
choice, said in log entries 11, 54 and 104. -/
def Obligations.CoresBeatAndMailboxesCarryMessages : Prop :=
  ∀ (dt : Nat) (q : Path) (s t : State), t = s.elapse dt →
    (∀ i : Fin 11, svcRuns i s = true → ∃ u, exec (.svcHeartbeat dt i) s = .next (settle u) ∧
      u.reg (Reg.SVC_HB i) = s.reg (Reg.SVC_HB i) + 1 ∧ tget 0 u.svc.hbAt i = t.now ∧ u.rb Reg.SVC_STALE i = false ∧
      (s.rb Reg.SVC_STALE i = true → u.rb (Reg.evtStatus 9) 9 = true)) ∧
    (∀ i : Fin 11, s.released 9 = true → s.rb Reg.SVC_STALE i = false →
      tget 0 s.svc.hbAt i + 4 * s.rf Reg.SVC_HB_PERIOD 0 17 * 1000 ≤ t.now →
      ∃ u, exec (.svcstale dt i) s = .next (settle u) ∧ u.rb Reg.SVC_STALE i = true ∧ u.rb (Reg.evtStatus 9) 8 = true ∧
        u.svc = s.svc) ∧
    (∀ c : Fin 4, Takes q 9 s → Ready 9 Reg.SVC_CMD_STATUS s →
      (∀ b, s.svc.slot = some b → ∃ u, exec (.restart dt q c) s = .next (settle u) ∧ coreState c u = 1 ∧
        u.reg Reg.SVC_CMD_STATUS = cmdWord 2 0 0 ∧ u.reg Reg.SVC_RESTARTS = s.reg Reg.SVC_RESTARTS + 1 ∧
        (∀ d < 4, d ≠ c.val → coreState d u = coreState d s)) ∧
      (s.svc.slot = none → exec (.restart dt q c) s =
        .next (settle (writeNote q 0 (cmdError 9 Reg.SVC_CMD_STATUS 3 t))))) ∧
    (∀ c : Fin 4, s.released 9 = true → coreState c s = 1 → ∃ u, exec (.corehalt dt c) s = .next (settle u) ∧
      coreState c u = 2 ∧ u.rb (Reg.evtStatus 9) 11 = true ∧ (∀ d < 4, d ≠ c.val → coreState d u = coreState d s)) ∧
    (Takes q 8 s →
      (∀ (m : Fin 32) (w : Fin 16) (d : Word),
        (sideOk q (mbxExtSender m) = true → ∃ u, exec (.mbxDataWrite dt q m w d) s = .next (settle u) ∧
          u.reg (Reg.MBX_DATA m w) = d ∧ (mbxFull m s = true → u.rb Reg.MBX_COLL m = true ∧ u.rb (Reg.evtStatus 8) 10 = true) ∧
          (mbxFull m s = false → tget none s.svc.acked m = some t.now →
            u.rb Reg.MBX_COLL m = true ∧ u.rb (Reg.evtStatus 8) 10 = true) ∧
          (mbxFull m s = false → tget none s.svc.acked m ≠ some t.now → ∀ a, a ≠ Reg.MBX_DATA m w → u.reg a = s.reg a)) ∧
        (sideOk q (mbxExtSender m) = false →
          exec (.mbxDataWrite dt q m w d) s = .next (settle (writeNote q 0 (config 8 t))))) ∧
      (∀ d : Word, ∃ u, exec (.mbxDoorbell dt q d) s = .next (settle u) ∧
        (∀ m < 32, mbxFull m u = (mbxFull m s || (bit d m && sideOk q (mbxExtSender m)))) ∧
        (∀ m < 32, bit d m = true → sideOk q (mbxExtSender m) = true → mbxFull m s = true → u.rb Reg.MBX_COLL m = true) ∧
        (∀ m < 32, bit d m = true → sideOk q (mbxExtSender m) = true → 10 < m → u.rb (Reg.evtStatus 8) 8 = true)) ∧
      (s.svc.replies = [] → ∀ d : Word, ∃ u, exec (.mbxAck dt q d) s = .next (settle u) ∧
        (∀ m < 32, mbxFull m u = (mbxFull m s && (!(bit d m && sideOk q (mbxExtReceiver m)) || (rangNow m t).isSome))) ∧
        (∀ m < 32, ∀ c, bit d m = true → sideOk q (mbxExtReceiver m) = true → mbxFull m s = true → rangNow m t = some c →
          u.rb Reg.MBX_COLL m = c.1) ∧
        (∀ m < 32, bit d m = true → sideOk q (mbxExtReceiver m) = true → mbxFull m s = true → u.rb Reg.MBX_EMPTIED m = true)))

/-- R393, R394, R395, R398, R399: the requests the services answer: PING, DISCOVER, LOG_READ, LOG_MARK and the firmware messages;
and the window of the carried-over registers. Where its parts go beyond the spec's words they are the model's choice, said in log
entries 56 and 72. -/
def Obligations.ServicesAnswerAndTheWindowIsKept : Prop :=
  ∀ (dt : Nat) (s t : State), t = s.elapse dt → s.released 9 = true →
    (∀ (i : Fin 11) (seq : Nat), Asks i 1 seq [] s → ∃ u, exec (.ping dt i) s = .next (settle u) ∧
      Answers i 1 seq 0 (beBytes 4 (s.reg (Reg.SVC_HB i)).toNat ++ beBytes 4 (s.reg Reg.SVC_VERSION).toNat) u) ∧
    (∀ (seq : Nat) (h : Byte), Asks 9 0x20 seq [h] s → h.toNat < 32 →
      (s.svc.disc = none → ∃ u, exec (.discover dt) s = .next (settle u) ∧ u.svc.disc = some (h.toNat, seq) ∧
        mbxFull 9 u = false) ∧
      (s.svc.disc ≠ none → ∃ u, exec (.discover dt) s = .next (settle u) ∧ Answers 9 0x20 seq 5 [] u)) ∧
    (∀ (seq : Nat) (p : List Byte), Asks 10 0x10 seq p s → p.length = 4 →
      (beAt p 0 4 < s.svc.logNext → s.svc.logNext ≤ beAt p 0 4 + 1024 → ∃ u, exec (.logRead dt) s = .next (settle u) ∧
        Answers 10 0x10 seq 0
          (beBytes 4 (beAt p 0 4) ++ at' [] s.svc.log (s.svc.logNext - 1 - beAt p 0 4) ++ beBytes 4 (s.svc.logNext - 1)) u) ∧
      (s.svc.logNext ≤ beAt p 0 4 → ∃ u, exec (.logRead dt) s = .next (settle u) ∧ Answers 10 0x10 seq 3 [] u)) ∧
    (∀ (seq : Nat) (p : List Byte), Asks 10 0x11 seq p s → 2 ≤ p.length → p.length ≤ 28 →
      ∃ u page, exec (.logMark dt) s = .next (settle u) ∧ Answers 10 0x11 seq 0 [] u ∧ u.svc.logNext = s.svc.logNext + 1 ∧
        u.svc.log = ((beBytes 4 t.timeNs ++ beBytes 1 page ++ beBytes 1 0 ++ beBytes 2 (beAt p 0 2) ++
          (p.drop 2 ++ List.replicate 24 0).take 24) :: s.svc.log).take 1024) ∧
    (∀ (seq : Nat) (p : List Byte), Asks 10 0x40 seq p s → p.length = 5 → beAt p 0 1 ≤ 1 → s.svc.slot ≠ some (beAt p 0 1) →
      beAt p 1 4 ≤ 8388608 → ∃ u, exec (.fwBegin dt) s = .next (settle u) ∧ Answers 10 0x40 seq 0 [] u ∧
        u.svc.stage = some ⟨beAt p 0 1, beAt p 1 4, 0⟩ ∧
        (∀ a, slotBase (beAt p 0 1) ≤ a → a < slotBase (beAt p 0 1) + 0x800000 → mget flashDefault u.flash a = 0xFF)) ∧
    (∀ (seq : Nat) (p : List Byte) (st : FwStage), Asks 10 0x41 seq p s → s.svc.stage = some st → p.length = 5 + beAt p 4 1 →
      0 < beAt p 4 1 → beAt p 4 1 ≤ 52 → beAt p 0 4 = st.written → st.written + beAt p 4 1 ≤ st.length →
      ∃ u, exec (.fwData dt) s = .next (settle u) ∧ Answers 10 0x41 seq 0 [] u ∧
        u.svc.stage = some { st with written := st.written + beAt p 4 1 } ∧
        u.flashRead (slotBase st.slot + st.written) (beAt p 4 1) = p.drop 5) ∧
    (∀ (seq : Nat) (st : FwStage) (ok : Bool), Asks 10 0x42 seq [] s → s.svc.stage = some st →
      ∃ u, exec (.fwEnd dt ok) s = .next (settle u) ∧ Answers 10 0x42 seq 0 (beBytes 1 (imageCheck st.slot (!ok) s)) u ∧
        u.svc.stage = none) ∧
    (∀ (seq : Nat) (p : List Byte), Asks 10 0x41 seq p s → s.svc.stage = none →
      ∃ u, exec (.fwData dt) s = .next (settle u) ∧ Answers 10 0x41 seq 3 [] u) ∧
    (∀ (q : Path) (n : Fin 16) (o : BitVec 16) (w : Word), Takes q 0x58 s → o.toNat = 0x3004 + 0x20 * n.val →
      (s.shadowPending 0x58 = false → ∃ u, exec (.yhWindowWrite dt q o w) s = .next (settle u) ∧
        u.reg (Reg.LOOP_S_SP n) = w ∧ (u.path q).status = 0) ∧
      (s.shadowPending 0x58 = true → exec (.yhWindowWrite dt q o w) s = .next (settle (writeNote q 0 (config 0x58 t))))) ∧
    (∀ (q : Path) (o : BitVec 16) (w : Word), Takes q 0x58 s → o.toNat ∈ [0x2000, 0x2010, 0x2014, 0x3014, 0x31F4] →
      exec (.yhWindowWrite dt q o w) s = .next (settle (writeNote q 6 t)))

/-- R401, R403, R404, R406, R408, R410, R414, R415, R416: what holds the chip in reset and what every page then holds, how a reset
ends and is recorded, how the domains follow, the option loader's verdict, and how block resets are taken, forced and ended. Where
its parts go beyond the spec's words they are the model's choice, said in log entries 20, 21, 75 and 76. -/
def Obligations.ResetsHoldReleaseAndAreRecorded : Prop :=
  ∀ (dt : Nat) (s t : State), t = s.elapse dt →
    (∀ (r : Rail) (ns : Nat),
      (ns < 1000 → exec (.porAssert dt r ns) s = .next (settle t)) ∧
      (1000 ≤ ns → ∃ u, exec (.porAssert dt r ns) s = .next (settle u) ∧ u.chip.rel = 0 ∧ u.chip.por = true ∧
        u.chip.pend = [] ∧ u.chip.run = none ∧ u.tally.life = s.tally.life ∧ (r = .vio18 → u.tally.live = false) ∧
        (∀ p ∈ pages, p ≠ 0x70 → ∀ o < 0x1000, u.reg (pg p o) = resetWord (pg p o)))) ∧
    (∀ rise : Bool, s.chip.por = true →
      ((s.chip.rstLow = false ∨ rise = true) → ∃ u, exec (.porRelease dt rise) s = .next (settle u) ∧ u.chip.por = false ∧
        u.chip.porAt = some t.now ∧ u.chip.rstLow = false ∧ u.chip.cause = 1 ∧ u.chip.resets = (s.chip.resets + 1) % 2 ^ 32 ∧ u.chip.since = t.now ∧
        u.chip.cold = (s.chip.resets == 0) ∧ u.tally.live = true) ∧
      (s.chip.rstLow = true → rise = false → ∃ u, exec (.porRelease dt rise) s = .next (settle u) ∧ u.chip.por = false ∧
        u.chip.rstLow = true ∧ u.chip.resets = s.chip.resets)) ∧
    (s.chip.rstLow = true →
      (s.chip.por = false → ∃ u, exec (.resetNRise dt) s = .next (settle u) ∧ u.chip.rstLow = false ∧
        u.chip.cause = (if s.chip.porAt = some t.now then 1 else 2) ∧
        u.chip.resets = (s.chip.resets + 1) % 2 ^ 32 ∧ u.chip.since = t.now) ∧
      (s.chip.por = true → exec (.resetNRise dt) s =
        .next (settle { t with chip := { s.chip with rstLow := false } }))) ∧
    (∀ (beat : BitVec 12) (straps : Fin 16) (e : BitVec 2), s.chip.por = false → s.chip.rstLow = false → s.chip.rel < 8 →
      s.chip.loading = false →
      (s.chip.since + releaseBeats s.chip.rel * beat.toNat ≤ t.now →
        ∃ u, exec (.domainRelease dt beat straps e) s = .next (settle u) ∧ u.chip.rel = s.chip.rel + 1 ∧ u.chip.since = t.now ∧
          u.chip.loading = decide (s.chip.rel = 0)) ∧
      (t.now < s.chip.since + releaseBeats s.chip.rel * beat.toNat →
        exec (.domainRelease dt beat straps e) s = .next (settle t))) ∧
    (∀ (answers otp : Bool) (b : List Byte), s.chip.rel = 1 → s.chip.loading = true →
      b = (if answers then s.flashRead 0 256 else List.replicate 256 0xFF) →
      ∃ u, exec (.optionLoadDone dt answers otp) s = .next (settle u) ∧ u.chip.loading = false ∧ u.chip.since = t.now ∧
        u.chip.opt.valid = true ∧ u.chip.opt.fail = optFail b ∧ u.chip.opt.defaulted = decide (optFail b ≠ 0) ∧
        u.chip.opt.otpValid = otp ∧ u.chip.opt.block = b ∧ u.words = s.words) ∧
    (s.chip.run = none → 2 ≤ s.chip.rel → s.chip.pend ≠ [] → ∃ u r, exec (.blockResetStart dt) s = .next (settle u) ∧
      r ∈ s.chip.pend ∧ (∀ x ∈ s.chip.pend, r.group ≤ x.group) ∧ u.chip.run = some r ∧ u.chip.pend = s.chip.pend.erase r ∧
      u.reg Reg.RST_BUSY = W (1 + 256 * r.group) ∧ ∀ p ∈ blkGroup r.page, u.quiescing p = true) ∧
    (∀ r : BlkReset, s.chip.run = some r → r.held = none → r.page ≠ 0x01 → s.released 1 = true →
      (∃ p ∈ blkGroup r.page, quiesced p s = false) →
      (∀ p ∈ blkGroup r.page, quiesced p s = true ∨ r.at_ + s.rf (Reg.RST_QUIESCE_TIMEOUT p) 0 16 * 1000 ≤ t.now) →
      ∃ u, exec (.quiesceTimeout dt) s = .next (settle u) ∧ u.chip.run = some { r with forced := true, held := some t.now } ∧
        u.rb (Reg.evtStatus 1) 9 = true) ∧
    (∀ (r : BlkReset) (h : Nat) (beat : BitVec 12), s.chip.run = some r → r.held = some h → h + 16 * beat.toNat ≤ t.now →
      2 ≤ s.chip.rel → ∃ u, exec (.blkreset dt beat) s = .next (settle u) ∧ u.chip.run = none ∧
        u.reg Reg.RST_LAST = W (r.group + 256 * r.forced.toNat) ∧ u.reg Reg.RST_LAST_TIME = W t.timeNs ∧
        u.reg Reg.RST_BUSY = 0 ∧ u.reg Reg.RST_BLK_RESETS = s.reg Reg.RST_BLK_RESETS + 1 ∧ u.rb (Reg.evtStatus 1) 8 = true) ∧
    (∀ ns : Nat, (ns < 1000 → exec (.islandPorAssert dt ns) s = .next (settle t)) ∧
      (1000 ≤ ns → ∃ u, exec (.islandPorAssert dt ns) s = .next (settle u) ∧ u.chip.island = true ∧ u.tally.burn = none ∧
        u.tally.life = s.tally.life ∧ u.chip.rel = s.chip.rel ∧ (s.tally.burn = none → u.tally = s.tally))) ∧
    (2 ≤ s.chip.rel → 2 ^ 48 * (s.chip.upWraps + 1) ≤ uptime t → s.released 0 = true →
      ∃ u, exec (.uptimeWrap dt) s = .next (settle u) ∧ u.rb (Reg.evtStatus 0) 2 = true ∧
        u.chip.upWraps = s.chip.upWraps + 1)

/-- R402: a low level of RESET_N of 1 µs or more resets the chip, one shorter than 200 ns changes nothing, and one between the two
either resets the chip as a whole or changes nothing: never a part of it. Which of the two is free. -/
def Obligations.ResetNIsFilteredByItsLowTime : Prop :=
  ∀ (dt ns : Nat) (s : State),
    (∃ v, exec (.resetNLow dt ns) s = .next v) ∧
    (1000 ≤ ns → ∃ u, exec (.resetNLow dt ns) s = .next (settle u) ∧ u = rstAssert (s.elapse dt) ∧
      u.chip.rel = 0 ∧ u.chip.rstLow = true ∧ u.chip.pend = [] ∧ u.chip.run = none ∧
          (∀ p ∈ pages, p ≠ 0x70 → ∀ o < 0x1000, u.reg (pg p o) = resetWord (pg p o))) ∧
    (ns < 200 → exec (.resetNLow dt ns) s = .next (settle (s.elapse dt))) ∧
    (200 ≤ ns → ns < 1000 → ∃ u, exec (.resetNLow dt ns) s = .next (settle u) ∧
      ((u.chip.rel = 0 ∧ u.chip.rstLow = true ∧ u.chip.pend = [] ∧ u.chip.run = none ∧
          (∀ p ∈ pages, p ≠ 0x70 → ∀ o < 0x1000, u.reg (pg p o) = resetWord (pg p o))) ∨
        u = { (s.elapse dt) with freeIdx := s.freeIdx + 1 }))

/-- R434, R435, R436, R438: GPIO_SET and GPIO_CLR change the output bits they name, an enabled edge latches its bit, the debug
UART's FIFOs take and give their bytes in order, and the JTAG port: five clocks with TMS high reset it, a data scan then reads
IDCODE, all ones is BYPASS, HIGHZ lets every ball go and EXTEST and CLAMP put the boundary register on it. The TAP's states are
IEEE 1149.1's, which the spec names and does not restate: the model's choice, log entry 51. Where its parts go beyond the spec's
words they are the model's choice, said in log entries 11, 51 and 57. -/
def Obligations.GpioAndDebugUartAct : Prop :=
  ∀ (dt : Nat) (q : Path) (s t : State) (w : Word), t = s.elapse dt →
    (Takes q 0x7E s →
      exec (.gpioSet dt q w) s =
        .next (settle (writeNote q 0 (t.setReg Reg.GPIO_OUT (s.reg Reg.GPIO_OUT ||| (w &&& W 0xFFFF))))) ∧
      exec (.gpioClr dt q w) s =
        .next (settle (writeNote q 0 (t.setReg Reg.GPIO_OUT (s.reg Reg.GPIO_OUT &&& ~~~(w &&& W 0xFFFF)))))) ∧
    (∀ (n : Fin 16) (l : Bool), s.released 0x7E = true → s.rb Reg.GPIO_DIR n = false →
      (s.rb Reg.GPIO_IN n = l → exec (.gpioedge dt n l) s = .next (settle t)) ∧
      (s.rb Reg.GPIO_IN n ≠ l → ∃ u, exec (.gpioedge dt n l) s = .next (settle u) ∧ u.rb Reg.GPIO_IN n = l ∧
        (s.rb (if l then Reg.GPIO_RISE else Reg.GPIO_FALL) n = true →
          u.rb Reg.GPIO_EDGE n = true ∧ u.rb (Reg.evtStatus 0x7E) 8 = true) ∧
        (s.rb (if l then Reg.GPIO_RISE else Reg.GPIO_FALL) n = false → ∀ a, a ≠ Reg.GPIO_IN → u.reg a = s.reg a))) ∧
    (Takes q 0x7F s →
      (s.rb Reg.DEBUG_UART_CTRL 0 = true → s.dbg.tx.length < 16 → exec (.debugUartTxWrite dt q w) s =
        .next (settle (writeNote q 0 { t with dbg := { s.dbg with tx := s.dbg.tx ++ [BitVec.ofNat 8 (fld w 0 8)] } }))) ∧
      ((s.rb Reg.DEBUG_UART_CTRL 0 = false ∨ 16 ≤ s.dbg.tx.length) →
        exec (.debugUartTxWrite dt q w) s = .next (settle (writeNote q 0 (config 0x7F t))))) ∧
    (s.enabled 0x7F = true →
      (∀ b : Byte, s.rb Reg.DEBUG_UART_CTRL 0 = true →
        (s.dbg.rx.length < 16 → exec (.dbgRxByte dt b) s =
          .next (settle { t with dbg := { s.dbg with rx := s.dbg.rx ++ [b] } })) ∧
        (16 ≤ s.dbg.rx.length → ∃ u, exec (.dbgRxByte dt b) s = .next (settle u) ∧ u.dbg = s.dbg ∧
          u.rb (Reg.evtStatus 0x7F) 9 = true)) ∧
      (∀ (b : Byte) (l : List Byte), s.dbg.tx = b :: l → exec (.dbgTxByteSent dt) s =
        .next (settle { t with dbg := { s.dbg with tx := l }, sent := .dbg b :: s.sent }))) ∧
    (∀ (j : JtagSt) (l : List (Bool × List Bool)), 5 ≤ l.length →
      (l.foldl (fun j x => tapClock true x.1 x.2 j) j).phase = .logicReset ∧
      (l.foldl (fun j x => tapClock true x.1 x.2 j) j).op = .idcode) ∧
    (∀ (j : JtagSt) (d0 : Bool) (pins : List Bool) (l : List Bool), j.phase = .captureDr → j.op = .idcode → l.length < 32 →
      tapTdo (l.foldl (fun j d => tapClock false d pins j) (tapClock false d0 pins j)) =
        some ((0x14810337 : Word).getLsbD l.length)) ∧
    (∀ n : Nat, tapDecode (List.replicate n true) = .bypass) ∧
    (∀ (b : Ball) (core : Option Bool),
      (s.jtag.op = .highz → ballLevel b core s = none) ∧
      (s.jtag.op = .extest ∨ s.jtag.op = .clamp →
        ballLevel b core s = some ((s.jtag.boundary.drop (Config.tapCell b)).head?.getD false)) ∧
      (s.jtag.op = .idcode ∨ s.jtag.op = .bypass ∨ s.jtag.op = .sample → ballLevel b core s = core))

/-- R8, R42, R77, R105, R199, R230, R283, R342, R343, R385, R438: The reads that latch or take. A read of ENC_POS, TIME_NS,
CAM_FSTAT_NO, LOOP_MON_Y or TALLY_STATUS returns its value and keeps, for its path alone, the values that belong to it: whatever
the block does before the path's next reads, they return those. LOOPCAP_DATA steps its address, DEBUG_UART_RX takes the oldest
byte. A read of the low word of a wide counter returns it and latches the upper part of the same value for that path: whatever the
counter does before the path's next read of it, the upper word then read belongs to the low word. A read of the read-clear
registers FAB_C0_LAT_MAX and INFL_BAND_TIME_MAX returns the value held and clears it as part of the same access. Where its parts
go beyond the spec's words they are the model's choice, said in log entries 9 and 53. -/
def Obligations.ReadsThatLatchTakeOrClear : Prop :=
  (∀ (dt : Nat) (q : Path) (s t : State), t = s.elapse dt →
       (Reads q 0x1C s → ∃ u, exec (.encPosRead dt q) s = .next (settle u) ∧ (u.path q).data = [W (srcX t)] ∧ u.words = s.words ∧
         (∀ r, r ≠ q → u.path r = s.path r) ∧ ∀ v : State, v.path q = u.path q →
           (readReg q 0x1C 0x084 v).1 = W (wrapN 32 (srcT t)) ∧ (readReg q 0x1C 0x088 v).1 = W (srcTc t) ∧
           (readReg q 0x1C 0x08C v).1 = W (wrapN 32 (speedOf (srcFwd t) (srcTc t)))) ∧
       (Reads q 0x42 s → ∃ u, exec (.timeNsRead dt q) s = .next (settle u) ∧ (u.path q).data = [W t.timeNs] ∧ u.words = s.words ∧
         (∀ r, r ≠ q → u.path r = s.path r) ∧ ∀ v : State, v.path q = u.path q →
           (readReg q 0x42 0x048 v).1 = W (timeWrap t) ∧
           ∀ i < 4, (readReg q 0x42 (0x080 + 4 * i) v).1 = at' 0 s.time.epoch i) ∧
       (∀ p : Fin 4, Reads q (0x20 + p.val) s → ∃ u, exec (.camFstatNoRead dt q p) s = .next (settle u) ∧
         (u.path q).data = [at' 0 (s.cam p).stats 0] ∧ u.words = s.words ∧ (∀ r, r ≠ q → u.path r = s.path r) ∧
         ∀ v : State, v.path q = u.path q → ∀ k, 1 ≤ k → k ≤ 5 →
           (readReg q (0x20 + p.val) (0x080 + 4 * k) v).1 = at' 0 (s.cam p).stats k) ∧
       (Reads q 0x58 s → ∃ u, exec (.loopMonYRead dt q) s = .next (settle u) ∧ (u.path q).data = [loopMon 0x044 s] ∧
         u.words = s.words ∧ (∀ r, r ≠ q → u.path r = s.path r) ∧ ∀ v : State, v.path q = u.path q →
           ∀ o ∈ [0x048, 0x04C, 0x050], (readReg q 0x58 o v).1 = loopMon o s) ∧
       (Reads q 0x70 s → ∃ u, exec (.tallyStatusRead dt q) s = .next (settle u) ∧ (u.path q).data = [tallyStatus s.tally] ∧
         u.words = s.words ∧ (∀ r, r ≠ q → u.path r = s.path r) ∧ ∀ v : State, v.path q = u.path q →
           ∀ i < 239, (readReg q 0x70 (0x044 + 4 * i) v).1 = tallyWord (0x044 + 4 * i) s.tally) ∧
       (Reads q 0x59 s → ∃ u, exec (.loopcapDataRead dt q) s = .next (settle u) ∧
         (u.path q).data = [mget capDefault s.loop.cap (s.rf Reg.LOOPCAP_ADDR 0 14)] ∧
         u.reg Reg.LOOPCAP_ADDR = W ((s.rf Reg.LOOPCAP_ADDR 0 14 + 1) % 16384) ∧
         ∀ a, a ≠ Reg.LOOPCAP_ADDR → u.reg a = s.reg a) ∧
       (Reads q 0x7F s →
         (s.dbg.rx = [] → exec (.debugUartRxRead dt q) s = .next (settle (pathNote q 0 [0] t))) ∧
         (∀ b l, s.dbg.rx = b :: l → exec (.debugUartRxRead dt q) s =
           .next (settle (pathNote q 0 [W (b.toNat + 256)] { t with dbg := { s.dbg with rx := l } }))))) ∧
  (∀ (dt : Nat) (q : Path) (p o : Nat) (a : BitVec 32) (s : State), a.toNat = pg p o → o < 0x1000 → o % 4 = 0 → Reads q p s →
       wideLow p o = true →
       ∃ u, exec (.wideCounterRead dt q a) s = .next (settle u) ∧ (u.path q).status = 0 ∧
         (u.path q).data = [(wideWords p o (s.elapse dt)).1] ∧ latchedHi q (pg p o) u = (wideWords p o (s.elapse dt)).2 ∧
         (∀ r, r ≠ q → u.path r = s.path r) ∧ u.words = s.words ∧
         (∀ (t : State), t.path q = u.path q → (readReg q p (o + 4) t).1 = (wideWords p o (s.elapse dt)).2)) ∧
  (∀ (dt : Nat) (q : Path) (s : State),
       (Reads q 4 s → exec (.fabC0LatMaxRead dt q) s = .next (settle
         (pathNote q 0 [s.reg Reg.FAB_C0_LAT_MAX] ((s.elapse dt).setReg Reg.FAB_C0_LAT_MAX 0)))) ∧
       (Reads q 0x11 s → exec (.inflBandTimeMaxRead dt q) s = .next (settle
         (pathNote q 0 [s.reg Reg.INFL_BAND_TIME_MAX] ((s.elapse dt).setReg Reg.INFL_BAND_TIME_MAX 0)))))

/-- Frames (R8, R36): what the commands of PACE, INTAKE, INFL, MAP, SCREEN, FIRE, HEADS and HLINK that reach one or two blocks
leave: every state part and every register not named is as before (`evErr p` names EVT_STATUS and ERR_COUNT of page p). -/
def Obligations.PressAndFiringCommandsTouchOnlyTheirOwn : Prop :=
  ∀ (dt : Nat) (q : Path) (s t : State), t = s.elapse dt → Untraced s →
    (∀ (sl : List Int), Only (.paceWindowEnd dt sl) s (fun u => { t with pace := u.pace, sent := u.sent })
        (fun a => a ∈ evErr 3 ++ [Reg.PACE_SLACK 0, Reg.PACE_SLACK 1, Reg.PACE_SLACK 2, Reg.PACE_SLACK 3, Reg.PACE_SETPOINT,
        Reg.PACE_RAMP_STATUS])) ∧
    (Only (.paceServiceUpdate dt) s (fun u => { t with pace := u.pace, sent := u.sent })
        (fun a => a ∈ evErr 3 ++ [Reg.PACE_SETPOINT, Reg.PACE_RAMP_STATUS])) ∧
    (∀ (tj : BitVec 10), Only (.paceTempUpdate dt tj) s (fun u => { t with pace := u.pace }) (fun a => a ∈ evErr 3 ++ [Reg.PACE_TEMP])) ∧
    (∀ (tr : List PmbTry) (rd : PmbRead), Only (.paceRampStep dt tr rd) s (fun u => { t with pace := u.pace, sent := u.sent })
        (fun a => a ∈ evErr 3 ++ [Reg.PACE_VOUT, Reg.PACE_RAMP_STATUS])) ∧
    (∀ (rd : PmbRead), Only (.pmbAlert dt rd) s (fun u => { t with sent := u.sent }) (fun a => a ∈ evErr 3 ++ [Reg.PACE_PMB_STATUS])) ∧
    (Only (.guarback dt) s (fun u => { t with pace := u.pace }) (fun a => a ∈ evErr 3)) ∧
    (∀ (w : Word), Takes q 3 s → Only (.paceSetpointWrite dt q w) s (fun u => { t with pace := u.pace, sent := u.sent })
        (fun a => a ∈ evErr 3 ++ [Reg.PACE_SETPOINT, Reg.PACE_RAMP_STATUS])) ∧
    (∀ (w : Word) (rd : PmbRead), Takes q 3 s → Only (.pmbEnable dt q w rd) s
        (fun u => { t with pace := u.pace, sent := u.sent, freeIdx := u.freeIdx }) (fun a => a ∈ evErr 3 ++ [Reg.PACE_CTRL])) ∧
    (∀ (b : Bool), Only (.cue dt b) s (fun u => { t with intake := u.intake, web := u.web })
        (fun a => a ∈ evErr 0x1C ++ [Reg.WEB_CUE_POS, Reg.WEB_CUE_T])) ∧
    (Only (.bandDispatch dt) s (fun u => { t with intake := u.intake, infl := u.infl, freeIdx := u.freeIdx }) (fun _ => False)) ∧
    (∀ (e16 : List (Fin 16)), Only (.stripDone dt e16) s
        (fun u => { t with intake := u.intake, infl := u.infl, dramc := u.dramc, fab := u.fab, freeIdx := u.freeIdx, pace := u.pace })
        (fun a => pageNo a ∈ [0x10, 0x11, 0x4A]) ∧
      Only (.stripfail dt e16) s (fun u =>
          { t with intake := u.intake, infl := u.infl, dramc := u.dramc, fab := u.fab, freeIdx := u.freeIdx, pace := u.pace })
          (fun a => pageNo a ∈ [0x10, 0x11, 0x4A])) ∧
    (∀ (job : BitVec 16), Takes q 0x10 s → Only (.cancelJob dt q job) s
        (fun u => { t with intake := u.intake, infl := u.infl, freeIdx := u.freeIdx })
        (fun a => a ∈ evErr 0x10 ++ [Reg.INTAKE_CMD_STATUS] ∨ pageNo a ∈ [0x11]) ∧
      Only (.clearQueue dt q) s (fun u => { t with intake := u.intake, infl := u.infl, freeIdx := u.freeIdx })
          (fun a => a ∈ evErr 0x10 ++ [Reg.INTAKE_CMD_STATUS] ∨ pageNo a ∈ [0x11])) ∧
    (∀ (pg : Fin 128), Only (.tableCommandDone dt pg) s (fun u => { t with map := u.map, insp := u.insp })
        (fun a => 0x50000000 ≤ a ∨ pageNo a ∈ [0x14, 0x15, 0x17, 0x24])) ∧
    (Takes q 0x17 s → Only (.fireStart dt q) s (fun u => { t with fire := u.fire }) (fun a => a ∈ evErr 0x17 ++ [Reg.FIRE_CMD_STATUS]) ∧
      Only (.fireResume dt q) s (fun u => { t with fire := u.fire }) (fun a => a ∈ evErr 0x17 ++ [Reg.FIRE_CMD_STATUS])) ∧
    (∀ (h : Fin 32), Only (.triggerEdge dt h) s (fun u =>
        { t with delay := u.delay, fire := u.fire, heads := u.heads, sent := u.sent, tally := u.tally })
        (fun a => a ∈ [Reg.HEADS_EDGE h])) ∧
    (∀ (h : Fin 32) (m97 : Fin 97), Only (.tapcal dt h m97) s (fun u => { t with fire := u.fire }) (fun a => a ∈ evErr 0x17)) ∧
    (∀ (b : Bool) (n : Nat), Only (.estop dt b n) s
        (fun u =>
        { t with axes := u.axes, delay := u.delay, failed := u.failed, fire := u.fire, freeIdx := u.freeIdx, heads := u.heads, sent := u.sent })
        (fun a => a ∈ evErr 0x17 ++ evErr 0x18 ++ evErr 0x60 ++ [Reg.HLINK_CMDS, Reg.HLINK_HCMD_STATUS] ++ (List.range 4).map
        Reg.MOTION_CMD_STATUS)) ∧
    (∀ (h : Fin 32), Only (.strobefault dt h) s (fun u =>
        { t with delay := u.delay, failed := u.failed, fire := u.fire, heads := u.heads, sent := u.sent })
        (fun a => a ∈ evErr 0x17 ++ evErr 0x18 ++ [Reg.FIRE_WDOG, Reg.HLINK_CMDS, Reg.HLINK_HCMD_STATUS])) ∧
    (∀ (h : Fin 32), Only (.hlinkCmdTimeout dt h) s
        (fun u => { t with delay := u.delay, failed := u.failed, heads := u.heads, sent := u.sent, fire := u.fire })
        (fun a => a ∈ evErr 0x18 ++ [Reg.HLINK_CMDS, Reg.HLINK_HCMD_STATUS]) ∧
      Only (.rejoinRetry dt h) s (fun u =>
          { t with delay := u.delay, failed := u.failed, heads := u.heads, sent := u.sent, fire := u.fire })
          (fun a => a ∈ evErr 0x18 ++ [Reg.HLINK_CMDS, Reg.HLINK_HCMD_STATUS])) ∧
    (∀ (h : Fin 32), Only (.headlost dt h) s (fun u => { t with heads := u.heads, pair := u.pair })
        (fun a => a ∈ evErr 0x18 ++ [Reg.HLINK_READY] ∨ pageNo a ∈ [0x19])) ∧
    (∀ (w : Word), Takes q 0x18 s → Only (.hlinkHcmd dt q w) s
        (fun u => { t with delay := u.delay, failed := u.failed, heads := u.heads, sent := u.sent, fire := u.fire })
        (fun a => a ∈ evErr 0x18 ++ [Reg.HLINK_CMDS, Reg.HLINK_HCMD_STATUS]) ∧
      Only (.hlinkRejoin dt q w) s (fun u =>
          { t with delay := u.delay, failed := u.failed, heads := u.heads, sent := u.sent, fire := u.fire })
          (fun a => a ∈ evErr 0x18 ++ [Reg.HLINK_CMDS, Reg.HLINK_HCMD_STATUS]))

/-- Frames (R8, R36): what the commands of WEB, the camera ports, INSPECT and TRAV leave: every state part and every register not
named is as before (`evErr p` names EVT_STATUS and ERR_COUNT of page p). -/
def Obligations.WebCameraAndTraverseCommandsTouchOnlyTheirOwn : Prop :=
  ∀ (dt : Nat) (q : Path) (s t : State), t = s.elapse dt → Untraced s →
    (∀ (e2 : Fin 2), Only (.encill dt e2) s (fun u => { t with web := u.web }) (fun a => a ∈ evErr 0x1C) ∧
      Only (.stakestale dt) s (fun u => { t with web := u.web }) (fun a => a ∈ evErr 0x1C)) ∧
    (∀ (e2 : Fin 2), Only (.index dt e2) s (fun u => { t with web := u.web })
        (fun a => a ∈ evErr 0x1C ++ [Reg.WEB_DATUM e2, Reg.WEB_DATUM_T e2, Reg.WEB_IDXCNT e2])) ∧
    (∀ (e2 : Fin 2) (m8 : BitVec 8), Takes q 0x1C s → Only (.load dt q e2) s (fun u => { t with web := u.web })
        (fun a => a ∈ evErr 0x1C ++ [Reg.WEB_CMD_STATUS]) ∧
      Only (.encResume dt q) s (fun u => { t with web := u.web }) (fun a => a ∈ evErr 0x1C ++ [Reg.WEB_CMD_STATUS]) ∧
      Only (.cmpRestart dt q m8) s (fun u => { t with web := u.web }) (fun a => a ∈ evErr 0x1C ++ [Reg.WEB_CMD_STATUS])) ∧
    (∀ (w : Word), Takes q 0x1C s → Only (.webSrcWrite dt q w) s (fun u => { t with web := u.web })
        (fun a => a ∈ evErr 0x1C ++ [Reg.WEB_CTRL])) ∧
    (Only (.stakeSend dt) s (fun u => { t with chain := u.chain, sent := u.sent, web := u.web, time := u.time })
        (fun a => a ∈ evErr 0x40 ++ [Reg.WEB_STAKE_TX, Reg.CHAIN_FWD_FRAMES, Reg.CHAIN_TX_FRAMES])) ∧
    (∀ (l : List Byte), Only (.stakeReceive dt l) s (fun u => { t with web := u.web })
        (fun a => a ∈ evErr 0x40 ++ [Reg.CHAIN_RX_FRAMES] ∨ pageNo a ∈ [0x1C])) ∧
    (∀ (p : Fin 4) (b b2 b3 : Bool) (vc : BitVec 4) (ty : BitVec 6) (px : List (BitVec 12)) (ovr : Option Nat) (n : Nat), Only
        (.camLine dt p b vc ty px b2 ovr b3 n) s (fun u => { t with cams := u.cams })
        (fun a => a ∈ evErr (camPage p) ++ evErr 0x24 ++ [Reg.CAM_OTHER p, Reg.ISP_DYNCNT p, Reg.ISP_STATCNT p])) ∧
    (∀ (p : Fin 4) (id : Byte) (rg : BitVec 16), Takes q (camPage p) s → Only (.queueFs dt q p id) s
        (fun u => { t with cams := u.cams }) (fun a => a ∈ evErr (camPage p) ++ [Reg.CAM_CCI_STATUS p]) ∧
      Only (.runNow dt q p) s (fun u => { t with cams := u.cams }) (fun a => a ∈ evErr (camPage p) ++ [Reg.CAM_CCI_STATUS p]) ∧
      Only (.cciRead dt q p rg) s (fun u => { t with cams := u.cams }) (fun a => a ∈ evErr (camPage p) ++ [Reg.CAM_CCI_STATUS p])) ∧
    (∀ (p : Fin 4) (n33 : Fin 33) (cr : CciResult), Only (.cciListDone dt p n33 cr) s
        (fun u => { t with cams := u.cams, failed := u.failed, sent := u.sent })
        (fun a => a ∈ evErr (camPage p) ++ [Reg.CAM_CCI_STATUS p, Reg.CAM_CCI_RDATA p])) ∧
    (Only (.leaselost dt) s (fun u => { t with trav := u.trav }) (fun a => a ∈ evErr 0x28)) ∧
    (∀ (w : Word), Takes q 0x28 s → Only (.travLease dt q w) s
        (fun u => { t with failed := u.failed, heads := u.heads, map := u.map, sent := u.sent, trav := u.trav })
        (fun a => a ∈ evErr 0x28 ++ evErr 0x18 ++ [Reg.TRAV_MISS_NEW, Reg.TRAV_STEPS_D, Reg.HLINK_CMDS, Reg.HLINK_HCMD_STATUS])) ∧
    (Takes q 0x28 s → Only (.freeze dt q) s (fun u => { t with trav := u.trav }) (fun a => a ∈ evErr 0x28 ++ [Reg.TRAV_CMD_STATUS]) ∧
      Only (.thaw dt q) s (fun u => { t with trav := u.trav }) (fun a => a ∈ evErr 0x28 ++ [Reg.TRAV_CMD_STATUS]) ∧
      Only (.resetState dt q) s (fun u => { t with trav := u.trav }) (fun a => a ∈ evErr 0x28 ++ [Reg.TRAV_CMD_STATUS])) ∧
    (Takes q 0x28 s → Only (.splice dt (some q)) s (fun u => { t with trav := u.trav, web := u.web })
        (fun a => a ∈ evErr 0x28 ++ [Reg.TRAV_CMD_STATUS])) ∧
    (Takes q 0x28 s → Only (.unmiss dt q) s (fun u => { t with map := u.map, trav := u.trav })
        (fun a => a ∈ evErr 0x28 ++ [Reg.TRAV_CMD_STATUS])) ∧
    (∀ (h : Fin 32), Takes q 0x28 s → Only (.resyncSub dt q h) s
        (fun u => { t with failed := u.failed, heads := u.heads, sent := u.sent, trav := u.trav, fire := u.fire })
        (fun a => a ∈ evErr 0x28 ++ evErr 0x18 ++ [Reg.TRAV_CMD_STATUS, Reg.HLINK_CMDS, Reg.HLINK_HCMD_STATUS])) ∧
    (∀ (w : Word), Takes q 0x28 s → Only (.travSubDataWrite dt q w) s (fun u => { t with trav := u.trav })
        (fun a => a ∈ evErr 0x28 ++ [Reg.TRAV_SUBSYNC, Reg.TRAV_NOZ_ADDR]))

/-- Frames (R8, R36): what the commands of the lanes, CHAIN, ETH and TIME leave: every state part and every register not named is
as before (`evErr p` names EVT_STATUS and ERR_COUNT of page p). -/
def Obligations.LaneChainAndTimeCommandsTouchOnlyTheirOwn : Prop :=
  ∀ (dt : Nat) (q : Path) (s t : State), t = s.elapse dt → Untraced s →
    (∀ (q12 : Fin 12) (j : Fin 2), Only (.pllunlock dt q12 j) s (fun u => { t with lanes := u.lanes, chain := u.chain })
        (fun a => a ∈ evErr (0x30 + q12.val) ++ evErr 0x40 ++ [Reg.LANEQ_STATUS q12]) ∧
      Only (.reflost dt q12) s (fun u => { t with lanes := u.lanes, chain := u.chain })
          (fun a => a ∈ evErr (0x30 + q12.val) ++ evErr 0x40 ++ [Reg.LANEQ_STATUS q12])) ∧
    (∀ (l48 : Fin 48) (w : Word) (k3 : BitVec 3), Takes q (lanePage l48) s → Only (.laneCfgWrite dt q l48 w) s
        (fun u => { t with lanes := u.lanes, chain := u.chain, sent := u.sent })
        (fun a => a ∈ evErr (lanePage l48) ++ evErr 0x40 ++ [Reg.LANE_CFG l48, Reg.LANE_CTRL l48, Reg.LANE_PRBS_BITS l48,
        Reg.LANE_PRBS_BITS l48 + 4]) ∧
      Only (.eiEntry dt q l48) s (fun u => { t with lanes := u.lanes, chain := u.chain, sent := u.sent })
          (fun a => a ∈ evErr (lanePage l48) ++ evErr 0x40 ++ [Reg.LANE_CFG l48, Reg.LANE_CTRL l48, Reg.LANE_PRBS_BITS l48,
          Reg.LANE_PRBS_BITS l48 + 4]) ∧
      Only (.eiExit dt q l48) s (fun u => { t with lanes := u.lanes, chain := u.chain, sent := u.sent })
          (fun a => a ∈ evErr (lanePage l48) ++ evErr 0x40 ++ [Reg.LANE_CFG l48, Reg.LANE_CTRL l48, Reg.LANE_PRBS_BITS l48,
          Reg.LANE_PRBS_BITS l48 + 4]) ∧
      Only (.loopSet dt q l48 k3) s (fun u => { t with lanes := u.lanes, chain := u.chain, sent := u.sent })
          (fun a => a ∈ evErr (lanePage l48) ++ evErr 0x40 ++ [Reg.LANE_CFG l48, Reg.LANE_CTRL l48, Reg.LANE_PRBS_BITS l48,
          Reg.LANE_PRBS_BITS l48 + 4])) ∧
    (∀ (l48 : Fin 48), Only (.laneSignalDetect dt l48) s (fun u => { t with lanes := u.lanes }) (fun _ => False) ∧
      Only (.squelch dt l48) s (fun u => { t with lanes := u.lanes }) (fun _ => False) ∧
      Only (.prbsLock dt l48) s (fun u => { t with lanes := u.lanes }) (fun _ => False)) ∧
    (∀ (l48 : Fin 48), Only (.lockup dt l48) s (fun u => { t with lanes := u.lanes, chain := u.chain })
        (fun a => a ∈ evErr (lanePage l48) ++ evErr 0x40)) ∧
    (∀ (lm : LaneMet), Only (.eiReceived dt lm) s (fun u => { t with lanes := u.lanes, chain := u.chain })
        (fun a => a ∈ evErr (lanePage lm.lane) ++ evErr 0x40 ++ [Reg.LANE_SYMERR lm.lane, Reg.LANE_SKIP_INS lm.lane, Reg.LANE_SKIP_DEL
        lm.lane])) ∧
    (∀ (l48 : Fin 48) (b : Bool) (rx : LaneRx), Only (.locklost dt l48 b rx) s (fun u => { t with lanes := u.lanes, chain := u.chain })
        (fun a => a ∈ evErr (lanePage l48) ++ evErr 0x40 ++ [Reg.LANE_LOCKLOSS l48, Reg.LANE_SYMERR l48, Reg.LANE_SKIP_INS l48,
        Reg.LANE_SKIP_DEL l48])) ∧
    (∀ (l48 : Fin 48) (n : Nat) (ints : List Int), Only (.elasterr dt l48 n ints) s (fun u => { t with lanes := u.lanes })
        (fun a => a ∈ evErr (lanePage l48) ++ [Reg.LANE_SYMERR l48, Reg.LANE_SKIP_INS l48, Reg.LANE_SKIP_DEL l48])) ∧
    (∀ (l48 : Fin 48) (b64 : BitVec 64) (rx : LaneRx) (c4 : BitVec 4) (f30 : BitVec 30), Only (.eyeSweep dt l48 b64 rx c4 f30) s
        (fun u => { t with freeIdx := u.freeIdx, lanes := u.lanes })
        (fun a => a ∈ evErr (lanePage l48) ++ [Reg.LANE_SYMERR l48, Reg.LANE_SKIP_INS l48, Reg.LANE_SKIP_DEL l48])) ∧
    (∀ (l48 : Fin 48) (n m : Nat), Only (.prbserr dt l48 n m) s (fun u => { t with lanes := u.lanes })
        (fun a => a ∈ evErr (lanePage l48) ++ [Reg.LANE_PRBS_ERR l48, Reg.LANE_PRBS_BITS l48, Reg.LANE_PRBS_BITS l48 + 4])) ∧
    (∀ (port : Fin 64), Only (.chainTxNext dt port) s (fun u => { t with chain := u.chain, sent := u.sent, time := u.time })
        (fun a => a ∈ evErr 0x40 ++ [Reg.CHAIN_FWD_FRAMES, Reg.CHAIN_TX_FRAMES]) ∧
      Only (.keepSend dt) s (fun u => { t with chain := u.chain, sent := u.sent, time := u.time })
          (fun a => a ∈ evErr 0x40 ++ [Reg.CHAIN_FWD_FRAMES, Reg.CHAIN_TX_FRAMES]) ∧
      Only (.timeSyncSend dt) s (fun u => { t with chain := u.chain, sent := u.sent, time := u.time })
          (fun a => a ∈ evErr 0x40 ++ [Reg.CHAIN_FWD_FRAMES, Reg.CHAIN_TX_FRAMES])) ∧
    (∀ (n64 : Fin 64) (l : List Byte), Only (.keep dt n64 l) s (fun u => { t with chain := u.chain })
        (fun a => a ∈ evErr 0x40 ++ [Reg.CHAIN_RX_FRAMES, Reg.CHAIN_SEEN 0, Reg.CHAIN_SEEN 1])) ∧
    (∀ (n64 : Fin 64), Only (.chainlost dt n64) s (fun u => { t with chain := u.chain })
        (fun a => a ∈ evErr 0x40 ++ [Reg.CHAIN_LOST_NODE, Reg.CHAIN_SEEN 0, Reg.CHAIN_SEEN 1])) ∧
    (∀ (n64 : Fin 64) (l : List Byte), Only (.chainEvent dt n64 l) s
        (fun u => { t with freeIdx := u.freeIdx, sent := u.sent, svc := u.svc }) (fun a => a ∈ evErr 0x40 ++ [Reg.CHAIN_RX_FRAMES])) ∧
    (∀ (b b2 b3 b4 : Bool), Only (.ethLinkChange dt b b2 b3 b4) s (fun u => { t with eth := u.eth, lanes := u.lanes })
        (fun a => a ∈ evErr 0x41 ++ [Reg.ETH_STATUS])) ∧
    (∀ (port : Fin 64) (l : List Byte) (age : Nat), Only (.timeSync dt port l age) s
        (fun u => { t with chain := u.chain, sent := u.sent, time := u.time })
        (fun a => a ∈ evErr 0x40 ++ evErr 0x42 ++ [Reg.CHAIN_RX_FRAMES, Reg.CHAIN_FWD_FRAMES, Reg.CHAIN_TX_FRAMES]) ∧
      Only (.timeDlyreq dt port l age) s (fun u => { t with chain := u.chain, sent := u.sent, time := u.time })
          (fun a => a ∈ evErr 0x40 ++ evErr 0x42 ++ [Reg.CHAIN_RX_FRAMES, Reg.CHAIN_FWD_FRAMES, Reg.CHAIN_TX_FRAMES])) ∧
    (∀ (port : Fin 64) (l : List Byte), Only (.timeDlyrsp dt port l) s (fun u => { t with time := u.time })
        (fun a => a ∈ evErr 0x40 ++ evErr 0x42 ++ [Reg.CHAIN_RX_FRAMES, Reg.TIME_OFFSET, Reg.TIME_DELAY, Reg.TIME_EXCH])) ∧
    (∀ (w : Word), Takes q 0x42 s → Only (.timeOfsIn dt q w) s (fun u => { t with time := u.time })
        (fun a => a ∈ evErr 0x42 ++ [Reg.TIME_OFFSET])) ∧
    (Takes q 0x42 s → Only (.step dt q) s (fun u => { t with time := u.time, web := u.web })
        (fun a => a ∈ evErr 0x42 ++ [Reg.TIME_CMD_STATUS]))

/-- Frames (R8, R36): what the commands of DRAM, DRAMQOS, DRAMTRN, DEFL, LOOP and LOOPCAP leave: every state part and every
register not named is as before (`evErr p` names EVT_STATUS and ERR_COUNT of page p). -/
def Obligations.MemoryDeflateAndLoopCommandsTouchOnlyTheirOwn : Prop :=
  ∀ (dt : Nat) (q : Path) (s t : State), t = s.elapse dt → Untraced s →
    (∀ (c4f : Fin 4), Only (.dramBlockIssue dt c4f) s (fun u => { t with dramc := u.dramc }) (fun _ => False) ∧
      Only (.tokenAccrue dt) s (fun u => { t with dramc := u.dramc }) (fun _ => False)) ∧
    (∀ (c4f : Fin 4) (ecc : Ecc), Only (.dramBlockDone dt c4f ecc) s
        (fun u => { t with badBlocks := u.badBlocks, dramc := u.dramc, fab := u.fab })
        (fun a => a ∈ evErr 0x48 ++ evErr 4 ++ [Reg.FAB_C0_LAT_MAX, Reg.DRAM_RD, Reg.DRAM_RD + 4, Reg.DRAM_WR, Reg.DRAM_WR + 4,
        Reg.DRAM_ECC_ADDR] ∨ pageNo a ∈ [0x4A])) ∧
    (Only (.dramPromote dt) s (fun u => { t with dramc := u.dramc }) (fun a => a ∈ (List.range 4).map Reg.DRAMQOS_PROMO)) ∧
    (∀ (k8 : Fin 8), Only (.refreshDue dt k8) s (fun u => { t with dramc := u.dramc })
        (fun a => a ∈ evErr 0x48 ++ [Reg.DRAM_REF_CNT, Reg.DRAM_MAKEUP]) ∧
      Only (.refreshMakeup dt k8) s (fun u => { t with dramc := u.dramc })
          (fun a => a ∈ evErr 0x48 ++ [Reg.DRAM_REF_CNT, Reg.DRAM_MAKEUP])) ∧
    (∀ (m0 m1 m2 m3 : Fin 5 × Fin 5), Only (.mr4Poll dt m0 m1 m2 m3) s (fun u => { t with dramc := u.dramc })
        (fun a => a ∈ evErr 0x48 ++ [Reg.DRAM_TEMP])) ∧
    (∀ (k8 : Fin 8) (lane : Fin 2) (lo hi : BitVec 64), Only (.rdeyeSweep dt k8 lane lo hi) s
        (fun u => { t with dramc := u.dramc, freeIdx := u.freeIdx }) (fun a => a ∈ evErr 0x48)) ∧
    (∀ (ecc : Ecc), Only (.scrub dt ecc) s (fun u => { t with badBlocks := u.badBlocks, dramc := u.dramc, fab := u.fab })
        (fun a => a ∈ evErr 0x48 ++ [Reg.DRAM_SCRUB_POS, Reg.DRAM_ECC_ADDR] ∨ pageNo a ∈ [0x4A])) ∧
    (∀ (w : Word), Takes q 0x49 s → Only (.sweep dt q w) s (fun u => { t with dramc := u.dramc })
        (fun a => a ∈ evErr 0x49 ++ [Reg.DRAMTRN_CMD, Reg.DRAMTRN_CMD_STATUS])) ∧
    (∀ (w : Word), Takes q 0x49 s → Only (.mrw dt q w) s (fun u => { t with sent := u.sent })
        (fun a => a ∈ evErr 0x49 ++ [Reg.DRAMTRN_CMD_STATUS])) ∧
    (∀ (w : Word) (mr : Byte), Takes q 0x49 s → Only (.mrr dt q w mr) s (fun _ => t)
        (fun a => a ∈ evErr 0x49 ++ [Reg.DRAMTRN_CMD_STATUS, Reg.DRAMTRN_MRR])) ∧
    (Takes q 0x49 s → Only (.finish dt q) s (fun u => { t with dramc := u.dramc, fab := u.fab })
        (fun a => a ∈ evErr 0x49 ++ [Reg.DRAMTRN_CMD_STATUS, Reg.DRAM_STATUS, Reg.DRAM_SIZE] ∨ pageNo a ∈ [0x4A]) ∧
      Only (.retrain dt q) s (fun u => { t with dramc := u.dramc, fab := u.fab })
          (fun a => a ∈ evErr 0x49 ++ [Reg.DRAMTRN_CMD_STATUS, Reg.DRAM_STATUS, Reg.DRAM_SIZE] ∨ pageNo a ∈ [0x4A])) ∧
    (∀ (map0 map1 : BitVec 128), Only (.sweepDone dt map0 map1) s (fun _ => t)
        (fun a => a ∈ evErr 0x49 ++ [Reg.DRAMTRN_CMD, Reg.DRAMTRN_CMD_STATUS] ++ (List.range 4).flatMap fun i => [Reg.DRAMTRN_MAP 0 i,
        Reg.DRAMTRN_MAP 1 i])) ∧
    (∀ (e2 : Fin 2) (n : Nat), Takes q 0x50 s → Only (.deflStart dt q e2) s (fun u => { t with deflE := u.deflE })
        (fun a => a ∈ evErr 0x50 ++ deflRegs e2) ∧
      Only (.deflResume dt q e2) s (fun u => { t with deflE := u.deflE }) (fun a => a ∈ evErr 0x50 ++ deflRegs e2) ∧
      Only (.deflFlush dt q e2 n) s (fun u => { t with deflE := u.deflE }) (fun a => a ∈ evErr 0x50 ++ deflRegs e2)) ∧
    (∀ (n16 : Fin 16), Only (.pwmPeriod dt n16) s (fun u => { t with loop := u.loop }) (fun _ => False)) ∧
    (∀ (i128 : Fin 128) (w : Word), Takes q 0x58 s → Only (.loopSlotDisable dt q i128 w) s (fun u => { t with loop := u.loop })
        (fun a => a ∈ evErr 0x58 ++ [Reg.LOOP_S_CFG i128])) ∧
    (∀ (g8 : Fin 8), Takes q 0x59 s → Only (.arm dt q g8) s (fun u => { t with loop := u.loop })
        (fun a => a ∈ evErr 0x59 ++ [Reg.LOOPCAP_CMD_STATUS, Reg.LOOPCAP_G_STATE g8, Reg.LOOPCAP_G_TRIGPTR g8]) ∧
      Only (.trigger dt q g8) s (fun u => { t with loop := u.loop })
          (fun a => a ∈ evErr 0x59 ++ [Reg.LOOPCAP_CMD_STATUS, Reg.LOOPCAP_G_STATE g8, Reg.LOOPCAP_G_TRIGPTR g8]) ∧
      Only (.captureStop dt q g8) s (fun u => { t with loop := u.loop })
          (fun a => a ∈ evErr 0x59 ++ [Reg.LOOPCAP_CMD_STATUS, Reg.LOOPCAP_G_STATE g8, Reg.LOOPCAP_G_TRIGPTR g8]))

/-- Frames (R8, R36): what the commands of MOTION, PAIR, Tally, SVC, the mailboxes, GPIO and the debug UART leave: every state
part and every register not named is as before (`evErr p` names EVT_STATUS and ERR_COUNT of page p). -/
def Obligations.MotionPairTallyAndServiceCommandsTouchOnlyTheirOwn : Prop :=
  ∀ (dt : Nat) (q : Path) (s t : State), t = s.elapse dt → Untraced s →
    (∀ (a4 : Fin 4), Takes q 0x60 s → Only (.move dt q a4) s (fun u => { t with axes := u.axes })
        (fun a => a ∈ evErr 0x60 ++ [Reg.MOTION_CMD_STATUS a4]) ∧
      Only (.speed dt q a4) s (fun u => { t with axes := u.axes }) (fun a => a ∈ evErr 0x60 ++ [Reg.MOTION_CMD_STATUS a4]) ∧
      Only (.home dt q a4) s (fun u => { t with axes := u.axes }) (fun a => a ∈ evErr 0x60 ++ [Reg.MOTION_CMD_STATUS a4]) ∧
      Only (.motionStopStop dt q a4) s (fun u => { t with axes := u.axes }) (fun a => a ∈ evErr 0x60 ++ [Reg.MOTION_CMD_STATUS a4]) ∧
      Only (.halt dt q a4) s (fun u => { t with axes := u.axes }) (fun a => a ∈ evErr 0x60 ++ [Reg.MOTION_CMD_STATUS a4]) ∧
      Only (.drvEnSet dt q a4) s (fun u => { t with axes := u.axes }) (fun a => a ∈ evErr 0x60 ++ [Reg.MOTION_CMD_STATUS a4]) ∧
      Only (.drvEnClear dt q a4) s (fun u => { t with axes := u.axes }) (fun a => a ∈ evErr 0x60 ++ [Reg.MOTION_CMD_STATUS a4])) ∧
    (∀ (a4 : Fin 4), Only (.enWaitEnd dt a4) s (fun u => { t with axes := u.axes }) (fun _ => False) ∧
      Only (.homeEdge dt a4) s (fun u => { t with axes := u.axes }) (fun _ => False)) ∧
    (∀ (a4 : Fin 4) (b b2 : Bool), Only (.profileUpdate dt a4) s (fun u => { t with axes := u.axes, freeIdx := u.freeIdx })
        (fun a => a ∈ evErr 0x60 ++ [Reg.MOTION_CMD_STATUS a4]) ∧
      Only (.homeConfirm dt a4 b b2) s (fun u => { t with axes := u.axes, freeIdx := u.freeIdx })
          (fun a => a ∈ evErr 0x60 ++ [Reg.MOTION_CMD_STATUS a4])) ∧
    (∀ (a4 : Fin 4), Only (.stepCarry dt a4) s (fun u => { t with axes := u.axes, sent := u.sent })
        (fun a => a ∈ evErr 0x60 ++ [Reg.MOTION_CMD_STATUS a4, Reg.MOTION_STEPS a4])) ∧
    (∀ (a4 : Fin 4) (b b2 : Bool), Only (.limittrip dt a4 b b2) s (fun u => { t with axes := u.axes })
        (fun a => a ∈ evErr 0x60 ++ [Reg.MOTION_CMD_STATUS a4])) ∧
    (Only (.mirrorlost dt) s (fun u => { t with pair := u.pair }) (fun a => a ∈ evErr 0x68)) ∧
    (Only (.peerlost dt) s (fun u => { t with heads := u.heads, loop := u.loop, pair := u.pair, sent := u.sent })
        (fun a => pageNo a ∈ [0x68]) ∧
      Only (.pairAliveEdge dt) s (fun u => { t with heads := u.heads, loop := u.loop, pair := u.pair, sent := u.sent })
          (fun a => pageNo a ∈ [0x68])) ∧
    (Takes q 0x68 s → Only (.join dt q) s (fun u => { t with pair := u.pair }) (fun a => a ∈ evErr 0x68 ++ [Reg.PAIR_CMD_STATUS]) ∧
      Only (.detach dt q) s (fun u => { t with pair := u.pair }) (fun a => a ∈ evErr 0x68 ++ [Reg.PAIR_CMD_STATUS]) ∧
      Only (.yieldCmd dt q) s (fun u => { t with pair := u.pair }) (fun a => a ∈ evErr 0x68 ++ [Reg.PAIR_CMD_STATUS])) ∧
    (∀ (b : Bool), Takes q 0x68 s → Only (.take dt q b) s
        (fun u => { t with heads := u.heads, loop := u.loop, pair := u.pair, sent := u.sent }) (fun a => pageNo a ∈ [0x68])) ∧
    (∀ (w : Word), Takes q 0x68 s → Only (.pairEnWrite dt q w) s (fun u => { t with pair := u.pair, axes := u.axes })
        (fun a => a ∈ evErr 0x68 ++ evErr 0x60 ++ Reg.PAIR_CTRL :: Reg.PAIR_CMD_STATUS :: (List.range 4).map Reg.MOTION_CMD_STATUS)) ∧
    (Only (.mirrorSend dt) s (fun u => { t with chain := u.chain, pair := u.pair, sent := u.sent, time := u.time })
        (fun a => a ∈ evErr 0x40 ++ [Reg.CHAIN_FWD_FRAMES, Reg.CHAIN_TX_FRAMES, Reg.PAIR_MIRROR_TX])) ∧
    (∀ (b b2 : Bool), Only (.tallyCount dt b b2) s (fun u => { t with tally := u.tally }) (fun _ => False)) ∧
    (∀ (l : List Byte) (b b2 : Bool) (b8 : Byte), Only (.paramWrite dt l b b2) s (fun u => { t with tally := u.tally, sent := u.sent })
        (fun _ => False) ∧
      Only (.tallyBurnDone dt) s (fun u => { t with tally := u.tally, sent := u.sent }) (fun _ => False) ∧
      Only (.job dt l b b2) s (fun u => { t with tally := u.tally, sent := u.sent }) (fun _ => False) ∧
      Only (.auditRead dt l b b2) s (fun u => { t with tally := u.tally, sent := u.sent }) (fun _ => False) ∧
      Only (.tallyReservedCmd dt b8 b b2) s (fun u => { t with tally := u.tally, sent := u.sent }) (fun _ => False)) ∧
    (∀ (b b2 : Bool), Only (.sealOpenChange dt b) s (fun u => { t with tally := u.tally, chip := u.chip }) (fun _ => False) ∧
      Only (.vstbyPowerOn dt b b2) s (fun u => { t with tally := u.tally, chip := u.chip }) (fun _ => False)) ∧
    (∀ (i11 : Fin 11), Only (.svcHeartbeat dt i11) s (fun u => { t with svc := u.svc })
        (fun a => a ∈ evErr 9 ++ [Reg.SVC_HB i11, Reg.SVC_STALE])) ∧
    (∀ (i11 : Fin 11), Only (.svcstale dt i11) s (fun _ => t) (fun a => a ∈ evErr 9 ++ [Reg.SVC_STALE])) ∧
    (∀ (a4 : Fin 4), Takes q 9 s → Only (.restart dt q a4) s (fun u => { t with svc := u.svc })
        (fun a => a ∈ evErr 9 ++ [Reg.SVC_CMD_STATUS, Reg.SVC_CORE_STATE, Reg.SVC_RESTARTS])) ∧
    (∀ (a4 : Fin 4), Only (.corehalt dt a4) s (fun _ => t) (fun a => a ∈ evErr 9 ++ [Reg.SVC_CORE_STATE])) ∧
    (∀ (h : Fin 32) (w16 : Fin 16) (w : Word), Takes q 8 s → Only (.mbxDataWrite dt q h w16 w) s (fun u => { t with svc := u.svc })
        (fun a => a ∈ evErr 8 ++ [Reg.MBX_DATA h w16, Reg.MBX_COLL])) ∧
    (∀ (w : Word), Takes q 8 s → Only (.mbxDoorbell dt q w) s (fun u => { t with svc := u.svc })
        (fun a => a ∈ evErr 8 ++ [Reg.MBX_FULL, Reg.MBX_COLL, Reg.MBX_MSGS])) ∧
    (∀ (w : Word), Takes q 8 s → Only (.mbxAck dt q w) s (fun u => { t with svc := u.svc }) (fun a => pageNo a ∈ [0x08])) ∧
    (∀ (i11 : Fin 11) (b : Bool), Only (.ping dt i11) s (fun u => { t with svc := u.svc }) (fun a => pageNo a ∈ [0x08]) ∧
      Only (.logRead dt) s (fun u => { t with svc := u.svc }) (fun a => pageNo a ∈ [0x08]) ∧
      Only (.fwEnd dt b) s (fun u => { t with svc := u.svc }) (fun a => pageNo a ∈ [0x08])) ∧
    (Only (.logMark dt) s (fun u => { t with svc := u.svc, freeIdx := u.freeIdx, sent := u.sent }) (fun a => pageNo a ∈ [0x08])) ∧
    (Only (.fwBegin dt) s (fun u => { t with svc := u.svc, flash := u.flash }) (fun a => pageNo a ∈ [0x08]) ∧
      Only (.fwData dt) s (fun u => { t with svc := u.svc, flash := u.flash }) (fun a => pageNo a ∈ [0x08])) ∧
    (∀ (n16 : Fin 16) (b : Bool), Only (.gpioedge dt n16 b) s (fun _ => t) (fun a => a ∈ evErr 0x7E ++ [Reg.GPIO_EDGE, Reg.GPIO_IN])) ∧
    (∀ (b8 : Byte), Only (.dbgRxByte dt b8) s (fun u => { t with dbg := u.dbg, sent := u.sent }) (fun a => a ∈ evErr 0x7F) ∧
      Only (.dbgTxByteSent dt) s (fun u => { t with dbg := u.dbg, sent := u.sent }) (fun a => a ∈ evErr 0x7F))

/-- Frames (R8, R36) of the commands whose effect reaches several blocks: what each of them leaves. Every state part not named and
every register of a page not named is as before. -/
def Obligations.WideReachingCommandsKeepWhatTheyDoNotName : Prop :=
  ∀ (dt : Nat) (q : Path) (s t : State), t = s.elapse dt → Untraced s →
    (∀ (l : List Byte), Only (.chainBand dt l) s (fun u =>
        { t with intake := u.intake, infl := u.infl, freeIdx := u.freeIdx, dram := u.dram, dramc := u.dramc, badBlocks := u.badBlocks, fab := u.fab })
        (fun a => pageNo a ∈ [0x10, 0x11, 0x40, 0x4A])) ∧
    (Only (.bandDue dt) s (fun u =>
        { t with intake := u.intake, infl := u.infl, freeIdx := u.freeIdx, fire := u.fire, insp := u.insp, live := u.live, map := u.map, pair := u.pair, trav := u.trav })
        (fun a => pageNo a ∈ [0x03, 0x10, 0x11, 0x14, 0x15, 0x17])) ∧
    (∀ (ups : List (Nat × Byte)) (nb : List Nat) (fm ft : Nat) (ru : List (Fin 64)), Only (.lineMap dt ups nb fm ft ru) s
        (fun u =>
        { t with intake := u.intake, infl := u.infl, freeIdx := u.freeIdx, map := u.map, delay := u.delay, dram := u.dram, dramc := u.dramc, badBlocks := u.badBlocks, fab := u.fab, live := u.live, pace := u.pace })
        (fun a => pageNo a ∈ [0x03, 0x10, 0x11, 0x14, 0x15, 0x16, 0x4A])) ∧
    (Takes q 0x17 s → Only (.fireStop dt q) s (fun u =>
        { t with delay := u.delay, failed := u.failed, fire := u.fire, heads := u.heads, lanes := u.lanes, live := u.live, pair := u.pair, sent := u.sent, trav := u.trav })
        (fun a => pageNo a ∈ [0x17, 0x18, 0x19])) ∧
    (∀ (h : Fin 32) (r8 : Fin 8) (ser : Nat), Only (.rowReadDone dt h r8 ser) s
        (fun u =>
        { t with delay := u.delay, failed := u.failed, fire := u.fire, heads := u.heads, pace := u.pace, pair := u.pair, sent := u.sent })
        (fun a => pageNo a ∈ [0x16, 0x17, 0x18])) ∧
    (∀ (ser : Nat), Only (.fireEval dt ser) s (fun u =>
        { t with badBlocks := u.badBlocks, cams := u.cams, delay := u.delay, dram := u.dram, dramc := u.dramc, fab := u.fab, failed := u.failed, fire := u.fire, freeIdx := u.freeIdx, heads := u.heads, insp := u.insp, lanes := u.lanes, live := u.live, pace := u.pace, pair := u.pair, sent := u.sent, trav := u.trav, web := u.web })
        (fun a => pageNo a ∈ [0x03, 0x16, 0x17, 0x18, 0x19, 0x1C, 0x20, 0x21, 0x22, 0x23, 0x24, 0x25, 0x4A])) ∧
    (∀ (h : Fin 32) (l : List Byte) (b : Bool), Only (.headResponse dt h l b) s
        (fun u =>
        { t with delay := u.delay, failed := u.failed, fire := u.fire, freeIdx := u.freeIdx, heads := u.heads, loop := u.loop, map := u.map, pair := u.pair, sent := u.sent, svc := u.svc, trav := u.trav })
        (fun a => pageNo a ∈ [0x08, 0x18, 0x19, 0x28, 0x58, 0x68])) ∧
    (∀ (h : Fin 32) (l : List Byte) (b : Bool), Only (.headTelemetry dt h l b) s
        (fun u =>
        { t with delay := u.delay, failed := u.failed, fire := u.fire, freeIdx := u.freeIdx, heads := u.heads, loop := u.loop, map := u.map, pair := u.pair, sent := u.sent, svc := u.svc, trav := u.trav })
        (fun a => pageNo a ∈ [0x08, 0x18, 0x19, 0x28, 0x58, 0x68])) ∧
    (∀ (e2 : Fin 2) (b : Bool) (ser : Nat), Only (.encTransition dt e2 b ser) s
        (fun u =>
        { t with badBlocks := u.badBlocks, cams := u.cams, delay := u.delay, dram := u.dram, dramc := u.dramc, fab := u.fab, failed := u.failed, fire := u.fire, freeIdx := u.freeIdx, heads := u.heads, insp := u.insp, lanes := u.lanes, live := u.live, pace := u.pace, pair := u.pair, sent := u.sent, trav := u.trav, web := u.web })
        (fun a => pageNo a ∈ [0x03, 0x16, 0x17, 0x18, 0x19, 0x1C, 0x20, 0x21, 0x22, 0x23, 0x24, 0x25, 0x4A])) ∧
    (∀ (p : Fin 4) (num : BitVec 16), Only (.camFrameStart dt p num) s
        (fun u =>
        { t with badBlocks := u.badBlocks, cams := u.cams, dram := u.dram, dramc := u.dramc, fab := u.fab, fire := u.fire, freeIdx := u.freeIdx, insp := u.insp, live := u.live, trav := u.trav })
        (fun a => a ∈ evErr 0x24 ++ [Reg.pageStatus 0x24, Reg.shadowCtrl 0x24, Reg.ISP_BANK] ∨ pageNo a ∈ [0x20 + p.val, 0x25, 0x4A]) ∧
      Only (.framemiss dt p) s (fun u =>
          { t with badBlocks := u.badBlocks, cams := u.cams, dram := u.dram, dramc := u.dramc, fab := u.fab, fire := u.fire, freeIdx := u.freeIdx, insp := u.insp, live := u.live, trav := u.trav })
          (fun a => a ∈ evErr 0x24 ++ [Reg.pageStatus 0x24, Reg.shadowCtrl 0x24, Reg.ISP_BANK] ∨ pageNo a ∈ [0x20 + p.val, 0x25, 0x4A])) ∧
    (∀ (p : Fin 4), Only (.camFrameEnd dt p) s (fun u =>
        { t with badBlocks := u.badBlocks, cams := u.cams, dram := u.dram, dramc := u.dramc, fab := u.fab, fire := u.fire, freeIdx := u.freeIdx, insp := u.insp, trav := u.trav })
        (fun a => pageNo a ∈ [0x20 + p.val, 0x25, 0x4A])) ∧
    (Only (.inspectRead dt) s (fun u =>
        { t with badBlocks := u.badBlocks, cams := u.cams, dram := u.dram, dramc := u.dramc, fab := u.fab, fire := u.fire, freeIdx := u.freeIdx, insp := u.insp, trav := u.trav })
        (fun a => pageNo a ∈ [0x20, 0x21, 0x22, 0x23, 0x25, 0x4A])) ∧
    (Only (.inspectReadDone dt) s (fun u =>
        { t with badBlocks := u.badBlocks, cams := u.cams, delay := u.delay, dram := u.dram, dramc := u.dramc, fab := u.fab, fire := u.fire, freeIdx := u.freeIdx, insp := u.insp, pace := u.pace, pair := u.pair, trav := u.trav })
        (fun a => pageNo a ∈ [0x16, 0x20, 0x21, 0x22, 0x23, 0x25, 0x4A])) ∧
    (∀ (nb : List Nat), Only (.travWindowClose dt nb) s
        (fun u =>
        { t with badBlocks := u.badBlocks, cams := u.cams, dram := u.dram, dramc := u.dramc, fab := u.fab, failed := u.failed, fire := u.fire, freeIdx := u.freeIdx, heads := u.heads, insp := u.insp, live := u.live, map := u.map, sent := u.sent, trav := u.trav })
        (fun a => pageNo a ∈ [0x18, 0x20, 0x21, 0x22, 0x23, 0x25, 0x28, 0x4A])) ∧
    (∀ (b : Bool), Only (.launch dt b) s (fun u =>
        { t with chain := u.chain, dramc := u.dramc, eth := u.eth, sent := u.sent, time := u.time })
        (fun a => a ∈ evErr 0x40 ++ evErr 0x41 ++ [Reg.CHAIN_FWD_FRAMES, Reg.CHAIN_TX_FRAMES, Reg.ETH_TX_FRAMES] ∨ pageNo a ∈ [0x4A])) ∧
    (∀ (e2 : Fin 2) (l : List Byte) (n : Nat), Only (.deflJobEnd dt e2 l n) s
        (fun u => { t with deflE := u.deflE, dram := u.dram, dramc := u.dramc, badBlocks := u.badBlocks, fab := u.fab })
        (fun a => a ∈ evErr 0x50 ++ deflRegs e2 ++ [Reg.DEFL_IN, Reg.DEFL_IN + 4, Reg.DEFL_OUT, Reg.DEFL_OUT + 4] ∨ pageNo a ∈ [0x4A])) ∧
    (∀ (g8 : Fin 8) (fr : List (Fin 4 × List Word)) (b : Bool), Only (.loopGroupTick dt g8 fr) s
        (fun u =>
        { t with axes := u.axes, failed := u.failed, heads := u.heads, live := u.live, loop := u.loop, sent := u.sent, fire := u.fire })
        (fun a => pageNo a ∈ [0x18, 0x58, 0x59, 0x60]) ∧
      Only (.loopAcqDone dt g8 fr b) s (fun u =>
          { t with axes := u.axes, failed := u.failed, heads := u.heads, live := u.live, loop := u.loop, sent := u.sent, fire := u.fire })
          (fun a => pageNo a ∈ [0x18, 0x58, 0x59, 0x60])) ∧
    (∀ (l : List Byte), Only (.mirror dt l) s (fun u =>
        { t with fire := u.fire, heads := u.heads, loop := u.loop, map := u.map, pair := u.pair, sent := u.sent, trav := u.trav })
        (fun a => a ∈ evErr 0x40 ++ evErr 0x17 ++ [Reg.CHAIN_RX_FRAMES] ∨ pageNo a ∈ [0x68])) ∧
    (Only (.discover dt) s (fun u => { t with failed := u.failed, heads := u.heads, sent := u.sent, svc := u.svc, fire := u.fire })
        (fun a => pageNo a ∈ [0x08, 0x18]))

/-- What follows a command by itself (R34, R43, R73, R136, R155, R190, R204, R289, R359, R439), its frame: while no block reset
runs and no trace, only the parts named change, and no register outside the pages of PACE, SVC, its mailboxes, FIRE, HLINK, HEADS,
WEB, the camera ports, ISP, INSPECT, TRAV, CHAIN, ETH, DRAMQOS, LOOP, MOTION and PAIR: no table word among them. The boot flash,
Tally's totals and the JTAG port stand in every state, and DRAM while no trigger hit of a camera waits to be judged. Where its
parts go beyond the spec's words they are the model's choice, said in log entries 8, 22, 58, 90 and 93. -/
def Obligations.WhatFollowsACommandKeepsTheRest : Prop :=
  ∀ s : State, Untraced s →
    (s.chip.run = none → ∃ u, settle s = u ∧ u = { s with
        words := u.words, live := u.live, evtOut := u.evtOut, irqN := u.irqN, svcEvt := u.svcEvt, incs := u.incs, committed := u.committed,
        sent := u.sent, freeIdx := u.freeIdx, failed := u.failed, pace := u.pace, dram := u.dram, badBlocks := u.badBlocks,
        fire := u.fire, heads := u.heads, pair := u.pair, intake := u.intake, web := u.web, chain := u.chain, eth := u.eth, time := u.time,
        cams := u.cams, insp := u.insp, trav := u.trav, map := u.map, loop := u.loop, axes := u.axes, svc := u.svc,
        delay := u.delay, lanes := u.lanes, fab := u.fab, dramc := u.dramc } ∧
      (∀ a, 0x50000000 ≤ a → u.reg a = s.reg a) ∧
      ∀ a, pageNo a ∉ [0x03, 0x08, 0x09, 0x17, 0x18, 0x19, 0x1C, 0x20, 0x21, 0x22, 0x23, 0x24, 0x25, 0x28, 0x40, 0x41, 0x4A, 0x58, 0x60,
        0x68] → u.reg a = s.reg a) ∧
    (settle s).flash = s.flash ∧ (settle s).tally = s.tally ∧ (settle s).jtag = s.jtag ∧
    ((∀ e ∈ s.cams, ∀ w ∈ e.2.hits, s.now ≤ w.at_) → (settle s).dram = s.dram ∧ (settle s).badBlocks = s.badBlocks)
end

