-- ==== Sys2Proof/Laws/Bits.lean ====
section
/-! SUPPORT. The laws of bit fields: a field read back after it is replaced, and the fields that a replacement leaves alone. -/
namespace Sys2Proof.Machine

theorem put_toNat {lo n : Nat} (h : lo + n ≤ 32) (w : Word) (v : Nat) :
    (put w lo n v).toNat = w.toNat / 2 ^ (lo + n) * 2 ^ (lo + n) + v % 2 ^ n * 2 ^ lo + w.toNat % 2 ^ lo := by
  have hw := w.isLt
  have hx : v % 2 ^ n + 1 ≤ 2 ^ n := Nat.mod_lt _ (Nat.two_pow_pos n)
  have hb : w.toNat % 2 ^ lo + 1 ≤ 2 ^ lo := Nat.mod_lt _ (Nat.two_pow_pos lo)
  have he : (2 : Nat) ^ 32 = 2 ^ (32 - (lo + n)) * 2 ^ (lo + n) := by rw [← Nat.pow_add]; congr 1; omega
  have ha : w.toNat / 2 ^ (lo + n) + 1 ≤ 2 ^ (32 - (lo + n)) := by
    refine Nat.div_lt_of_lt_mul ?_
    rw [Nat.mul_comm, ← he]; exact hw
  have h1 := Nat.mul_le_mul_right (2 ^ (lo + n)) ha
  have h2 := Nat.mul_le_mul_right (2 ^ lo) hx
  have hp : (2 : Nat) ^ (lo + n) = 2 ^ n * 2 ^ lo := by rw [← Nat.pow_add, Nat.add_comm]
  unfold put
  rw [BitVec.toNat_ofNat, Nat.mod_eq_of_lt]
  rw [Nat.add_mul, Nat.one_mul] at h1 h2
  omega

/-- A field read back after it is replaced. -/
theorem fld_put {lo n : Nat} (h : lo + n ≤ 32) (w : Word) (v : Nat) : fld (put w lo n v) lo n = v % 2 ^ n := by
  have hp : (2 : Nat) ^ (lo + n) = 2 ^ n * 2 ^ lo := by rw [← Nat.pow_add, Nat.add_comm]
  unfold fld
  rw [put_toNat h, hp, ← Nat.mul_assoc, ← Nat.add_mul, Nat.add_comm, Nat.add_mul_div_right _ _ (Nat.two_pow_pos lo),
    Nat.div_eq_of_lt (Nat.mod_lt _ (Nat.two_pow_pos lo)), Nat.zero_add, Nat.add_comm, Nat.add_mul_mod_self_right, Nat.mod_mod]

theorem put_testBit {lo n : Nat} (h : lo + n ≤ 32) (w : Word) (v i : Nat) :
    (put w lo n v).toNat.testBit i = if i < lo then w.toNat.testBit i else if i < lo + n then v.testBit (i - lo) else w.toNat.testBit i := by
  have hb : w.toNat % 2 ^ lo < 2 ^ lo := Nat.mod_lt _ (Nat.two_pow_pos lo)
  have hx : v % 2 ^ n < 2 ^ n := Nat.mod_lt _ (Nat.two_pow_pos n)
  have he : (put w lo n v).toNat = 2 ^ lo * (2 ^ n * (w.toNat / 2 ^ (lo + n)) + v % 2 ^ n) + w.toNat % 2 ^ lo := by
    rw [put_toNat h, Nat.mul_add, ← Nat.mul_assoc, ← Nat.pow_add, Nat.mul_comm (2 ^ (lo + n)), Nat.mul_comm (2 ^ lo)]
  rw [he, Nat.testBit_two_pow_mul_add _ hb]
  split
  · next hi => rw [Nat.testBit_mod_two_pow]; simp [hi]
  · next hi =>
    rw [Nat.testBit_two_pow_mul_add _ hx]
    split
    · next hj => rw [Nat.testBit_mod_two_pow, if_pos (by omega)]; simp [hj]
    · next hj =>
      rw [Nat.testBit_div_two_pow, if_neg (by omega)]
      congr 1
      omega

theorem bit_eq (w : Word) (i : Nat) : bit w i = w.toNat.testBit i := by
  unfold bit
  rw [Nat.testBit_eq_decide_div_mod_eq]
  rfl

/-- A field apart from the one replaced reads as before. -/
theorem fld_put_apart {lo n lo' n' : Nat} (h : lo + n ≤ 32) (hd : lo' + n' ≤ lo ∨ lo + n ≤ lo') (w : Word) (v : Nat) :
    fld (put w lo n v) lo' n' = fld w lo' n' := by
  unfold fld
  refine Nat.eq_of_testBit_eq fun i => ?_
  rw [Nat.testBit_mod_two_pow, Nat.testBit_mod_two_pow, Nat.testBit_div_two_pow, Nat.testBit_div_two_pow, put_testBit h]
  by_cases hi : i < n'
  · rcases hd with hd | hd
    · rw [if_pos (by omega)]
    · rw [if_neg (by omega), if_neg (by omega)]
  · simp [hi]

/-- A bit read back after it is replaced. -/
@[simp] theorem bit_putBit_self (w : Word) {i : Nat} (h : i < 32) (b : Bool) : bit (putBit w i b) i = b := by
  unfold putBit
  rw [bit_eq, put_testBit (by omega), if_neg (by omega), if_pos (by omega)]
  cases b <;> simp

/-- Another bit reads as before. -/
theorem bit_putBit_ne (w : Word) {i j : Nat} (h : i < 32) (hj : j ≠ i) (b : Bool) : bit (putBit w i b) j = bit w j := by
  unfold putBit
  rw [bit_eq, bit_eq, put_testBit (by omega)]
  split
  · rfl
  · rw [if_neg (by omega)]

theorem bit_put_apart {lo n : Nat} (h : lo + n ≤ 32) {j : Nat} (hj : j < lo ∨ lo + n ≤ j) (w : Word) (v : Nat) :
    bit (put w lo n v) j = bit w j := by
  rw [bit_eq, bit_eq, put_testBit h]
  split
  · rfl
  · rw [if_neg (by omega)]

@[simp] theorem W_toNat (n : Nat) : (W n).toNat = n % 2 ^ 32 := BitVec.toNat_ofNat n 32

@[simp] theorem W_word (w : Word) : W w.toNat = w := BitVec.ofNat_toNat 32 w

theorem fld_W {lo n v : Nat} (hv : v < 2 ^ 32) : fld (W v) lo n = v / 2 ^ lo % 2 ^ n := by
  unfold fld; rw [W_toNat, Nat.mod_eq_of_lt hv]

theorem fld_lt (w : Word) (lo n : Nat) : fld w lo n < 2 ^ n := Nat.mod_lt _ (Nat.two_pow_pos n)

/-- Two words with the same bits are the same. -/
theorem word_ext {v w : Word} (h : ∀ i, i < 32 → bit v i = bit w i) : v = w := by
  refine BitVec.eq_of_toNat_eq (Nat.eq_of_testBit_eq fun i => ?_)
  by_cases hi : i < 32
  · rw [← bit_eq, ← bit_eq]; exact h i hi
  · have := v.isLt; have := w.isLt
    have h2 : (2 : Nat) ^ 32 ≤ 2 ^ i := Nat.pow_le_pow_right (by decide) (by omega)
    rw [Nat.testBit_lt_two_pow (by omega), Nat.testBit_lt_two_pow (by omega)]

theorem bit_and (v w : Word) (i : Nat) : bit (v &&& w) i = (bit v i && bit w i) := by
  rw [bit_eq, bit_eq, bit_eq, BitVec.toNat_and, Nat.testBit_and]

theorem bit_or (v w : Word) (i : Nat) : bit (v ||| w) i = (bit v i || bit w i) := by
  rw [bit_eq, bit_eq, bit_eq, BitVec.toNat_or, Nat.testBit_or]

theorem bit_not (w : Word) {i : Nat} (h : i < 32) : bit (~~~w) i = !bit w i := by
  rw [bit_eq, bit_eq, BitVec.testBit_toNat, BitVec.testBit_toNat, BitVec.getLsbD_not]
  simp [h]

end Sys2Proof.Machine
end

