-- ==== Sys2Proof/Laws/SMap.lean ====
section
/-! SUPPORT. The laws of sparse maps: what a read returns after a write, and that every operation keeps the canonical form. -/
namespace Sys2Proof.Machine

variable {β : Type}

theorem mget_filter_ne (d : Nat → β) (a : Nat) (l : List (Nat × β)) : mget d (l.filter fun p => p.1 != a) a = d a := by
  induction l with
  | nil => rfl
  | cons p t ih =>
    by_cases hk : p.1 = a
    · simp [hk, ih]
    · simp [hk, mget, Ne.symm hk, ih]

/-- Keys that a filter on the key keeps read as before. -/
theorem mget_filter_keep (d : Nat → β) (q : Nat → Bool) {b : Nat} (hb : q b = true) (l : List (Nat × β)) :
    mget d (l.filter fun p => q p.1) b = mget d l b := by
  induction l with
  | nil => rfl
  | cons p t ih =>
    by_cases hk : b = p.1
    · subst hk; simp [hb, mget]
    · cases hq : q p.1 <;> simp [hq, mget, hk, ih]

/-- Keys that a filter on the key drops read as their default. -/
theorem mget_filter_drop (d : Nat → β) (q : Nat → Bool) {b : Nat} (hb : q b = false) (l : List (Nat × β)) :
    mget d (l.filter fun p => q p.1) b = d b := by
  induction l with
  | nil => rfl
  | cons p t ih =>
    by_cases hk : b = p.1
    · subst hk; simp [hb, ih]
    · cases hq : q p.1 <;> simp [hq, mget, hk, ih]

/-- A read of the key written returns what was written, in any list. -/
@[simp] theorem mget_mset_self [DecidableEq β] (d : Nat → β) (a : Nat) (v : β) (l : List (Nat × β)) :
    mget d (mset d a v l) a = v := by
  induction l with
  | nil => by_cases h : v = d a <;> simp [mset, mget, h]
  | cons p t ih =>
    by_cases hk : a = p.1
    · by_cases h : v = d a <;> simp [mset, mget, mget_filter_ne, ← hk, h]
    · by_cases hl : a < p.1
      · by_cases h : v = d a <;> simp [mset, mget, mget_filter_ne, hk, hl, h]
      · simpa [mset, mget, hk, hl] using ih

/-- A read of another key returns what it did before. -/
theorem mget_mset_ne [DecidableEq β] (d : Nat → β) {a b : Nat} (hb : b ≠ a) (v : β) (l : List (Nat × β)) :
    mget d (mset d a v l) b = mget d l b := by
  have hf := fun t => mget_filter_keep d (fun k => k != a) (b := b) (by simpa using hb) (t : List (Nat × β))
  induction l with
  | nil => by_cases h : v = d a <;> simp [mset, mget, h, hb]
  | cons p t ih =>
    by_cases hk : a = p.1
    · by_cases h : v = d a <;> simp [mset, mget, hf, ← hk, h, hb]
    · by_cases hl : a < p.1
      · by_cases h : v = d a <;> simp [mset, mget, hf, hk, hl, h, hb]
      · by_cases hp : b = p.1 <;> simp [mset, mget, hk, hl, hp, ih]

theorem mget_mset [DecidableEq β] (d : Nat → β) (a b : Nat) (v : β) (l : List (Nat × β)) :
    mget d (mset d a v l) b = if b = a then v else mget d l b := by
  split
  · next h => subst h; exact mget_mset_self d b v l
  · next h => exact mget_mset_ne d h v l

/-! ## The canonical form -/

section
variable [DecidableEq β]

theorem mwfFrom_mono {d : Nat → β} {b c : Nat} (h : b ≤ c) {l : List (Nat × β)} (hl : mwfFrom d c l = true) :
    mwfFrom d b l = true := by
  cases l with
  | nil => rfl
  | cons p t => simp only [mwfFrom, Bool.and_eq_true, decide_eq_true_eq] at *; exact ⟨⟨Nat.le_trans h hl.1.1, hl.1.2⟩, hl.2⟩

/-- Dropping entries keeps the form. -/
theorem mwfFrom_filter {d : Nat → β} (q : Nat × β → Bool) {b : Nat} {l : List (Nat × β)} (hl : mwfFrom d b l = true) :
    mwfFrom d b (l.filter q) = true := by
  induction l generalizing b with
  | nil => rfl
  | cons p t ih =>
    simp only [mwfFrom, Bool.and_eq_true, decide_eq_true_eq] at hl
    cases hq : q p
    · simp only [List.filter_cons, hq, Bool.false_eq_true, if_false]
      exact mwfFrom_mono (Nat.le_succ_of_le hl.1.1) (ih hl.2)
    · simp only [List.filter_cons, hq, if_true, mwfFrom, Bool.and_eq_true, decide_eq_true_eq]
      exact ⟨hl.1, ih hl.2⟩

theorem mwfFrom_mset {d : Nat → β} {a b : Nat} (hb : b ≤ a) (v : β) {l : List (Nat × β)} (hl : mwfFrom d b l = true) :
    mwfFrom d b (mset d a v l) = true := by
  induction l generalizing b with
  | nil => by_cases h : v = d a <;> simp [mset, mwfFrom, h, hb]
  | cons p t ih =>
    simp only [mwfFrom, Bool.and_eq_true, decide_eq_true_eq] at hl
    by_cases hk : a = p.1
    · by_cases h : v = d a
      · simp only [mset, if_pos hk, if_pos h]
        exact mwfFrom_filter _ (mwfFrom_mono (Nat.le_succ_of_le hl.1.1) hl.2)
      · subst hk
        simp only [mset, if_true, if_neg h, mwfFrom, Bool.and_eq_true, decide_eq_true_eq]
        exact ⟨⟨hb, by simpa using h⟩, hl.2⟩
    · by_cases hlt : a < p.1
      · by_cases h : v = d a
        · simp only [mset, if_neg hk, if_pos hlt, if_pos h, mwfFrom, Bool.and_eq_true, decide_eq_true_eq]
          exact ⟨hl.1, mwfFrom_filter _ hl.2⟩
        · simp only [mset, if_neg hk, if_pos hlt, if_neg h, mwfFrom, Bool.and_eq_true, decide_eq_true_eq]
          exact ⟨⟨hb, by simpa using h⟩, ⟨Nat.succ_le_of_lt hlt, hl.1.2⟩, hl.2⟩
      · simp only [mset, if_neg hk, if_neg hlt, mwfFrom, Bool.and_eq_true, decide_eq_true_eq]
        exact ⟨hl.1, ih (by omega) hl.2⟩

/-- A write keeps the canonical form. -/
theorem mwf_mset {d : Nat → β} (a : Nat) (v : β) {l : List (Nat × β)} (hl : mwf d l = true) : mwf d (mset d a v l) = true :=
  mwfFrom_mset (Nat.zero_le a) v hl

/-- Returning a range to its default keeps the canonical form. -/
theorem mwf_mclear {d : Nat → β} (lo hi : Nat) {l : List (Nat × β)} (hl : mwf d l = true) : mwf d (mclear lo hi l) = true :=
  mwfFrom_filter _ hl

/-- The keys from `hi` on keep the form from `hi`. -/
theorem mwfFrom_filter_ge {d : Nat → β} (hi : Nat) {b : Nat} {l : List (Nat × β)} (hl : mwfFrom d b l = true) :
    mwfFrom d hi (l.filter fun p => decide (hi ≤ p.1)) = true := by
  induction l generalizing b with
  | nil => rfl
  | cons p t ih =>
    simp only [mwfFrom, Bool.and_eq_true, decide_eq_true_eq] at hl
    by_cases h : hi ≤ p.1
    · simp only [List.filter_cons, h, decide_true, if_true, mwfFrom, Bool.and_eq_true]
      exact ⟨⟨trivial, hl.1.2⟩, mwfFrom_filter _ hl.2⟩
    · simp only [List.filter_cons, h, decide_false, Bool.false_eq_true, if_false]
      exact ih hl.2

theorem mwfFrom_mrun (d : Nat → β) (vs : List β) (a : Nat) : mwfFrom d a (mrun d a vs) = true := by
  induction vs generalizing a with
  | nil => rfl
  | cons v vs ih =>
    by_cases h : v = d a
    · simp only [mrun, if_pos h]; exact mwfFrom_mono (Nat.le_succ a) (ih (a + 1))
    · simp only [mrun, if_neg h, mwfFrom, Bool.and_eq_true, decide_eq_true_eq]
      exact ⟨⟨Nat.le_refl a, by simpa using h⟩, ih (a + 1)⟩

/-- Two maps in the form, the second above every key of the first, join into one. -/
theorem mwfFrom_append {d : Nat → β} {b c : Nat} {x y : List (Nat × β)} (hx : mwfFrom d b x = true) (hk : ∀ p ∈ x, p.1 < c)
    (hy : mwfFrom d c y = true) (hc : b ≤ c) : mwfFrom d b (x ++ y) = true := by
  induction x generalizing b with
  | nil => exact mwfFrom_mono hc hy
  | cons p t ih =>
    simp only [mwfFrom, Bool.and_eq_true, decide_eq_true_eq, List.cons_append] at *
    exact ⟨hx.1, ih hx.2 (fun q hq => hk q (List.mem_cons_of_mem _ hq)) (hk p (by simp))⟩

/-- A block write keeps the canonical form. -/
theorem mwf_mwrite {d : Nat → β} (a : Nat) (vs : List β) {l : List (Nat × β)} (hl : mwf d l = true) :
    mwf d (mwrite d a vs l) = true := by
  unfold mwf mwrite msplice mrange at *
  rw [List.append_assoc]
  refine mwfFrom_append (c := a) (mwfFrom_filter _ hl) (fun p hp => by simpa using (List.mem_filter.1 hp).2) ?_ (Nat.zero_le a)
  refine mwfFrom_append (c := a + vs.length) (mwfFrom_filter _ (mwfFrom_mrun d vs a)) (fun p hp => ?_)
    (mwfFrom_filter_ge _ hl) (Nat.le_add_right _ _)
  have := (List.mem_filter.1 hp).2
  simp only [Bool.and_eq_true, decide_eq_true_eq] at this
  exact this.2

end

/-! ## Block reads and writes -/

theorem mget_append_lt (d : Nat → β) {b c : Nat} (x y : List (Nat × β)) (hb : b < c) (hy : ∀ p ∈ y, c ≤ p.1) :
    mget d (x ++ y) b = mget d x b := by
  induction x with
  | nil =>
    induction y with
    | nil => rfl
    | cons p t ih =>
      have : b ≠ p.1 := by have := hy p (by simp); omega
      simp only [List.nil_append, mget, if_neg this] at *
      exact ih fun q hq => hy q (List.mem_cons_of_mem _ hq)
  | cons p t ih => simp only [List.cons_append, mget, ih]

theorem mget_append_none (d : Nat → β) {b : Nat} (x y : List (Nat × β)) (hx : ∀ p ∈ x, p.1 ≠ b) :
    mget d (x ++ y) b = mget d y b := by
  induction x with
  | nil => rfl
  | cons p t ih =>
    have : b ≠ p.1 := fun h => hx p (by simp) h.symm
    simp only [List.cons_append, mget, if_neg this]
    exact ih fun q hq => hx q (List.mem_cons_of_mem _ hq)

theorem mget_mrun [DecidableEq β] (d : Nat → β) (vs : List β) (a i : Nat) (h : i < vs.length) :
    mget d (mrun d a vs) (a + i) = vs[i] := by
  induction vs generalizing a i with
  | nil => exact absurd h (Nat.not_lt_zero _)
  | cons v vs ih =>
    cases i with
    | zero =>
      by_cases hv : v = d a
      · simp only [mrun, if_pos hv]
        have hlow : ∀ (ws : List β) (c : Nat), a < c → mget d (mrun d c ws) a = d a := by
          intro ws
          induction ws with
          | nil => intro c _; rfl
          | cons w ws ihw =>
            intro c hc
            by_cases hw : w = d c
            · simp only [mrun, if_pos hw]; exact ihw _ (by omega)
            · simp only [mrun, if_neg hw, mget, if_neg (Nat.ne_of_lt hc)]; exact ihw _ (by omega)
        simpa [hv] using hlow vs (a + 1) (Nat.lt_succ_self a)
      · simp [mrun, hv, mget]
    | succ i =>
      have hi := ih (a + 1) i (by simpa using h)
      have he : a + 1 + i = a + (i + 1) := by omega
      rw [he] at hi
      by_cases hv : v = d a
      · simp only [mrun, if_pos hv]; simpa using hi
      · have hn : a + (i + 1) ≠ a := by omega
        simp only [mrun, if_neg hv, mget, if_neg hn]; simpa using hi

theorem mrun_keys [DecidableEq β] (d : Nat → β) (vs : List β) (a : Nat) : ∀ p ∈ mrun d a vs, a ≤ p.1 ∧ p.1 < a + vs.length := by
  induction vs generalizing a with
  | nil => intro p hp; exact absurd hp (List.not_mem_nil)
  | cons v vs ih =>
    intro p hp
    by_cases hv : v = d a
    · simp only [mrun, if_pos hv] at hp
      have := ih (a + 1) p hp; simp only [List.length_cons]; omega
    · simp only [mrun, if_neg hv, List.mem_cons] at hp
      rcases hp with rfl | hp
      · simp
      · have := ih (a + 1) p hp; simp only [List.length_cons]; omega

/-- What key `b` holds after a block write: the value written where it lies in the block, else what it held. -/
theorem mget_mwrite [DecidableEq β] (d : Nat → β) (a : Nat) (vs : List β) (l : List (Nat × β)) (b : Nat) :
    mget d (mwrite d a vs l) b = if h : a ≤ b ∧ b < a + vs.length then vs[b - a]'(by omega) else mget d l b := by
  have hr : mrange a (a + vs.length) (mrun d a vs) = mrun d a vs := by
    unfold mrange
    refine List.filter_eq_self.2 fun p hp => ?_
    have := mrun_keys d vs a p hp
    simp [this.1, this.2]
  have hge : ∀ p ∈ l.filter (fun p => decide (a + vs.length ≤ p.1)), a + vs.length ≤ p.1 := fun p hp => by
    simpa using (List.mem_filter.1 hp).2
  unfold mwrite msplice
  rw [hr, List.append_assoc]
  by_cases h1 : b < a
  · rw [dif_neg (by omega), mget_append_lt d (c := a) _ _ h1]
    · exact mget_filter_keep d (fun k => decide (k < a)) (by simpa using h1) l
    · intro p hp
      rcases List.mem_append.1 hp with hp | hp
      · exact (mrun_keys d vs a p hp).1
      · have := hge p hp; omega
  · rw [mget_append_none d _ _ (by intro p hp; have := (List.mem_filter.1 hp).2; simp only [decide_eq_true_eq] at this; omega)]
    by_cases h2 : b < a + vs.length
    · rw [dif_pos ⟨by omega, h2⟩, mget_append_lt d (c := a + vs.length) _ _ h2 hge]
      have := mget_mrun d vs a (b - a) (by omega)
      rw [show a + (b - a) = b by omega] at this
      exact this
    · rw [dif_neg (by omega), mget_append_none d _ _ (by intro p hp; have := mrun_keys d vs a p hp; omega)]
      exact mget_filter_keep d (fun k => decide (a + vs.length ≤ k)) (by simp only [decide_eq_true_eq]; omega) l

/-- A block read, value by value. -/
theorem mread_eq (d : Nat → β) (a n : Nat) (l : List (Nat × β)) : mread d a n l = (List.range n).map fun i => mget d l (a + i) := by
  unfold mread mrange
  refine List.map_congr_left fun i hi => ?_
  have hi' : i < n := List.mem_range.1 hi
  exact mget_filter_keep d (fun k => decide (a ≤ k) && decide (k < a + n)) (by simp [hi']) l

/-- A block read of what a block write has written returns it. -/
theorem mread_mwrite_self [DecidableEq β] (d : Nat → β) (a : Nat) (vs : List β) (l : List (Nat × β)) :
    mread d a vs.length (mwrite d a vs l) = vs := by
  rw [mread_eq]
  refine List.ext_getElem (by simp) fun i h1 h2 => ?_
  simp only [List.getElem_map, List.getElem_range, mget_mwrite]
  rw [dif_pos ⟨by omega, by omega⟩]
  simp

/-- A block read outside what a block write has written is as before. -/
theorem mread_mwrite_apart [DecidableEq β] (d : Nat → β) (a b n : Nat) (vs : List β) (l : List (Nat × β))
    (h : b + n ≤ a ∨ a + vs.length ≤ b) : mread d b n (mwrite d a vs l) = mread d b n l := by
  rw [mread_eq, mread_eq]
  refine List.map_congr_left fun i hi => ?_
  have hi' : i < n := List.mem_range.1 hi
  rw [mget_mwrite, dif_neg (by omega)]

/-! ## Tables -/

@[simp] theorem tget_tset_self [DecidableEq β] (r : β) (l : List (Nat × β)) (i : Nat) (x : β) :
    tget r (tset r l i x) i = x := mget_mset_self (fun _ => r) i x l

theorem tget_tset_ne [DecidableEq β] (r : β) (l : List (Nat × β)) {i j : Nat} (h : j ≠ i) (x : β) :
    tget r (tset r l i x) j = tget r l j := mget_mset_ne (fun _ => r) h x l

end Sys2Proof.Machine
end

