-- ==== Sys2Proof/Laws/State.lean ====
section
/-! SUPPORT. One lemma per field and update of State: what an update leaves alone, so that no proof unfolds a record update. -/
namespace Sys2Proof.Machine

/-! ### State.setReg -/

@[simp] theorem State.setReg_pending (s : State) (a : Nat) (w : Word) : (s.setReg a w).pending = s.pending := rfl
@[simp] theorem State.setReg_now (s : State) (a : Nat) (w : Word) : (s.setReg a w).now = s.now := rfl
@[simp] theorem State.setReg_live (s : State) (a : Nat) (w : Word) : (s.setReg a w).live = s.live := rfl
@[simp] theorem State.setReg_svcEvt (s : State) (a : Nat) (w : Word) : (s.setReg a w).svcEvt = s.svcEvt := rfl
@[simp] theorem State.setReg_incs (s : State) (a : Nat) (w : Word) : (s.setReg a w).incs = s.incs := rfl
@[simp] theorem State.setReg_committed (s : State) (a : Nat) (w : Word) : (s.setReg a w).committed = s.committed := rfl
@[simp] theorem State.setReg_fab (s : State) (a : Nat) (w : Word) : (s.setReg a w).fab = s.fab := rfl
@[simp] theorem State.setReg_jtag (s : State) (a : Nat) (w : Word) : (s.setReg a w).jtag = s.jtag := rfl
@[simp] theorem State.setReg_evtOut (s : State) (a : Nat) (w : Word) : (s.setReg a w).evtOut = s.evtOut := rfl
@[simp] theorem State.setReg_irqN (s : State) (a : Nat) (w : Word) : (s.setReg a w).irqN = s.irqN := rfl
@[simp] theorem State.setReg_dram (s : State) (a : Nat) (w : Word) : (s.setReg a w).dram = s.dram := rfl
@[simp] theorem State.setReg_badBlocks (s : State) (a : Nat) (w : Word) : (s.setReg a w).badBlocks = s.badBlocks := rfl
@[simp] theorem State.setReg_flash (s : State) (a : Nat) (w : Word) : (s.setReg a w).flash = s.flash := rfl
@[simp] theorem State.setReg_freeIdx (s : State) (a : Nat) (w : Word) : (s.setReg a w).freeIdx = s.freeIdx := rfl
@[simp] theorem State.setReg_sent (s : State) (a : Nat) (w : Word) : (s.setReg a w).sent = s.sent := rfl
@[simp] theorem State.setReg_pQspi (s : State) (a : Nat) (w : Word) : (s.setReg a w).pQspi = s.pQspi := rfl
@[simp] theorem State.setReg_pChain (s : State) (a : Nat) (w : Word) : (s.setReg a w).pChain = s.pChain := rfl
@[simp] theorem State.setReg_pUdp (s : State) (a : Nat) (w : Word) : (s.setReg a w).pUdp = s.pUdp := rfl
@[simp] theorem State.setReg_pSvc (s : State) (a : Nat) (w : Word) : (s.setReg a w).pSvc = s.pSvc := rfl
@[simp] theorem State.setReg_qspi (s : State) (a : Nat) (w : Word) : (s.setReg a w).qspi = s.qspi := rfl
@[simp] theorem State.setReg_chip (s : State) (a : Nat) (w : Word) : (s.setReg a w).chip = s.chip := rfl
@[simp] theorem State.setReg_time (s : State) (a : Nat) (w : Word) : (s.setReg a w).time = s.time := rfl
@[simp] theorem State.setReg_pace (s : State) (a : Nat) (w : Word) : (s.setReg a w).pace = s.pace := rfl
@[simp] theorem State.setReg_intake (s : State) (a : Nat) (w : Word) : (s.setReg a w).intake = s.intake := rfl
@[simp] theorem State.setReg_infl (s : State) (a : Nat) (w : Word) : (s.setReg a w).infl = s.infl := rfl
@[simp] theorem State.setReg_map (s : State) (a : Nat) (w : Word) : (s.setReg a w).map = s.map := rfl
@[simp] theorem State.setReg_delay (s : State) (a : Nat) (w : Word) : (s.setReg a w).delay = s.delay := rfl
@[simp] theorem State.setReg_fire (s : State) (a : Nat) (w : Word) : (s.setReg a w).fire = s.fire := rfl
@[simp] theorem State.setReg_heads (s : State) (a : Nat) (w : Word) : (s.setReg a w).heads = s.heads := rfl
@[simp] theorem State.setReg_failed (s : State) (a : Nat) (w : Word) : (s.setReg a w).failed = s.failed := rfl
@[simp] theorem State.setReg_web (s : State) (a : Nat) (w : Word) : (s.setReg a w).web = s.web := rfl
@[simp] theorem State.setReg_pair (s : State) (a : Nat) (w : Word) : (s.setReg a w).pair = s.pair := rfl
@[simp] theorem State.setReg_cams (s : State) (a : Nat) (w : Word) : (s.setReg a w).cams = s.cams := rfl
@[simp] theorem State.setReg_insp (s : State) (a : Nat) (w : Word) : (s.setReg a w).insp = s.insp := rfl
@[simp] theorem State.setReg_trav (s : State) (a : Nat) (w : Word) : (s.setReg a w).trav = s.trav := rfl
@[simp] theorem State.setReg_lanes (s : State) (a : Nat) (w : Word) : (s.setReg a w).lanes = s.lanes := rfl
@[simp] theorem State.setReg_chain (s : State) (a : Nat) (w : Word) : (s.setReg a w).chain = s.chain := rfl
@[simp] theorem State.setReg_eth (s : State) (a : Nat) (w : Word) : (s.setReg a w).eth = s.eth := rfl
@[simp] theorem State.setReg_dramc (s : State) (a : Nat) (w : Word) : (s.setReg a w).dramc = s.dramc := rfl
@[simp] theorem State.setReg_deflE (s : State) (a : Nat) (w : Word) : (s.setReg a w).deflE = s.deflE := rfl
@[simp] theorem State.setReg_loop (s : State) (a : Nat) (w : Word) : (s.setReg a w).loop = s.loop := rfl
@[simp] theorem State.setReg_axes (s : State) (a : Nat) (w : Word) : (s.setReg a w).axes = s.axes := rfl
@[simp] theorem State.setReg_tally (s : State) (a : Nat) (w : Word) : (s.setReg a w).tally = s.tally := rfl
@[simp] theorem State.setReg_svc (s : State) (a : Nat) (w : Word) : (s.setReg a w).svc = s.svc := rfl
@[simp] theorem State.setReg_dbg (s : State) (a : Nat) (w : Word) : (s.setReg a w).dbg = s.dbg := rfl
@[simp] theorem State.setReg_heldInReset (s : State) (a : Nat) (w : Word) (r : Nat) : (s.setReg a w).heldInReset r = s.heldInReset r := rfl
@[simp] theorem State.setReg_released (s : State) (a : Nat) (w : Word) (r : Nat) : (s.setReg a w).released r = s.released r := rfl

/-! ### State.setF -/

@[simp] theorem State.setF_pending (s : State) (a lo n v : Nat) : (s.setF a lo n v).pending = s.pending := rfl
@[simp] theorem State.setF_now (s : State) (a lo n v : Nat) : (s.setF a lo n v).now = s.now := rfl
@[simp] theorem State.setF_live (s : State) (a lo n v : Nat) : (s.setF a lo n v).live = s.live := rfl
@[simp] theorem State.setF_svcEvt (s : State) (a lo n v : Nat) : (s.setF a lo n v).svcEvt = s.svcEvt := rfl
@[simp] theorem State.setF_incs (s : State) (a lo n v : Nat) : (s.setF a lo n v).incs = s.incs := rfl
@[simp] theorem State.setF_committed (s : State) (a lo n v : Nat) : (s.setF a lo n v).committed = s.committed := rfl
@[simp] theorem State.setF_fab (s : State) (a lo n v : Nat) : (s.setF a lo n v).fab = s.fab := rfl
@[simp] theorem State.setF_jtag (s : State) (a lo n v : Nat) : (s.setF a lo n v).jtag = s.jtag := rfl
@[simp] theorem State.setF_evtOut (s : State) (a lo n v : Nat) : (s.setF a lo n v).evtOut = s.evtOut := rfl
@[simp] theorem State.setF_irqN (s : State) (a lo n v : Nat) : (s.setF a lo n v).irqN = s.irqN := rfl
@[simp] theorem State.setF_dram (s : State) (a lo n v : Nat) : (s.setF a lo n v).dram = s.dram := rfl
@[simp] theorem State.setF_badBlocks (s : State) (a lo n v : Nat) : (s.setF a lo n v).badBlocks = s.badBlocks := rfl
@[simp] theorem State.setF_flash (s : State) (a lo n v : Nat) : (s.setF a lo n v).flash = s.flash := rfl
@[simp] theorem State.setF_freeIdx (s : State) (a lo n v : Nat) : (s.setF a lo n v).freeIdx = s.freeIdx := rfl
@[simp] theorem State.setF_sent (s : State) (a lo n v : Nat) : (s.setF a lo n v).sent = s.sent := rfl
@[simp] theorem State.setF_pQspi (s : State) (a lo n v : Nat) : (s.setF a lo n v).pQspi = s.pQspi := rfl
@[simp] theorem State.setF_pChain (s : State) (a lo n v : Nat) : (s.setF a lo n v).pChain = s.pChain := rfl
@[simp] theorem State.setF_pUdp (s : State) (a lo n v : Nat) : (s.setF a lo n v).pUdp = s.pUdp := rfl
@[simp] theorem State.setF_pSvc (s : State) (a lo n v : Nat) : (s.setF a lo n v).pSvc = s.pSvc := rfl
@[simp] theorem State.setF_qspi (s : State) (a lo n v : Nat) : (s.setF a lo n v).qspi = s.qspi := rfl
@[simp] theorem State.setF_chip (s : State) (a lo n v : Nat) : (s.setF a lo n v).chip = s.chip := rfl
@[simp] theorem State.setF_time (s : State) (a lo n v : Nat) : (s.setF a lo n v).time = s.time := rfl
@[simp] theorem State.setF_pace (s : State) (a lo n v : Nat) : (s.setF a lo n v).pace = s.pace := rfl
@[simp] theorem State.setF_intake (s : State) (a lo n v : Nat) : (s.setF a lo n v).intake = s.intake := rfl
@[simp] theorem State.setF_infl (s : State) (a lo n v : Nat) : (s.setF a lo n v).infl = s.infl := rfl
@[simp] theorem State.setF_map (s : State) (a lo n v : Nat) : (s.setF a lo n v).map = s.map := rfl
@[simp] theorem State.setF_delay (s : State) (a lo n v : Nat) : (s.setF a lo n v).delay = s.delay := rfl
@[simp] theorem State.setF_fire (s : State) (a lo n v : Nat) : (s.setF a lo n v).fire = s.fire := rfl
@[simp] theorem State.setF_heads (s : State) (a lo n v : Nat) : (s.setF a lo n v).heads = s.heads := rfl
@[simp] theorem State.setF_failed (s : State) (a lo n v : Nat) : (s.setF a lo n v).failed = s.failed := rfl
@[simp] theorem State.setF_web (s : State) (a lo n v : Nat) : (s.setF a lo n v).web = s.web := rfl
@[simp] theorem State.setF_pair (s : State) (a lo n v : Nat) : (s.setF a lo n v).pair = s.pair := rfl
@[simp] theorem State.setF_cams (s : State) (a lo n v : Nat) : (s.setF a lo n v).cams = s.cams := rfl
@[simp] theorem State.setF_insp (s : State) (a lo n v : Nat) : (s.setF a lo n v).insp = s.insp := rfl
@[simp] theorem State.setF_trav (s : State) (a lo n v : Nat) : (s.setF a lo n v).trav = s.trav := rfl
@[simp] theorem State.setF_lanes (s : State) (a lo n v : Nat) : (s.setF a lo n v).lanes = s.lanes := rfl
@[simp] theorem State.setF_chain (s : State) (a lo n v : Nat) : (s.setF a lo n v).chain = s.chain := rfl
@[simp] theorem State.setF_eth (s : State) (a lo n v : Nat) : (s.setF a lo n v).eth = s.eth := rfl
@[simp] theorem State.setF_dramc (s : State) (a lo n v : Nat) : (s.setF a lo n v).dramc = s.dramc := rfl
@[simp] theorem State.setF_deflE (s : State) (a lo n v : Nat) : (s.setF a lo n v).deflE = s.deflE := rfl
@[simp] theorem State.setF_loop (s : State) (a lo n v : Nat) : (s.setF a lo n v).loop = s.loop := rfl
@[simp] theorem State.setF_axes (s : State) (a lo n v : Nat) : (s.setF a lo n v).axes = s.axes := rfl
@[simp] theorem State.setF_tally (s : State) (a lo n v : Nat) : (s.setF a lo n v).tally = s.tally := rfl
@[simp] theorem State.setF_svc (s : State) (a lo n v : Nat) : (s.setF a lo n v).svc = s.svc := rfl
@[simp] theorem State.setF_dbg (s : State) (a lo n v : Nat) : (s.setF a lo n v).dbg = s.dbg := rfl
@[simp] theorem State.setF_heldInReset (s : State) (a lo n v : Nat) (r : Nat) : (s.setF a lo n v).heldInReset r = s.heldInReset r := rfl
@[simp] theorem State.setF_released (s : State) (a lo n v : Nat) (r : Nat) : (s.setF a lo n v).released r = s.released r := rfl

/-! ### State.setB -/

@[simp] theorem State.setB_pending (s : State) (a i : Nat) (c : Bool) : (s.setB a i c).pending = s.pending := rfl
@[simp] theorem State.setB_now (s : State) (a i : Nat) (c : Bool) : (s.setB a i c).now = s.now := rfl
@[simp] theorem State.setB_live (s : State) (a i : Nat) (c : Bool) : (s.setB a i c).live = s.live := rfl
@[simp] theorem State.setB_svcEvt (s : State) (a i : Nat) (c : Bool) : (s.setB a i c).svcEvt = s.svcEvt := rfl
@[simp] theorem State.setB_incs (s : State) (a i : Nat) (c : Bool) : (s.setB a i c).incs = s.incs := rfl
@[simp] theorem State.setB_committed (s : State) (a i : Nat) (c : Bool) : (s.setB a i c).committed = s.committed := rfl
@[simp] theorem State.setB_fab (s : State) (a i : Nat) (c : Bool) : (s.setB a i c).fab = s.fab := rfl
@[simp] theorem State.setB_jtag (s : State) (a i : Nat) (c : Bool) : (s.setB a i c).jtag = s.jtag := rfl
@[simp] theorem State.setB_evtOut (s : State) (a i : Nat) (c : Bool) : (s.setB a i c).evtOut = s.evtOut := rfl
@[simp] theorem State.setB_irqN (s : State) (a i : Nat) (c : Bool) : (s.setB a i c).irqN = s.irqN := rfl
@[simp] theorem State.setB_dram (s : State) (a i : Nat) (c : Bool) : (s.setB a i c).dram = s.dram := rfl
@[simp] theorem State.setB_badBlocks (s : State) (a i : Nat) (c : Bool) : (s.setB a i c).badBlocks = s.badBlocks := rfl
@[simp] theorem State.setB_flash (s : State) (a i : Nat) (c : Bool) : (s.setB a i c).flash = s.flash := rfl
@[simp] theorem State.setB_freeIdx (s : State) (a i : Nat) (c : Bool) : (s.setB a i c).freeIdx = s.freeIdx := rfl
@[simp] theorem State.setB_sent (s : State) (a i : Nat) (c : Bool) : (s.setB a i c).sent = s.sent := rfl
@[simp] theorem State.setB_pQspi (s : State) (a i : Nat) (c : Bool) : (s.setB a i c).pQspi = s.pQspi := rfl
@[simp] theorem State.setB_pChain (s : State) (a i : Nat) (c : Bool) : (s.setB a i c).pChain = s.pChain := rfl
@[simp] theorem State.setB_pUdp (s : State) (a i : Nat) (c : Bool) : (s.setB a i c).pUdp = s.pUdp := rfl
@[simp] theorem State.setB_pSvc (s : State) (a i : Nat) (c : Bool) : (s.setB a i c).pSvc = s.pSvc := rfl
@[simp] theorem State.setB_qspi (s : State) (a i : Nat) (c : Bool) : (s.setB a i c).qspi = s.qspi := rfl
@[simp] theorem State.setB_chip (s : State) (a i : Nat) (c : Bool) : (s.setB a i c).chip = s.chip := rfl
@[simp] theorem State.setB_time (s : State) (a i : Nat) (c : Bool) : (s.setB a i c).time = s.time := rfl
@[simp] theorem State.setB_pace (s : State) (a i : Nat) (c : Bool) : (s.setB a i c).pace = s.pace := rfl
@[simp] theorem State.setB_intake (s : State) (a i : Nat) (c : Bool) : (s.setB a i c).intake = s.intake := rfl
@[simp] theorem State.setB_infl (s : State) (a i : Nat) (c : Bool) : (s.setB a i c).infl = s.infl := rfl
@[simp] theorem State.setB_map (s : State) (a i : Nat) (c : Bool) : (s.setB a i c).map = s.map := rfl
@[simp] theorem State.setB_delay (s : State) (a i : Nat) (c : Bool) : (s.setB a i c).delay = s.delay := rfl
@[simp] theorem State.setB_fire (s : State) (a i : Nat) (c : Bool) : (s.setB a i c).fire = s.fire := rfl
@[simp] theorem State.setB_heads (s : State) (a i : Nat) (c : Bool) : (s.setB a i c).heads = s.heads := rfl
@[simp] theorem State.setB_failed (s : State) (a i : Nat) (c : Bool) : (s.setB a i c).failed = s.failed := rfl
@[simp] theorem State.setB_web (s : State) (a i : Nat) (c : Bool) : (s.setB a i c).web = s.web := rfl
@[simp] theorem State.setB_pair (s : State) (a i : Nat) (c : Bool) : (s.setB a i c).pair = s.pair := rfl
@[simp] theorem State.setB_cams (s : State) (a i : Nat) (c : Bool) : (s.setB a i c).cams = s.cams := rfl
@[simp] theorem State.setB_insp (s : State) (a i : Nat) (c : Bool) : (s.setB a i c).insp = s.insp := rfl
@[simp] theorem State.setB_trav (s : State) (a i : Nat) (c : Bool) : (s.setB a i c).trav = s.trav := rfl
@[simp] theorem State.setB_lanes (s : State) (a i : Nat) (c : Bool) : (s.setB a i c).lanes = s.lanes := rfl
@[simp] theorem State.setB_chain (s : State) (a i : Nat) (c : Bool) : (s.setB a i c).chain = s.chain := rfl
@[simp] theorem State.setB_eth (s : State) (a i : Nat) (c : Bool) : (s.setB a i c).eth = s.eth := rfl
@[simp] theorem State.setB_dramc (s : State) (a i : Nat) (c : Bool) : (s.setB a i c).dramc = s.dramc := rfl
@[simp] theorem State.setB_deflE (s : State) (a i : Nat) (c : Bool) : (s.setB a i c).deflE = s.deflE := rfl
@[simp] theorem State.setB_loop (s : State) (a i : Nat) (c : Bool) : (s.setB a i c).loop = s.loop := rfl
@[simp] theorem State.setB_axes (s : State) (a i : Nat) (c : Bool) : (s.setB a i c).axes = s.axes := rfl
@[simp] theorem State.setB_tally (s : State) (a i : Nat) (c : Bool) : (s.setB a i c).tally = s.tally := rfl
@[simp] theorem State.setB_svc (s : State) (a i : Nat) (c : Bool) : (s.setB a i c).svc = s.svc := rfl
@[simp] theorem State.setB_dbg (s : State) (a i : Nat) (c : Bool) : (s.setB a i c).dbg = s.dbg := rfl
@[simp] theorem State.setB_heldInReset (s : State) (a i : Nat) (c : Bool) (r : Nat) : (s.setB a i c).heldInReset r = s.heldInReset r := rfl
@[simp] theorem State.setB_released (s : State) (a i : Nat) (c : Bool) (r : Nat) : (s.setB a i c).released r = s.released r := rfl

/-! ### State.elapse -/

@[simp] theorem State.elapse_pending (s : State) (dt : Nat) : (s.elapse dt).pending = s.pending := rfl
@[simp] theorem State.elapse_words (s : State) (dt : Nat) : (s.elapse dt).words = s.words := rfl
@[simp] theorem State.elapse_live (s : State) (dt : Nat) : (s.elapse dt).live = s.live := rfl
@[simp] theorem State.elapse_svcEvt (s : State) (dt : Nat) : (s.elapse dt).svcEvt = s.svcEvt := rfl
@[simp] theorem State.elapse_committed (s : State) (dt : Nat) : (s.elapse dt).committed = s.committed := rfl
@[simp] theorem State.elapse_fab (s : State) (dt : Nat) : (s.elapse dt).fab = s.fab := rfl
@[simp] theorem State.elapse_jtag (s : State) (dt : Nat) : (s.elapse dt).jtag = s.jtag := rfl
@[simp] theorem State.elapse_evtOut (s : State) (dt : Nat) : (s.elapse dt).evtOut = s.evtOut := rfl
@[simp] theorem State.elapse_irqN (s : State) (dt : Nat) : (s.elapse dt).irqN = s.irqN := rfl
@[simp] theorem State.elapse_dram (s : State) (dt : Nat) : (s.elapse dt).dram = s.dram := rfl
@[simp] theorem State.elapse_badBlocks (s : State) (dt : Nat) : (s.elapse dt).badBlocks = s.badBlocks := rfl
@[simp] theorem State.elapse_flash (s : State) (dt : Nat) : (s.elapse dt).flash = s.flash := rfl
@[simp] theorem State.elapse_freeIdx (s : State) (dt : Nat) : (s.elapse dt).freeIdx = s.freeIdx := rfl
@[simp] theorem State.elapse_sent (s : State) (dt : Nat) : (s.elapse dt).sent = s.sent := rfl
@[simp] theorem State.elapse_pQspi (s : State) (dt : Nat) : (s.elapse dt).pQspi = s.pQspi := rfl
@[simp] theorem State.elapse_pChain (s : State) (dt : Nat) : (s.elapse dt).pChain = s.pChain := rfl
@[simp] theorem State.elapse_pUdp (s : State) (dt : Nat) : (s.elapse dt).pUdp = s.pUdp := rfl
@[simp] theorem State.elapse_pSvc (s : State) (dt : Nat) : (s.elapse dt).pSvc = s.pSvc := rfl
@[simp] theorem State.elapse_qspi (s : State) (dt : Nat) : (s.elapse dt).qspi = s.qspi := rfl
@[simp] theorem State.elapse_chip (s : State) (dt : Nat) : (s.elapse dt).chip = s.chip := rfl
@[simp] theorem State.elapse_pace (s : State) (dt : Nat) : (s.elapse dt).pace = s.pace := rfl
@[simp] theorem State.elapse_intake (s : State) (dt : Nat) : (s.elapse dt).intake = s.intake := rfl
@[simp] theorem State.elapse_infl (s : State) (dt : Nat) : (s.elapse dt).infl = s.infl := rfl
@[simp] theorem State.elapse_map (s : State) (dt : Nat) : (s.elapse dt).map = s.map := rfl
@[simp] theorem State.elapse_delay (s : State) (dt : Nat) : (s.elapse dt).delay = s.delay := rfl
@[simp] theorem State.elapse_fire (s : State) (dt : Nat) : (s.elapse dt).fire = s.fire := rfl
@[simp] theorem State.elapse_heads (s : State) (dt : Nat) : (s.elapse dt).heads = s.heads := rfl
@[simp] theorem State.elapse_failed (s : State) (dt : Nat) : (s.elapse dt).failed = s.failed := rfl
@[simp] theorem State.elapse_web (s : State) (dt : Nat) : (s.elapse dt).web = s.web := rfl
@[simp] theorem State.elapse_pair (s : State) (dt : Nat) : (s.elapse dt).pair = s.pair := rfl
@[simp] theorem State.elapse_cams (s : State) (dt : Nat) : (s.elapse dt).cams = s.cams := rfl
@[simp] theorem State.elapse_insp (s : State) (dt : Nat) : (s.elapse dt).insp = s.insp := rfl
@[simp] theorem State.elapse_trav (s : State) (dt : Nat) : (s.elapse dt).trav = s.trav := rfl
@[simp] theorem State.elapse_lanes (s : State) (dt : Nat) : (s.elapse dt).lanes = s.lanes := rfl
@[simp] theorem State.elapse_chain (s : State) (dt : Nat) : (s.elapse dt).chain = s.chain := rfl
@[simp] theorem State.elapse_eth (s : State) (dt : Nat) : (s.elapse dt).eth = s.eth := rfl
@[simp] theorem State.elapse_dramc (s : State) (dt : Nat) : (s.elapse dt).dramc = s.dramc := rfl
@[simp] theorem State.elapse_deflE (s : State) (dt : Nat) : (s.elapse dt).deflE = s.deflE := rfl
@[simp] theorem State.elapse_loop (s : State) (dt : Nat) : (s.elapse dt).loop = s.loop := rfl
@[simp] theorem State.elapse_axes (s : State) (dt : Nat) : (s.elapse dt).axes = s.axes := rfl
@[simp] theorem State.elapse_tally (s : State) (dt : Nat) : (s.elapse dt).tally = s.tally := rfl
@[simp] theorem State.elapse_svc (s : State) (dt : Nat) : (s.elapse dt).svc = s.svc := rfl
@[simp] theorem State.elapse_dbg (s : State) (dt : Nat) : (s.elapse dt).dbg = s.dbg := rfl
@[simp] theorem State.elapse_reg (s : State) (dt : Nat) (b : Nat) : (s.elapse dt).reg b = s.reg b := rfl
@[simp] theorem State.elapse_rf (s : State) (dt : Nat) (b l m : Nat) : (s.elapse dt).rf b l m = s.rf b l m := rfl
@[simp] theorem State.elapse_rb (s : State) (dt : Nat) (b j : Nat) : (s.elapse dt).rb b j = s.rb b j := rfl
@[simp] theorem State.elapse_inForce (s : State) (dt : Nat) (b : Nat) : (s.elapse dt).inForce b = s.inForce b := rfl
@[simp] theorem State.elapse_lf (s : State) (dt : Nat) (b l m : Nat) : (s.elapse dt).lf b l m = s.lf b l m := rfl
@[simp] theorem State.elapse_lb (s : State) (dt : Nat) (b j : Nat) : (s.elapse dt).lb b j = s.lb b j := rfl
@[simp] theorem State.elapse_heldInReset (s : State) (dt : Nat) (r : Nat) : (s.elapse dt).heldInReset r = s.heldInReset r := rfl
@[simp] theorem State.elapse_released (s : State) (dt : Nat) (r : Nat) : (s.elapse dt).released r = s.released r := rfl
@[simp] theorem State.elapse_enabled (s : State) (dt : Nat) (r : Nat) : (s.elapse dt).enabled r = s.enabled r := rfl
@[simp] theorem State.elapse_quiescing (s : State) (dt : Nat) (r : Nat) : (s.elapse dt).quiescing r = s.quiescing r := rfl
@[simp] theorem State.elapse_running (s : State) (dt : Nat) (r : Nat) : (s.elapse dt).running r = s.running r := rfl
@[simp] theorem State.elapse_shadowPending (s : State) (dt : Nat) (r : Nat) : (s.elapse dt).shadowPending r = s.shadowPending r := rfl
@[simp] theorem State.elapse_cmdBusy (s : State) (dt : Nat) (b : Nat) : (s.elapse dt).cmdBusy b = s.cmdBusy b := rfl

/-! ### State.dramWrite -/

@[simp] theorem State.dramWrite_pending (s : State) (a : Nat) (l : List Byte) : (s.dramWrite a l).pending = s.pending := rfl
@[simp] theorem State.dramWrite_now (s : State) (a : Nat) (l : List Byte) : (s.dramWrite a l).now = s.now := rfl
@[simp] theorem State.dramWrite_words (s : State) (a : Nat) (l : List Byte) : (s.dramWrite a l).words = s.words := rfl
@[simp] theorem State.dramWrite_live (s : State) (a : Nat) (l : List Byte) : (s.dramWrite a l).live = s.live := rfl
@[simp] theorem State.dramWrite_svcEvt (s : State) (a : Nat) (l : List Byte) : (s.dramWrite a l).svcEvt = s.svcEvt := rfl
@[simp] theorem State.dramWrite_incs (s : State) (a : Nat) (l : List Byte) : (s.dramWrite a l).incs = s.incs := rfl
@[simp] theorem State.dramWrite_committed (s : State) (a : Nat) (l : List Byte) : (s.dramWrite a l).committed = s.committed := rfl
@[simp] theorem State.dramWrite_fab (s : State) (a : Nat) (l : List Byte) : (s.dramWrite a l).fab = s.fab := rfl
@[simp] theorem State.dramWrite_jtag (s : State) (a : Nat) (l : List Byte) : (s.dramWrite a l).jtag = s.jtag := rfl
@[simp] theorem State.dramWrite_evtOut (s : State) (a : Nat) (l : List Byte) : (s.dramWrite a l).evtOut = s.evtOut := rfl
@[simp] theorem State.dramWrite_irqN (s : State) (a : Nat) (l : List Byte) : (s.dramWrite a l).irqN = s.irqN := rfl
@[simp] theorem State.dramWrite_flash (s : State) (a : Nat) (l : List Byte) : (s.dramWrite a l).flash = s.flash := rfl
@[simp] theorem State.dramWrite_freeIdx (s : State) (a : Nat) (l : List Byte) : (s.dramWrite a l).freeIdx = s.freeIdx := rfl
@[simp] theorem State.dramWrite_sent (s : State) (a : Nat) (l : List Byte) : (s.dramWrite a l).sent = s.sent := rfl
@[simp] theorem State.dramWrite_pQspi (s : State) (a : Nat) (l : List Byte) : (s.dramWrite a l).pQspi = s.pQspi := rfl
@[simp] theorem State.dramWrite_pChain (s : State) (a : Nat) (l : List Byte) : (s.dramWrite a l).pChain = s.pChain := rfl
@[simp] theorem State.dramWrite_pUdp (s : State) (a : Nat) (l : List Byte) : (s.dramWrite a l).pUdp = s.pUdp := rfl
@[simp] theorem State.dramWrite_pSvc (s : State) (a : Nat) (l : List Byte) : (s.dramWrite a l).pSvc = s.pSvc := rfl
@[simp] theorem State.dramWrite_qspi (s : State) (a : Nat) (l : List Byte) : (s.dramWrite a l).qspi = s.qspi := rfl
@[simp] theorem State.dramWrite_chip (s : State) (a : Nat) (l : List Byte) : (s.dramWrite a l).chip = s.chip := rfl
@[simp] theorem State.dramWrite_time (s : State) (a : Nat) (l : List Byte) : (s.dramWrite a l).time = s.time := rfl
@[simp] theorem State.dramWrite_pace (s : State) (a : Nat) (l : List Byte) : (s.dramWrite a l).pace = s.pace := rfl
@[simp] theorem State.dramWrite_intake (s : State) (a : Nat) (l : List Byte) : (s.dramWrite a l).intake = s.intake := rfl
@[simp] theorem State.dramWrite_infl (s : State) (a : Nat) (l : List Byte) : (s.dramWrite a l).infl = s.infl := rfl
@[simp] theorem State.dramWrite_map (s : State) (a : Nat) (l : List Byte) : (s.dramWrite a l).map = s.map := rfl
@[simp] theorem State.dramWrite_delay (s : State) (a : Nat) (l : List Byte) : (s.dramWrite a l).delay = s.delay := rfl
@[simp] theorem State.dramWrite_fire (s : State) (a : Nat) (l : List Byte) : (s.dramWrite a l).fire = s.fire := rfl
@[simp] theorem State.dramWrite_heads (s : State) (a : Nat) (l : List Byte) : (s.dramWrite a l).heads = s.heads := rfl
@[simp] theorem State.dramWrite_failed (s : State) (a : Nat) (l : List Byte) : (s.dramWrite a l).failed = s.failed := rfl
@[simp] theorem State.dramWrite_web (s : State) (a : Nat) (l : List Byte) : (s.dramWrite a l).web = s.web := rfl
@[simp] theorem State.dramWrite_pair (s : State) (a : Nat) (l : List Byte) : (s.dramWrite a l).pair = s.pair := rfl
@[simp] theorem State.dramWrite_cams (s : State) (a : Nat) (l : List Byte) : (s.dramWrite a l).cams = s.cams := rfl
@[simp] theorem State.dramWrite_insp (s : State) (a : Nat) (l : List Byte) : (s.dramWrite a l).insp = s.insp := rfl
@[simp] theorem State.dramWrite_trav (s : State) (a : Nat) (l : List Byte) : (s.dramWrite a l).trav = s.trav := rfl
@[simp] theorem State.dramWrite_lanes (s : State) (a : Nat) (l : List Byte) : (s.dramWrite a l).lanes = s.lanes := rfl
@[simp] theorem State.dramWrite_chain (s : State) (a : Nat) (l : List Byte) : (s.dramWrite a l).chain = s.chain := rfl
@[simp] theorem State.dramWrite_eth (s : State) (a : Nat) (l : List Byte) : (s.dramWrite a l).eth = s.eth := rfl
@[simp] theorem State.dramWrite_dramc (s : State) (a : Nat) (l : List Byte) : (s.dramWrite a l).dramc = s.dramc := rfl
@[simp] theorem State.dramWrite_deflE (s : State) (a : Nat) (l : List Byte) : (s.dramWrite a l).deflE = s.deflE := rfl
@[simp] theorem State.dramWrite_loop (s : State) (a : Nat) (l : List Byte) : (s.dramWrite a l).loop = s.loop := rfl
@[simp] theorem State.dramWrite_axes (s : State) (a : Nat) (l : List Byte) : (s.dramWrite a l).axes = s.axes := rfl
@[simp] theorem State.dramWrite_tally (s : State) (a : Nat) (l : List Byte) : (s.dramWrite a l).tally = s.tally := rfl
@[simp] theorem State.dramWrite_svc (s : State) (a : Nat) (l : List Byte) : (s.dramWrite a l).svc = s.svc := rfl
@[simp] theorem State.dramWrite_dbg (s : State) (a : Nat) (l : List Byte) : (s.dramWrite a l).dbg = s.dbg := rfl
@[simp] theorem State.dramWrite_reg (s : State) (a : Nat) (l : List Byte) (b : Nat) : (s.dramWrite a l).reg b = s.reg b := rfl
@[simp] theorem State.dramWrite_rf (s : State) (a : Nat) (l : List Byte) (b k m : Nat) : (s.dramWrite a l).rf b k m = s.rf b k m := rfl
@[simp] theorem State.dramWrite_rb (s : State) (a : Nat) (l : List Byte) (b j : Nat) : (s.dramWrite a l).rb b j = s.rb b j := rfl
@[simp] theorem State.dramWrite_inForce (s : State) (a : Nat) (l : List Byte) (b : Nat) : (s.dramWrite a l).inForce b = s.inForce b := rfl
@[simp] theorem State.dramWrite_lf (s : State) (a : Nat) (l : List Byte) (b k m : Nat) : (s.dramWrite a l).lf b k m = s.lf b k m := rfl
@[simp] theorem State.dramWrite_lb (s : State) (a : Nat) (l : List Byte) (b j : Nat) : (s.dramWrite a l).lb b j = s.lb b j := rfl
@[simp] theorem State.dramWrite_heldInReset (s : State) (a : Nat) (l : List Byte) (r : Nat) : (s.dramWrite a l).heldInReset r = s.heldInReset r := rfl
@[simp] theorem State.dramWrite_released (s : State) (a : Nat) (l : List Byte) (r : Nat) : (s.dramWrite a l).released r = s.released r := rfl
@[simp] theorem State.dramWrite_enabled (s : State) (a : Nat) (l : List Byte) (r : Nat) : (s.dramWrite a l).enabled r = s.enabled r := rfl
@[simp] theorem State.dramWrite_quiescing (s : State) (a : Nat) (l : List Byte) (r : Nat) : (s.dramWrite a l).quiescing r = s.quiescing r := rfl
@[simp] theorem State.dramWrite_running (s : State) (a : Nat) (l : List Byte) (r : Nat) : (s.dramWrite a l).running r = s.running r := rfl
@[simp] theorem State.dramWrite_shadowPending (s : State) (a : Nat) (l : List Byte) (r : Nat) : (s.dramWrite a l).shadowPending r = s.shadowPending r := rfl
@[simp] theorem State.dramWrite_cmdBusy (s : State) (a : Nat) (l : List Byte) (b : Nat) : (s.dramWrite a l).cmdBusy b = s.cmdBusy b := rfl

/-! ### emit -/

@[simp] theorem emit_pending (s : State) (o : Out) : (emit o s).pending = s.pending := rfl
@[simp] theorem emit_now (s : State) (o : Out) : (emit o s).now = s.now := rfl
@[simp] theorem emit_words (s : State) (o : Out) : (emit o s).words = s.words := rfl
@[simp] theorem emit_live (s : State) (o : Out) : (emit o s).live = s.live := rfl
@[simp] theorem emit_svcEvt (s : State) (o : Out) : (emit o s).svcEvt = s.svcEvt := rfl
@[simp] theorem emit_incs (s : State) (o : Out) : (emit o s).incs = s.incs := rfl
@[simp] theorem emit_committed (s : State) (o : Out) : (emit o s).committed = s.committed := rfl
@[simp] theorem emit_fab (s : State) (o : Out) : (emit o s).fab = s.fab := rfl
@[simp] theorem emit_jtag (s : State) (o : Out) : (emit o s).jtag = s.jtag := rfl
@[simp] theorem emit_evtOut (s : State) (o : Out) : (emit o s).evtOut = s.evtOut := rfl
@[simp] theorem emit_irqN (s : State) (o : Out) : (emit o s).irqN = s.irqN := rfl
@[simp] theorem emit_dram (s : State) (o : Out) : (emit o s).dram = s.dram := rfl
@[simp] theorem emit_badBlocks (s : State) (o : Out) : (emit o s).badBlocks = s.badBlocks := rfl
@[simp] theorem emit_flash (s : State) (o : Out) : (emit o s).flash = s.flash := rfl
@[simp] theorem emit_freeIdx (s : State) (o : Out) : (emit o s).freeIdx = s.freeIdx := rfl
@[simp] theorem emit_pQspi (s : State) (o : Out) : (emit o s).pQspi = s.pQspi := rfl
@[simp] theorem emit_pChain (s : State) (o : Out) : (emit o s).pChain = s.pChain := rfl
@[simp] theorem emit_pUdp (s : State) (o : Out) : (emit o s).pUdp = s.pUdp := rfl
@[simp] theorem emit_pSvc (s : State) (o : Out) : (emit o s).pSvc = s.pSvc := rfl
@[simp] theorem emit_qspi (s : State) (o : Out) : (emit o s).qspi = s.qspi := rfl
@[simp] theorem emit_chip (s : State) (o : Out) : (emit o s).chip = s.chip := rfl
@[simp] theorem emit_time (s : State) (o : Out) : (emit o s).time = s.time := rfl
@[simp] theorem emit_pace (s : State) (o : Out) : (emit o s).pace = s.pace := rfl
@[simp] theorem emit_intake (s : State) (o : Out) : (emit o s).intake = s.intake := rfl
@[simp] theorem emit_infl (s : State) (o : Out) : (emit o s).infl = s.infl := rfl
@[simp] theorem emit_map (s : State) (o : Out) : (emit o s).map = s.map := rfl
@[simp] theorem emit_delay (s : State) (o : Out) : (emit o s).delay = s.delay := rfl
@[simp] theorem emit_fire (s : State) (o : Out) : (emit o s).fire = s.fire := rfl
@[simp] theorem emit_heads (s : State) (o : Out) : (emit o s).heads = s.heads := rfl
@[simp] theorem emit_failed (s : State) (o : Out) : (emit o s).failed = s.failed := rfl
@[simp] theorem emit_web (s : State) (o : Out) : (emit o s).web = s.web := rfl
@[simp] theorem emit_pair (s : State) (o : Out) : (emit o s).pair = s.pair := rfl
@[simp] theorem emit_cams (s : State) (o : Out) : (emit o s).cams = s.cams := rfl
@[simp] theorem emit_insp (s : State) (o : Out) : (emit o s).insp = s.insp := rfl
@[simp] theorem emit_trav (s : State) (o : Out) : (emit o s).trav = s.trav := rfl
@[simp] theorem emit_lanes (s : State) (o : Out) : (emit o s).lanes = s.lanes := rfl
@[simp] theorem emit_chain (s : State) (o : Out) : (emit o s).chain = s.chain := rfl
@[simp] theorem emit_eth (s : State) (o : Out) : (emit o s).eth = s.eth := rfl
@[simp] theorem emit_dramc (s : State) (o : Out) : (emit o s).dramc = s.dramc := rfl
@[simp] theorem emit_deflE (s : State) (o : Out) : (emit o s).deflE = s.deflE := rfl
@[simp] theorem emit_loop (s : State) (o : Out) : (emit o s).loop = s.loop := rfl
@[simp] theorem emit_axes (s : State) (o : Out) : (emit o s).axes = s.axes := rfl
@[simp] theorem emit_tally (s : State) (o : Out) : (emit o s).tally = s.tally := rfl
@[simp] theorem emit_svc (s : State) (o : Out) : (emit o s).svc = s.svc := rfl
@[simp] theorem emit_dbg (s : State) (o : Out) : (emit o s).dbg = s.dbg := rfl
@[simp] theorem emit_reg (s : State) (o : Out) (b : Nat) : (emit o s).reg b = s.reg b := rfl
@[simp] theorem emit_rf (s : State) (o : Out) (b l m : Nat) : (emit o s).rf b l m = s.rf b l m := rfl
@[simp] theorem emit_rb (s : State) (o : Out) (b j : Nat) : (emit o s).rb b j = s.rb b j := rfl
@[simp] theorem emit_inForce (s : State) (o : Out) (b : Nat) : (emit o s).inForce b = s.inForce b := rfl
@[simp] theorem emit_lf (s : State) (o : Out) (b l m : Nat) : (emit o s).lf b l m = s.lf b l m := rfl
@[simp] theorem emit_lb (s : State) (o : Out) (b j : Nat) : (emit o s).lb b j = s.lb b j := rfl
@[simp] theorem emit_heldInReset (s : State) (o : Out) (r : Nat) : (emit o s).heldInReset r = s.heldInReset r := rfl
@[simp] theorem emit_released (s : State) (o : Out) (r : Nat) : (emit o s).released r = s.released r := rfl
@[simp] theorem emit_enabled (s : State) (o : Out) (r : Nat) : (emit o s).enabled r = s.enabled r := rfl
@[simp] theorem emit_quiescing (s : State) (o : Out) (r : Nat) : (emit o s).quiescing r = s.quiescing r := rfl
@[simp] theorem emit_running (s : State) (o : Out) (r : Nat) : (emit o s).running r = s.running r := rfl
@[simp] theorem emit_shadowPending (s : State) (o : Out) (r : Nat) : (emit o s).shadowPending r = s.shadowPending r := rfl
@[simp] theorem emit_cmdBusy (s : State) (o : Out) (b : Nat) : (emit o s).cmdBusy b = s.cmdBusy b := rfl

/-! ### State.setPath -/

@[simp] theorem State.setPath_pending (s : State) (q : Path) (x : PathSt) : (s.setPath q x).pending = s.pending := by cases q <;> rfl
@[simp] theorem State.setPath_now (s : State) (q : Path) (x : PathSt) : (s.setPath q x).now = s.now := by cases q <;> rfl
@[simp] theorem State.setPath_words (s : State) (q : Path) (x : PathSt) : (s.setPath q x).words = s.words := by cases q <;> rfl
@[simp] theorem State.setPath_live (s : State) (q : Path) (x : PathSt) : (s.setPath q x).live = s.live := by cases q <;> rfl
@[simp] theorem State.setPath_svcEvt (s : State) (q : Path) (x : PathSt) : (s.setPath q x).svcEvt = s.svcEvt := by cases q <;> rfl
@[simp] theorem State.setPath_incs (s : State) (q : Path) (x : PathSt) : (s.setPath q x).incs = s.incs := by cases q <;> rfl
@[simp] theorem State.setPath_committed (s : State) (q : Path) (x : PathSt) : (s.setPath q x).committed = s.committed := by cases q <;> rfl
@[simp] theorem State.setPath_fab (s : State) (q : Path) (x : PathSt) : (s.setPath q x).fab = s.fab := by cases q <;> rfl
@[simp] theorem State.setPath_jtag (s : State) (q : Path) (x : PathSt) : (s.setPath q x).jtag = s.jtag := by cases q <;> rfl
@[simp] theorem State.setPath_evtOut (s : State) (q : Path) (x : PathSt) : (s.setPath q x).evtOut = s.evtOut := by cases q <;> rfl
@[simp] theorem State.setPath_irqN (s : State) (q : Path) (x : PathSt) : (s.setPath q x).irqN = s.irqN := by cases q <;> rfl
@[simp] theorem State.setPath_dram (s : State) (q : Path) (x : PathSt) : (s.setPath q x).dram = s.dram := by cases q <;> rfl
@[simp] theorem State.setPath_badBlocks (s : State) (q : Path) (x : PathSt) : (s.setPath q x).badBlocks = s.badBlocks := by cases q <;> rfl
@[simp] theorem State.setPath_flash (s : State) (q : Path) (x : PathSt) : (s.setPath q x).flash = s.flash := by cases q <;> rfl
@[simp] theorem State.setPath_freeIdx (s : State) (q : Path) (x : PathSt) : (s.setPath q x).freeIdx = s.freeIdx := by cases q <;> rfl
@[simp] theorem State.setPath_sent (s : State) (q : Path) (x : PathSt) : (s.setPath q x).sent = s.sent := by cases q <;> rfl
@[simp] theorem State.setPath_qspi (s : State) (q : Path) (x : PathSt) : (s.setPath q x).qspi = s.qspi := by cases q <;> rfl
@[simp] theorem State.setPath_chip (s : State) (q : Path) (x : PathSt) : (s.setPath q x).chip = s.chip := by cases q <;> rfl
@[simp] theorem State.setPath_time (s : State) (q : Path) (x : PathSt) : (s.setPath q x).time = s.time := by cases q <;> rfl
@[simp] theorem State.setPath_pace (s : State) (q : Path) (x : PathSt) : (s.setPath q x).pace = s.pace := by cases q <;> rfl
@[simp] theorem State.setPath_intake (s : State) (q : Path) (x : PathSt) : (s.setPath q x).intake = s.intake := by cases q <;> rfl
@[simp] theorem State.setPath_infl (s : State) (q : Path) (x : PathSt) : (s.setPath q x).infl = s.infl := by cases q <;> rfl
@[simp] theorem State.setPath_map (s : State) (q : Path) (x : PathSt) : (s.setPath q x).map = s.map := by cases q <;> rfl
@[simp] theorem State.setPath_delay (s : State) (q : Path) (x : PathSt) : (s.setPath q x).delay = s.delay := by cases q <;> rfl
@[simp] theorem State.setPath_fire (s : State) (q : Path) (x : PathSt) : (s.setPath q x).fire = s.fire := by cases q <;> rfl
@[simp] theorem State.setPath_heads (s : State) (q : Path) (x : PathSt) : (s.setPath q x).heads = s.heads := by cases q <;> rfl
@[simp] theorem State.setPath_failed (s : State) (q : Path) (x : PathSt) : (s.setPath q x).failed = s.failed := by cases q <;> rfl
@[simp] theorem State.setPath_web (s : State) (q : Path) (x : PathSt) : (s.setPath q x).web = s.web := by cases q <;> rfl
@[simp] theorem State.setPath_pair (s : State) (q : Path) (x : PathSt) : (s.setPath q x).pair = s.pair := by cases q <;> rfl
@[simp] theorem State.setPath_cams (s : State) (q : Path) (x : PathSt) : (s.setPath q x).cams = s.cams := by cases q <;> rfl
@[simp] theorem State.setPath_insp (s : State) (q : Path) (x : PathSt) : (s.setPath q x).insp = s.insp := by cases q <;> rfl
@[simp] theorem State.setPath_trav (s : State) (q : Path) (x : PathSt) : (s.setPath q x).trav = s.trav := by cases q <;> rfl
@[simp] theorem State.setPath_lanes (s : State) (q : Path) (x : PathSt) : (s.setPath q x).lanes = s.lanes := by cases q <;> rfl
@[simp] theorem State.setPath_chain (s : State) (q : Path) (x : PathSt) : (s.setPath q x).chain = s.chain := by cases q <;> rfl
@[simp] theorem State.setPath_eth (s : State) (q : Path) (x : PathSt) : (s.setPath q x).eth = s.eth := by cases q <;> rfl
@[simp] theorem State.setPath_dramc (s : State) (q : Path) (x : PathSt) : (s.setPath q x).dramc = s.dramc := by cases q <;> rfl
@[simp] theorem State.setPath_deflE (s : State) (q : Path) (x : PathSt) : (s.setPath q x).deflE = s.deflE := by cases q <;> rfl
@[simp] theorem State.setPath_loop (s : State) (q : Path) (x : PathSt) : (s.setPath q x).loop = s.loop := by cases q <;> rfl
@[simp] theorem State.setPath_axes (s : State) (q : Path) (x : PathSt) : (s.setPath q x).axes = s.axes := by cases q <;> rfl
@[simp] theorem State.setPath_tally (s : State) (q : Path) (x : PathSt) : (s.setPath q x).tally = s.tally := by cases q <;> rfl
@[simp] theorem State.setPath_svc (s : State) (q : Path) (x : PathSt) : (s.setPath q x).svc = s.svc := by cases q <;> rfl
@[simp] theorem State.setPath_dbg (s : State) (q : Path) (x : PathSt) : (s.setPath q x).dbg = s.dbg := by cases q <;> rfl
@[simp] theorem State.setPath_reg (s : State) (q : Path) (x : PathSt) (b : Nat) : (s.setPath q x).reg b = s.reg b := by cases q <;> rfl
@[simp] theorem State.setPath_rf (s : State) (q : Path) (x : PathSt) (b l m : Nat) : (s.setPath q x).rf b l m = s.rf b l m := by cases q <;> rfl
@[simp] theorem State.setPath_rb (s : State) (q : Path) (x : PathSt) (b j : Nat) : (s.setPath q x).rb b j = s.rb b j := by cases q <;> rfl
@[simp] theorem State.setPath_inForce (s : State) (q : Path) (x : PathSt) (b : Nat) : (s.setPath q x).inForce b = s.inForce b := by cases q <;> rfl
@[simp] theorem State.setPath_lf (s : State) (q : Path) (x : PathSt) (b l m : Nat) : (s.setPath q x).lf b l m = s.lf b l m := by cases q <;> rfl
@[simp] theorem State.setPath_lb (s : State) (q : Path) (x : PathSt) (b j : Nat) : (s.setPath q x).lb b j = s.lb b j := by cases q <;> rfl
@[simp] theorem State.setPath_heldInReset (s : State) (q : Path) (x : PathSt) (r : Nat) : (s.setPath q x).heldInReset r = s.heldInReset r := by cases q <;> rfl
@[simp] theorem State.setPath_released (s : State) (q : Path) (x : PathSt) (r : Nat) : (s.setPath q x).released r = s.released r := by cases q <;> rfl
@[simp] theorem State.setPath_enabled (s : State) (q : Path) (x : PathSt) (r : Nat) : (s.setPath q x).enabled r = s.enabled r := by cases q <;> rfl
@[simp] theorem State.setPath_quiescing (s : State) (q : Path) (x : PathSt) (r : Nat) : (s.setPath q x).quiescing r = s.quiescing r := by cases q <;> rfl
@[simp] theorem State.setPath_running (s : State) (q : Path) (x : PathSt) (r : Nat) : (s.setPath q x).running r = s.running r := by cases q <;> rfl
@[simp] theorem State.setPath_shadowPending (s : State) (q : Path) (x : PathSt) (r : Nat) : (s.setPath q x).shadowPending r = s.shadowPending r := by cases q <;> rfl
@[simp] theorem State.setPath_cmdBusy (s : State) (q : Path) (x : PathSt) (b : Nat) : (s.setPath q x).cmdBusy b = s.cmdBusy b := by cases q <;> rfl

/-! ### State.setHead -/

@[simp] theorem State.setHead_pending (s : State) (h : Nat) (x : HeadSt) : (s.setHead h x).pending = s.pending := rfl
@[simp] theorem State.setHead_now (s : State) (h : Nat) (x : HeadSt) : (s.setHead h x).now = s.now := rfl
@[simp] theorem State.setHead_words (s : State) (h : Nat) (x : HeadSt) : (s.setHead h x).words = s.words := rfl
@[simp] theorem State.setHead_live (s : State) (h : Nat) (x : HeadSt) : (s.setHead h x).live = s.live := rfl
@[simp] theorem State.setHead_svcEvt (s : State) (h : Nat) (x : HeadSt) : (s.setHead h x).svcEvt = s.svcEvt := rfl
@[simp] theorem State.setHead_incs (s : State) (h : Nat) (x : HeadSt) : (s.setHead h x).incs = s.incs := rfl
@[simp] theorem State.setHead_committed (s : State) (h : Nat) (x : HeadSt) : (s.setHead h x).committed = s.committed := rfl
@[simp] theorem State.setHead_fab (s : State) (h : Nat) (x : HeadSt) : (s.setHead h x).fab = s.fab := rfl
@[simp] theorem State.setHead_jtag (s : State) (h : Nat) (x : HeadSt) : (s.setHead h x).jtag = s.jtag := rfl
@[simp] theorem State.setHead_evtOut (s : State) (h : Nat) (x : HeadSt) : (s.setHead h x).evtOut = s.evtOut := rfl
@[simp] theorem State.setHead_irqN (s : State) (h : Nat) (x : HeadSt) : (s.setHead h x).irqN = s.irqN := rfl
@[simp] theorem State.setHead_dram (s : State) (h : Nat) (x : HeadSt) : (s.setHead h x).dram = s.dram := rfl
@[simp] theorem State.setHead_badBlocks (s : State) (h : Nat) (x : HeadSt) : (s.setHead h x).badBlocks = s.badBlocks := rfl
@[simp] theorem State.setHead_flash (s : State) (h : Nat) (x : HeadSt) : (s.setHead h x).flash = s.flash := rfl
@[simp] theorem State.setHead_freeIdx (s : State) (h : Nat) (x : HeadSt) : (s.setHead h x).freeIdx = s.freeIdx := rfl
@[simp] theorem State.setHead_sent (s : State) (h : Nat) (x : HeadSt) : (s.setHead h x).sent = s.sent := rfl
@[simp] theorem State.setHead_pQspi (s : State) (h : Nat) (x : HeadSt) : (s.setHead h x).pQspi = s.pQspi := rfl
@[simp] theorem State.setHead_pChain (s : State) (h : Nat) (x : HeadSt) : (s.setHead h x).pChain = s.pChain := rfl
@[simp] theorem State.setHead_pUdp (s : State) (h : Nat) (x : HeadSt) : (s.setHead h x).pUdp = s.pUdp := rfl
@[simp] theorem State.setHead_pSvc (s : State) (h : Nat) (x : HeadSt) : (s.setHead h x).pSvc = s.pSvc := rfl
@[simp] theorem State.setHead_qspi (s : State) (h : Nat) (x : HeadSt) : (s.setHead h x).qspi = s.qspi := rfl
@[simp] theorem State.setHead_chip (s : State) (h : Nat) (x : HeadSt) : (s.setHead h x).chip = s.chip := rfl
@[simp] theorem State.setHead_time (s : State) (h : Nat) (x : HeadSt) : (s.setHead h x).time = s.time := rfl
@[simp] theorem State.setHead_pace (s : State) (h : Nat) (x : HeadSt) : (s.setHead h x).pace = s.pace := rfl
@[simp] theorem State.setHead_intake (s : State) (h : Nat) (x : HeadSt) : (s.setHead h x).intake = s.intake := rfl
@[simp] theorem State.setHead_infl (s : State) (h : Nat) (x : HeadSt) : (s.setHead h x).infl = s.infl := rfl
@[simp] theorem State.setHead_map (s : State) (h : Nat) (x : HeadSt) : (s.setHead h x).map = s.map := rfl
@[simp] theorem State.setHead_delay (s : State) (h : Nat) (x : HeadSt) : (s.setHead h x).delay = s.delay := rfl
@[simp] theorem State.setHead_fire (s : State) (h : Nat) (x : HeadSt) : (s.setHead h x).fire = s.fire := rfl
@[simp] theorem State.setHead_failed (s : State) (h : Nat) (x : HeadSt) : (s.setHead h x).failed = s.failed := rfl
@[simp] theorem State.setHead_web (s : State) (h : Nat) (x : HeadSt) : (s.setHead h x).web = s.web := rfl
@[simp] theorem State.setHead_pair (s : State) (h : Nat) (x : HeadSt) : (s.setHead h x).pair = s.pair := rfl
@[simp] theorem State.setHead_cams (s : State) (h : Nat) (x : HeadSt) : (s.setHead h x).cams = s.cams := rfl
@[simp] theorem State.setHead_insp (s : State) (h : Nat) (x : HeadSt) : (s.setHead h x).insp = s.insp := rfl
@[simp] theorem State.setHead_trav (s : State) (h : Nat) (x : HeadSt) : (s.setHead h x).trav = s.trav := rfl
@[simp] theorem State.setHead_lanes (s : State) (h : Nat) (x : HeadSt) : (s.setHead h x).lanes = s.lanes := rfl
@[simp] theorem State.setHead_chain (s : State) (h : Nat) (x : HeadSt) : (s.setHead h x).chain = s.chain := rfl
@[simp] theorem State.setHead_eth (s : State) (h : Nat) (x : HeadSt) : (s.setHead h x).eth = s.eth := rfl
@[simp] theorem State.setHead_dramc (s : State) (h : Nat) (x : HeadSt) : (s.setHead h x).dramc = s.dramc := rfl
@[simp] theorem State.setHead_deflE (s : State) (h : Nat) (x : HeadSt) : (s.setHead h x).deflE = s.deflE := rfl
@[simp] theorem State.setHead_loop (s : State) (h : Nat) (x : HeadSt) : (s.setHead h x).loop = s.loop := rfl
@[simp] theorem State.setHead_axes (s : State) (h : Nat) (x : HeadSt) : (s.setHead h x).axes = s.axes := rfl
@[simp] theorem State.setHead_tally (s : State) (h : Nat) (x : HeadSt) : (s.setHead h x).tally = s.tally := rfl
@[simp] theorem State.setHead_svc (s : State) (h : Nat) (x : HeadSt) : (s.setHead h x).svc = s.svc := rfl
@[simp] theorem State.setHead_dbg (s : State) (h : Nat) (x : HeadSt) : (s.setHead h x).dbg = s.dbg := rfl
@[simp] theorem State.setHead_reg (s : State) (h : Nat) (x : HeadSt) (b : Nat) : (s.setHead h x).reg b = s.reg b := rfl
@[simp] theorem State.setHead_rf (s : State) (h : Nat) (x : HeadSt) (b l m : Nat) : (s.setHead h x).rf b l m = s.rf b l m := rfl
@[simp] theorem State.setHead_rb (s : State) (h : Nat) (x : HeadSt) (b j : Nat) : (s.setHead h x).rb b j = s.rb b j := rfl
@[simp] theorem State.setHead_inForce (s : State) (h : Nat) (x : HeadSt) (b : Nat) : (s.setHead h x).inForce b = s.inForce b := rfl
@[simp] theorem State.setHead_lf (s : State) (h : Nat) (x : HeadSt) (b l m : Nat) : (s.setHead h x).lf b l m = s.lf b l m := rfl
@[simp] theorem State.setHead_lb (s : State) (h : Nat) (x : HeadSt) (b j : Nat) : (s.setHead h x).lb b j = s.lb b j := rfl
@[simp] theorem State.setHead_heldInReset (s : State) (h : Nat) (x : HeadSt) (r : Nat) : (s.setHead h x).heldInReset r = s.heldInReset r := rfl
@[simp] theorem State.setHead_released (s : State) (h : Nat) (x : HeadSt) (r : Nat) : (s.setHead h x).released r = s.released r := rfl
@[simp] theorem State.setHead_enabled (s : State) (h : Nat) (x : HeadSt) (r : Nat) : (s.setHead h x).enabled r = s.enabled r := rfl
@[simp] theorem State.setHead_quiescing (s : State) (h : Nat) (x : HeadSt) (r : Nat) : (s.setHead h x).quiescing r = s.quiescing r := rfl
@[simp] theorem State.setHead_running (s : State) (h : Nat) (x : HeadSt) (r : Nat) : (s.setHead h x).running r = s.running r := rfl
@[simp] theorem State.setHead_shadowPending (s : State) (h : Nat) (x : HeadSt) (r : Nat) : (s.setHead h x).shadowPending r = s.shadowPending r := rfl
@[simp] theorem State.setHead_cmdBusy (s : State) (h : Nat) (x : HeadSt) (b : Nat) : (s.setHead h x).cmdBusy b = s.cmdBusy b := rfl

/-! ### State.setCam -/

@[simp] theorem State.setCam_pending (s : State) (p : Nat) (x : CamSt) : (s.setCam p x).pending = s.pending := rfl
@[simp] theorem State.setCam_now (s : State) (p : Nat) (x : CamSt) : (s.setCam p x).now = s.now := rfl
@[simp] theorem State.setCam_words (s : State) (p : Nat) (x : CamSt) : (s.setCam p x).words = s.words := rfl
@[simp] theorem State.setCam_live (s : State) (p : Nat) (x : CamSt) : (s.setCam p x).live = s.live := rfl
@[simp] theorem State.setCam_svcEvt (s : State) (p : Nat) (x : CamSt) : (s.setCam p x).svcEvt = s.svcEvt := rfl
@[simp] theorem State.setCam_incs (s : State) (p : Nat) (x : CamSt) : (s.setCam p x).incs = s.incs := rfl
@[simp] theorem State.setCam_committed (s : State) (p : Nat) (x : CamSt) : (s.setCam p x).committed = s.committed := rfl
@[simp] theorem State.setCam_fab (s : State) (p : Nat) (x : CamSt) : (s.setCam p x).fab = s.fab := rfl
@[simp] theorem State.setCam_jtag (s : State) (p : Nat) (x : CamSt) : (s.setCam p x).jtag = s.jtag := rfl
@[simp] theorem State.setCam_evtOut (s : State) (p : Nat) (x : CamSt) : (s.setCam p x).evtOut = s.evtOut := rfl
@[simp] theorem State.setCam_irqN (s : State) (p : Nat) (x : CamSt) : (s.setCam p x).irqN = s.irqN := rfl
@[simp] theorem State.setCam_dram (s : State) (p : Nat) (x : CamSt) : (s.setCam p x).dram = s.dram := rfl
@[simp] theorem State.setCam_badBlocks (s : State) (p : Nat) (x : CamSt) : (s.setCam p x).badBlocks = s.badBlocks := rfl
@[simp] theorem State.setCam_flash (s : State) (p : Nat) (x : CamSt) : (s.setCam p x).flash = s.flash := rfl
@[simp] theorem State.setCam_freeIdx (s : State) (p : Nat) (x : CamSt) : (s.setCam p x).freeIdx = s.freeIdx := rfl
@[simp] theorem State.setCam_sent (s : State) (p : Nat) (x : CamSt) : (s.setCam p x).sent = s.sent := rfl
@[simp] theorem State.setCam_pQspi (s : State) (p : Nat) (x : CamSt) : (s.setCam p x).pQspi = s.pQspi := rfl
@[simp] theorem State.setCam_pChain (s : State) (p : Nat) (x : CamSt) : (s.setCam p x).pChain = s.pChain := rfl
@[simp] theorem State.setCam_pUdp (s : State) (p : Nat) (x : CamSt) : (s.setCam p x).pUdp = s.pUdp := rfl
@[simp] theorem State.setCam_pSvc (s : State) (p : Nat) (x : CamSt) : (s.setCam p x).pSvc = s.pSvc := rfl
@[simp] theorem State.setCam_qspi (s : State) (p : Nat) (x : CamSt) : (s.setCam p x).qspi = s.qspi := rfl
@[simp] theorem State.setCam_chip (s : State) (p : Nat) (x : CamSt) : (s.setCam p x).chip = s.chip := rfl
@[simp] theorem State.setCam_time (s : State) (p : Nat) (x : CamSt) : (s.setCam p x).time = s.time := rfl
@[simp] theorem State.setCam_pace (s : State) (p : Nat) (x : CamSt) : (s.setCam p x).pace = s.pace := rfl
@[simp] theorem State.setCam_intake (s : State) (p : Nat) (x : CamSt) : (s.setCam p x).intake = s.intake := rfl
@[simp] theorem State.setCam_infl (s : State) (p : Nat) (x : CamSt) : (s.setCam p x).infl = s.infl := rfl
@[simp] theorem State.setCam_map (s : State) (p : Nat) (x : CamSt) : (s.setCam p x).map = s.map := rfl
@[simp] theorem State.setCam_delay (s : State) (p : Nat) (x : CamSt) : (s.setCam p x).delay = s.delay := rfl
@[simp] theorem State.setCam_fire (s : State) (p : Nat) (x : CamSt) : (s.setCam p x).fire = s.fire := rfl
@[simp] theorem State.setCam_heads (s : State) (p : Nat) (x : CamSt) : (s.setCam p x).heads = s.heads := rfl
@[simp] theorem State.setCam_failed (s : State) (p : Nat) (x : CamSt) : (s.setCam p x).failed = s.failed := rfl
@[simp] theorem State.setCam_web (s : State) (p : Nat) (x : CamSt) : (s.setCam p x).web = s.web := rfl
@[simp] theorem State.setCam_pair (s : State) (p : Nat) (x : CamSt) : (s.setCam p x).pair = s.pair := rfl
@[simp] theorem State.setCam_insp (s : State) (p : Nat) (x : CamSt) : (s.setCam p x).insp = s.insp := rfl
@[simp] theorem State.setCam_trav (s : State) (p : Nat) (x : CamSt) : (s.setCam p x).trav = s.trav := rfl
@[simp] theorem State.setCam_lanes (s : State) (p : Nat) (x : CamSt) : (s.setCam p x).lanes = s.lanes := rfl
@[simp] theorem State.setCam_chain (s : State) (p : Nat) (x : CamSt) : (s.setCam p x).chain = s.chain := rfl
@[simp] theorem State.setCam_eth (s : State) (p : Nat) (x : CamSt) : (s.setCam p x).eth = s.eth := rfl
@[simp] theorem State.setCam_dramc (s : State) (p : Nat) (x : CamSt) : (s.setCam p x).dramc = s.dramc := rfl
@[simp] theorem State.setCam_deflE (s : State) (p : Nat) (x : CamSt) : (s.setCam p x).deflE = s.deflE := rfl
@[simp] theorem State.setCam_loop (s : State) (p : Nat) (x : CamSt) : (s.setCam p x).loop = s.loop := rfl
@[simp] theorem State.setCam_axes (s : State) (p : Nat) (x : CamSt) : (s.setCam p x).axes = s.axes := rfl
@[simp] theorem State.setCam_tally (s : State) (p : Nat) (x : CamSt) : (s.setCam p x).tally = s.tally := rfl
@[simp] theorem State.setCam_svc (s : State) (p : Nat) (x : CamSt) : (s.setCam p x).svc = s.svc := rfl
@[simp] theorem State.setCam_dbg (s : State) (p : Nat) (x : CamSt) : (s.setCam p x).dbg = s.dbg := rfl
@[simp] theorem State.setCam_reg (s : State) (p : Nat) (x : CamSt) (b : Nat) : (s.setCam p x).reg b = s.reg b := rfl
@[simp] theorem State.setCam_rf (s : State) (p : Nat) (x : CamSt) (b l m : Nat) : (s.setCam p x).rf b l m = s.rf b l m := rfl
@[simp] theorem State.setCam_rb (s : State) (p : Nat) (x : CamSt) (b j : Nat) : (s.setCam p x).rb b j = s.rb b j := rfl
@[simp] theorem State.setCam_inForce (s : State) (p : Nat) (x : CamSt) (b : Nat) : (s.setCam p x).inForce b = s.inForce b := rfl
@[simp] theorem State.setCam_lf (s : State) (p : Nat) (x : CamSt) (b l m : Nat) : (s.setCam p x).lf b l m = s.lf b l m := rfl
@[simp] theorem State.setCam_lb (s : State) (p : Nat) (x : CamSt) (b j : Nat) : (s.setCam p x).lb b j = s.lb b j := rfl
@[simp] theorem State.setCam_heldInReset (s : State) (p : Nat) (x : CamSt) (r : Nat) : (s.setCam p x).heldInReset r = s.heldInReset r := rfl
@[simp] theorem State.setCam_released (s : State) (p : Nat) (x : CamSt) (r : Nat) : (s.setCam p x).released r = s.released r := rfl
@[simp] theorem State.setCam_enabled (s : State) (p : Nat) (x : CamSt) (r : Nat) : (s.setCam p x).enabled r = s.enabled r := rfl
@[simp] theorem State.setCam_quiescing (s : State) (p : Nat) (x : CamSt) (r : Nat) : (s.setCam p x).quiescing r = s.quiescing r := rfl
@[simp] theorem State.setCam_running (s : State) (p : Nat) (x : CamSt) (r : Nat) : (s.setCam p x).running r = s.running r := rfl
@[simp] theorem State.setCam_shadowPending (s : State) (p : Nat) (x : CamSt) (r : Nat) : (s.setCam p x).shadowPending r = s.shadowPending r := rfl
@[simp] theorem State.setCam_cmdBusy (s : State) (p : Nat) (x : CamSt) (b : Nat) : (s.setCam p x).cmdBusy b = s.cmdBusy b := rfl

/-! ### State.setLane -/

@[simp] theorem State.setLane_pending (s : State) (l : Nat) (x : LaneSt) : (s.setLane l x).pending = s.pending := rfl
@[simp] theorem State.setLane_now (s : State) (l : Nat) (x : LaneSt) : (s.setLane l x).now = s.now := rfl
@[simp] theorem State.setLane_words (s : State) (l : Nat) (x : LaneSt) : (s.setLane l x).words = s.words := rfl
@[simp] theorem State.setLane_live (s : State) (l : Nat) (x : LaneSt) : (s.setLane l x).live = s.live := rfl
@[simp] theorem State.setLane_svcEvt (s : State) (l : Nat) (x : LaneSt) : (s.setLane l x).svcEvt = s.svcEvt := rfl
@[simp] theorem State.setLane_incs (s : State) (l : Nat) (x : LaneSt) : (s.setLane l x).incs = s.incs := rfl
@[simp] theorem State.setLane_committed (s : State) (l : Nat) (x : LaneSt) : (s.setLane l x).committed = s.committed := rfl
@[simp] theorem State.setLane_fab (s : State) (l : Nat) (x : LaneSt) : (s.setLane l x).fab = s.fab := rfl
@[simp] theorem State.setLane_jtag (s : State) (l : Nat) (x : LaneSt) : (s.setLane l x).jtag = s.jtag := rfl
@[simp] theorem State.setLane_evtOut (s : State) (l : Nat) (x : LaneSt) : (s.setLane l x).evtOut = s.evtOut := rfl
@[simp] theorem State.setLane_irqN (s : State) (l : Nat) (x : LaneSt) : (s.setLane l x).irqN = s.irqN := rfl
@[simp] theorem State.setLane_dram (s : State) (l : Nat) (x : LaneSt) : (s.setLane l x).dram = s.dram := rfl
@[simp] theorem State.setLane_badBlocks (s : State) (l : Nat) (x : LaneSt) : (s.setLane l x).badBlocks = s.badBlocks := rfl
@[simp] theorem State.setLane_flash (s : State) (l : Nat) (x : LaneSt) : (s.setLane l x).flash = s.flash := rfl
@[simp] theorem State.setLane_freeIdx (s : State) (l : Nat) (x : LaneSt) : (s.setLane l x).freeIdx = s.freeIdx := rfl
@[simp] theorem State.setLane_sent (s : State) (l : Nat) (x : LaneSt) : (s.setLane l x).sent = s.sent := rfl
@[simp] theorem State.setLane_pQspi (s : State) (l : Nat) (x : LaneSt) : (s.setLane l x).pQspi = s.pQspi := rfl
@[simp] theorem State.setLane_pChain (s : State) (l : Nat) (x : LaneSt) : (s.setLane l x).pChain = s.pChain := rfl
@[simp] theorem State.setLane_pUdp (s : State) (l : Nat) (x : LaneSt) : (s.setLane l x).pUdp = s.pUdp := rfl
@[simp] theorem State.setLane_pSvc (s : State) (l : Nat) (x : LaneSt) : (s.setLane l x).pSvc = s.pSvc := rfl
@[simp] theorem State.setLane_qspi (s : State) (l : Nat) (x : LaneSt) : (s.setLane l x).qspi = s.qspi := rfl
@[simp] theorem State.setLane_chip (s : State) (l : Nat) (x : LaneSt) : (s.setLane l x).chip = s.chip := rfl
@[simp] theorem State.setLane_time (s : State) (l : Nat) (x : LaneSt) : (s.setLane l x).time = s.time := rfl
@[simp] theorem State.setLane_pace (s : State) (l : Nat) (x : LaneSt) : (s.setLane l x).pace = s.pace := rfl
@[simp] theorem State.setLane_intake (s : State) (l : Nat) (x : LaneSt) : (s.setLane l x).intake = s.intake := rfl
@[simp] theorem State.setLane_infl (s : State) (l : Nat) (x : LaneSt) : (s.setLane l x).infl = s.infl := rfl
@[simp] theorem State.setLane_map (s : State) (l : Nat) (x : LaneSt) : (s.setLane l x).map = s.map := rfl
@[simp] theorem State.setLane_delay (s : State) (l : Nat) (x : LaneSt) : (s.setLane l x).delay = s.delay := rfl
@[simp] theorem State.setLane_fire (s : State) (l : Nat) (x : LaneSt) : (s.setLane l x).fire = s.fire := rfl
@[simp] theorem State.setLane_heads (s : State) (l : Nat) (x : LaneSt) : (s.setLane l x).heads = s.heads := rfl
@[simp] theorem State.setLane_failed (s : State) (l : Nat) (x : LaneSt) : (s.setLane l x).failed = s.failed := rfl
@[simp] theorem State.setLane_web (s : State) (l : Nat) (x : LaneSt) : (s.setLane l x).web = s.web := rfl
@[simp] theorem State.setLane_pair (s : State) (l : Nat) (x : LaneSt) : (s.setLane l x).pair = s.pair := rfl
@[simp] theorem State.setLane_cams (s : State) (l : Nat) (x : LaneSt) : (s.setLane l x).cams = s.cams := rfl
@[simp] theorem State.setLane_insp (s : State) (l : Nat) (x : LaneSt) : (s.setLane l x).insp = s.insp := rfl
@[simp] theorem State.setLane_trav (s : State) (l : Nat) (x : LaneSt) : (s.setLane l x).trav = s.trav := rfl
@[simp] theorem State.setLane_chain (s : State) (l : Nat) (x : LaneSt) : (s.setLane l x).chain = s.chain := rfl
@[simp] theorem State.setLane_eth (s : State) (l : Nat) (x : LaneSt) : (s.setLane l x).eth = s.eth := rfl
@[simp] theorem State.setLane_dramc (s : State) (l : Nat) (x : LaneSt) : (s.setLane l x).dramc = s.dramc := rfl
@[simp] theorem State.setLane_deflE (s : State) (l : Nat) (x : LaneSt) : (s.setLane l x).deflE = s.deflE := rfl
@[simp] theorem State.setLane_loop (s : State) (l : Nat) (x : LaneSt) : (s.setLane l x).loop = s.loop := rfl
@[simp] theorem State.setLane_axes (s : State) (l : Nat) (x : LaneSt) : (s.setLane l x).axes = s.axes := rfl
@[simp] theorem State.setLane_tally (s : State) (l : Nat) (x : LaneSt) : (s.setLane l x).tally = s.tally := rfl
@[simp] theorem State.setLane_svc (s : State) (l : Nat) (x : LaneSt) : (s.setLane l x).svc = s.svc := rfl
@[simp] theorem State.setLane_dbg (s : State) (l : Nat) (x : LaneSt) : (s.setLane l x).dbg = s.dbg := rfl
@[simp] theorem State.setLane_reg (s : State) (l : Nat) (x : LaneSt) (b : Nat) : (s.setLane l x).reg b = s.reg b := rfl
@[simp] theorem State.setLane_rf (s : State) (l : Nat) (x : LaneSt) (b k m : Nat) : (s.setLane l x).rf b k m = s.rf b k m := rfl
@[simp] theorem State.setLane_rb (s : State) (l : Nat) (x : LaneSt) (b j : Nat) : (s.setLane l x).rb b j = s.rb b j := rfl
@[simp] theorem State.setLane_inForce (s : State) (l : Nat) (x : LaneSt) (b : Nat) : (s.setLane l x).inForce b = s.inForce b := rfl
@[simp] theorem State.setLane_lf (s : State) (l : Nat) (x : LaneSt) (b k m : Nat) : (s.setLane l x).lf b k m = s.lf b k m := rfl
@[simp] theorem State.setLane_lb (s : State) (l : Nat) (x : LaneSt) (b j : Nat) : (s.setLane l x).lb b j = s.lb b j := rfl
@[simp] theorem State.setLane_heldInReset (s : State) (l : Nat) (x : LaneSt) (r : Nat) : (s.setLane l x).heldInReset r = s.heldInReset r := rfl
@[simp] theorem State.setLane_released (s : State) (l : Nat) (x : LaneSt) (r : Nat) : (s.setLane l x).released r = s.released r := rfl
@[simp] theorem State.setLane_enabled (s : State) (l : Nat) (x : LaneSt) (r : Nat) : (s.setLane l x).enabled r = s.enabled r := rfl
@[simp] theorem State.setLane_quiescing (s : State) (l : Nat) (x : LaneSt) (r : Nat) : (s.setLane l x).quiescing r = s.quiescing r := rfl
@[simp] theorem State.setLane_running (s : State) (l : Nat) (x : LaneSt) (r : Nat) : (s.setLane l x).running r = s.running r := rfl
@[simp] theorem State.setLane_shadowPending (s : State) (l : Nat) (x : LaneSt) (r : Nat) : (s.setLane l x).shadowPending r = s.shadowPending r := rfl
@[simp] theorem State.setLane_cmdBusy (s : State) (l : Nat) (x : LaneSt) (b : Nat) : (s.setLane l x).cmdBusy b = s.cmdBusy b := rfl

/-! ### State.setAxis -/

@[simp] theorem State.setAxis_pending (s : State) (a : Nat) (x : AxisSt) : (s.setAxis a x).pending = s.pending := rfl
@[simp] theorem State.setAxis_now (s : State) (a : Nat) (x : AxisSt) : (s.setAxis a x).now = s.now := rfl
@[simp] theorem State.setAxis_words (s : State) (a : Nat) (x : AxisSt) : (s.setAxis a x).words = s.words := rfl
@[simp] theorem State.setAxis_live (s : State) (a : Nat) (x : AxisSt) : (s.setAxis a x).live = s.live := rfl
@[simp] theorem State.setAxis_svcEvt (s : State) (a : Nat) (x : AxisSt) : (s.setAxis a x).svcEvt = s.svcEvt := rfl
@[simp] theorem State.setAxis_incs (s : State) (a : Nat) (x : AxisSt) : (s.setAxis a x).incs = s.incs := rfl
@[simp] theorem State.setAxis_committed (s : State) (a : Nat) (x : AxisSt) : (s.setAxis a x).committed = s.committed := rfl
@[simp] theorem State.setAxis_fab (s : State) (a : Nat) (x : AxisSt) : (s.setAxis a x).fab = s.fab := rfl
@[simp] theorem State.setAxis_jtag (s : State) (a : Nat) (x : AxisSt) : (s.setAxis a x).jtag = s.jtag := rfl
@[simp] theorem State.setAxis_evtOut (s : State) (a : Nat) (x : AxisSt) : (s.setAxis a x).evtOut = s.evtOut := rfl
@[simp] theorem State.setAxis_irqN (s : State) (a : Nat) (x : AxisSt) : (s.setAxis a x).irqN = s.irqN := rfl
@[simp] theorem State.setAxis_dram (s : State) (a : Nat) (x : AxisSt) : (s.setAxis a x).dram = s.dram := rfl
@[simp] theorem State.setAxis_badBlocks (s : State) (a : Nat) (x : AxisSt) : (s.setAxis a x).badBlocks = s.badBlocks := rfl
@[simp] theorem State.setAxis_flash (s : State) (a : Nat) (x : AxisSt) : (s.setAxis a x).flash = s.flash := rfl
@[simp] theorem State.setAxis_freeIdx (s : State) (a : Nat) (x : AxisSt) : (s.setAxis a x).freeIdx = s.freeIdx := rfl
@[simp] theorem State.setAxis_sent (s : State) (a : Nat) (x : AxisSt) : (s.setAxis a x).sent = s.sent := rfl
@[simp] theorem State.setAxis_pQspi (s : State) (a : Nat) (x : AxisSt) : (s.setAxis a x).pQspi = s.pQspi := rfl
@[simp] theorem State.setAxis_pChain (s : State) (a : Nat) (x : AxisSt) : (s.setAxis a x).pChain = s.pChain := rfl
@[simp] theorem State.setAxis_pUdp (s : State) (a : Nat) (x : AxisSt) : (s.setAxis a x).pUdp = s.pUdp := rfl
@[simp] theorem State.setAxis_pSvc (s : State) (a : Nat) (x : AxisSt) : (s.setAxis a x).pSvc = s.pSvc := rfl
@[simp] theorem State.setAxis_qspi (s : State) (a : Nat) (x : AxisSt) : (s.setAxis a x).qspi = s.qspi := rfl
@[simp] theorem State.setAxis_chip (s : State) (a : Nat) (x : AxisSt) : (s.setAxis a x).chip = s.chip := rfl
@[simp] theorem State.setAxis_time (s : State) (a : Nat) (x : AxisSt) : (s.setAxis a x).time = s.time := rfl
@[simp] theorem State.setAxis_pace (s : State) (a : Nat) (x : AxisSt) : (s.setAxis a x).pace = s.pace := rfl
@[simp] theorem State.setAxis_intake (s : State) (a : Nat) (x : AxisSt) : (s.setAxis a x).intake = s.intake := rfl
@[simp] theorem State.setAxis_infl (s : State) (a : Nat) (x : AxisSt) : (s.setAxis a x).infl = s.infl := rfl
@[simp] theorem State.setAxis_map (s : State) (a : Nat) (x : AxisSt) : (s.setAxis a x).map = s.map := rfl
@[simp] theorem State.setAxis_delay (s : State) (a : Nat) (x : AxisSt) : (s.setAxis a x).delay = s.delay := rfl
@[simp] theorem State.setAxis_fire (s : State) (a : Nat) (x : AxisSt) : (s.setAxis a x).fire = s.fire := rfl
@[simp] theorem State.setAxis_heads (s : State) (a : Nat) (x : AxisSt) : (s.setAxis a x).heads = s.heads := rfl
@[simp] theorem State.setAxis_failed (s : State) (a : Nat) (x : AxisSt) : (s.setAxis a x).failed = s.failed := rfl
@[simp] theorem State.setAxis_web (s : State) (a : Nat) (x : AxisSt) : (s.setAxis a x).web = s.web := rfl
@[simp] theorem State.setAxis_pair (s : State) (a : Nat) (x : AxisSt) : (s.setAxis a x).pair = s.pair := rfl
@[simp] theorem State.setAxis_cams (s : State) (a : Nat) (x : AxisSt) : (s.setAxis a x).cams = s.cams := rfl
@[simp] theorem State.setAxis_insp (s : State) (a : Nat) (x : AxisSt) : (s.setAxis a x).insp = s.insp := rfl
@[simp] theorem State.setAxis_trav (s : State) (a : Nat) (x : AxisSt) : (s.setAxis a x).trav = s.trav := rfl
@[simp] theorem State.setAxis_lanes (s : State) (a : Nat) (x : AxisSt) : (s.setAxis a x).lanes = s.lanes := rfl
@[simp] theorem State.setAxis_chain (s : State) (a : Nat) (x : AxisSt) : (s.setAxis a x).chain = s.chain := rfl
@[simp] theorem State.setAxis_eth (s : State) (a : Nat) (x : AxisSt) : (s.setAxis a x).eth = s.eth := rfl
@[simp] theorem State.setAxis_dramc (s : State) (a : Nat) (x : AxisSt) : (s.setAxis a x).dramc = s.dramc := rfl
@[simp] theorem State.setAxis_deflE (s : State) (a : Nat) (x : AxisSt) : (s.setAxis a x).deflE = s.deflE := rfl
@[simp] theorem State.setAxis_loop (s : State) (a : Nat) (x : AxisSt) : (s.setAxis a x).loop = s.loop := rfl
@[simp] theorem State.setAxis_tally (s : State) (a : Nat) (x : AxisSt) : (s.setAxis a x).tally = s.tally := rfl
@[simp] theorem State.setAxis_svc (s : State) (a : Nat) (x : AxisSt) : (s.setAxis a x).svc = s.svc := rfl
@[simp] theorem State.setAxis_dbg (s : State) (a : Nat) (x : AxisSt) : (s.setAxis a x).dbg = s.dbg := rfl
@[simp] theorem State.setAxis_reg (s : State) (a : Nat) (x : AxisSt) (b : Nat) : (s.setAxis a x).reg b = s.reg b := rfl
@[simp] theorem State.setAxis_rf (s : State) (a : Nat) (x : AxisSt) (b l m : Nat) : (s.setAxis a x).rf b l m = s.rf b l m := rfl
@[simp] theorem State.setAxis_rb (s : State) (a : Nat) (x : AxisSt) (b j : Nat) : (s.setAxis a x).rb b j = s.rb b j := rfl
@[simp] theorem State.setAxis_inForce (s : State) (a : Nat) (x : AxisSt) (b : Nat) : (s.setAxis a x).inForce b = s.inForce b := rfl
@[simp] theorem State.setAxis_lf (s : State) (a : Nat) (x : AxisSt) (b l m : Nat) : (s.setAxis a x).lf b l m = s.lf b l m := rfl
@[simp] theorem State.setAxis_lb (s : State) (a : Nat) (x : AxisSt) (b j : Nat) : (s.setAxis a x).lb b j = s.lb b j := rfl
@[simp] theorem State.setAxis_heldInReset (s : State) (a : Nat) (x : AxisSt) (r : Nat) : (s.setAxis a x).heldInReset r = s.heldInReset r := rfl
@[simp] theorem State.setAxis_released (s : State) (a : Nat) (x : AxisSt) (r : Nat) : (s.setAxis a x).released r = s.released r := rfl
@[simp] theorem State.setAxis_enabled (s : State) (a : Nat) (x : AxisSt) (r : Nat) : (s.setAxis a x).enabled r = s.enabled r := rfl
@[simp] theorem State.setAxis_quiescing (s : State) (a : Nat) (x : AxisSt) (r : Nat) : (s.setAxis a x).quiescing r = s.quiescing r := rfl
@[simp] theorem State.setAxis_running (s : State) (a : Nat) (x : AxisSt) (r : Nat) : (s.setAxis a x).running r = s.running r := rfl
@[simp] theorem State.setAxis_shadowPending (s : State) (a : Nat) (x : AxisSt) (r : Nat) : (s.setAxis a x).shadowPending r = s.shadowPending r := rfl
@[simp] theorem State.setAxis_cmdBusy (s : State) (a : Nat) (x : AxisSt) (b : Nat) : (s.setAxis a x).cmdBusy b = s.cmdBusy b := rfl

/-! ### State.setSlot -/

@[simp] theorem State.setSlot_pending (s : State) (i : Nat) (x : SlotSt) : (s.setSlot i x).pending = s.pending := rfl
@[simp] theorem State.setSlot_now (s : State) (i : Nat) (x : SlotSt) : (s.setSlot i x).now = s.now := rfl
@[simp] theorem State.setSlot_words (s : State) (i : Nat) (x : SlotSt) : (s.setSlot i x).words = s.words := rfl
@[simp] theorem State.setSlot_live (s : State) (i : Nat) (x : SlotSt) : (s.setSlot i x).live = s.live := rfl
@[simp] theorem State.setSlot_svcEvt (s : State) (i : Nat) (x : SlotSt) : (s.setSlot i x).svcEvt = s.svcEvt := rfl
@[simp] theorem State.setSlot_incs (s : State) (i : Nat) (x : SlotSt) : (s.setSlot i x).incs = s.incs := rfl
@[simp] theorem State.setSlot_committed (s : State) (i : Nat) (x : SlotSt) : (s.setSlot i x).committed = s.committed := rfl
@[simp] theorem State.setSlot_fab (s : State) (i : Nat) (x : SlotSt) : (s.setSlot i x).fab = s.fab := rfl
@[simp] theorem State.setSlot_jtag (s : State) (i : Nat) (x : SlotSt) : (s.setSlot i x).jtag = s.jtag := rfl
@[simp] theorem State.setSlot_evtOut (s : State) (i : Nat) (x : SlotSt) : (s.setSlot i x).evtOut = s.evtOut := rfl
@[simp] theorem State.setSlot_irqN (s : State) (i : Nat) (x : SlotSt) : (s.setSlot i x).irqN = s.irqN := rfl
@[simp] theorem State.setSlot_dram (s : State) (i : Nat) (x : SlotSt) : (s.setSlot i x).dram = s.dram := rfl
@[simp] theorem State.setSlot_badBlocks (s : State) (i : Nat) (x : SlotSt) : (s.setSlot i x).badBlocks = s.badBlocks := rfl
@[simp] theorem State.setSlot_flash (s : State) (i : Nat) (x : SlotSt) : (s.setSlot i x).flash = s.flash := rfl
@[simp] theorem State.setSlot_freeIdx (s : State) (i : Nat) (x : SlotSt) : (s.setSlot i x).freeIdx = s.freeIdx := rfl
@[simp] theorem State.setSlot_sent (s : State) (i : Nat) (x : SlotSt) : (s.setSlot i x).sent = s.sent := rfl
@[simp] theorem State.setSlot_pQspi (s : State) (i : Nat) (x : SlotSt) : (s.setSlot i x).pQspi = s.pQspi := rfl
@[simp] theorem State.setSlot_pChain (s : State) (i : Nat) (x : SlotSt) : (s.setSlot i x).pChain = s.pChain := rfl
@[simp] theorem State.setSlot_pUdp (s : State) (i : Nat) (x : SlotSt) : (s.setSlot i x).pUdp = s.pUdp := rfl
@[simp] theorem State.setSlot_pSvc (s : State) (i : Nat) (x : SlotSt) : (s.setSlot i x).pSvc = s.pSvc := rfl
@[simp] theorem State.setSlot_qspi (s : State) (i : Nat) (x : SlotSt) : (s.setSlot i x).qspi = s.qspi := rfl
@[simp] theorem State.setSlot_chip (s : State) (i : Nat) (x : SlotSt) : (s.setSlot i x).chip = s.chip := rfl
@[simp] theorem State.setSlot_time (s : State) (i : Nat) (x : SlotSt) : (s.setSlot i x).time = s.time := rfl
@[simp] theorem State.setSlot_pace (s : State) (i : Nat) (x : SlotSt) : (s.setSlot i x).pace = s.pace := rfl
@[simp] theorem State.setSlot_intake (s : State) (i : Nat) (x : SlotSt) : (s.setSlot i x).intake = s.intake := rfl
@[simp] theorem State.setSlot_infl (s : State) (i : Nat) (x : SlotSt) : (s.setSlot i x).infl = s.infl := rfl
@[simp] theorem State.setSlot_map (s : State) (i : Nat) (x : SlotSt) : (s.setSlot i x).map = s.map := rfl
@[simp] theorem State.setSlot_delay (s : State) (i : Nat) (x : SlotSt) : (s.setSlot i x).delay = s.delay := rfl
@[simp] theorem State.setSlot_fire (s : State) (i : Nat) (x : SlotSt) : (s.setSlot i x).fire = s.fire := rfl
@[simp] theorem State.setSlot_heads (s : State) (i : Nat) (x : SlotSt) : (s.setSlot i x).heads = s.heads := rfl
@[simp] theorem State.setSlot_failed (s : State) (i : Nat) (x : SlotSt) : (s.setSlot i x).failed = s.failed := rfl
@[simp] theorem State.setSlot_web (s : State) (i : Nat) (x : SlotSt) : (s.setSlot i x).web = s.web := rfl
@[simp] theorem State.setSlot_pair (s : State) (i : Nat) (x : SlotSt) : (s.setSlot i x).pair = s.pair := rfl
@[simp] theorem State.setSlot_cams (s : State) (i : Nat) (x : SlotSt) : (s.setSlot i x).cams = s.cams := rfl
@[simp] theorem State.setSlot_insp (s : State) (i : Nat) (x : SlotSt) : (s.setSlot i x).insp = s.insp := rfl
@[simp] theorem State.setSlot_trav (s : State) (i : Nat) (x : SlotSt) : (s.setSlot i x).trav = s.trav := rfl
@[simp] theorem State.setSlot_lanes (s : State) (i : Nat) (x : SlotSt) : (s.setSlot i x).lanes = s.lanes := rfl
@[simp] theorem State.setSlot_chain (s : State) (i : Nat) (x : SlotSt) : (s.setSlot i x).chain = s.chain := rfl
@[simp] theorem State.setSlot_eth (s : State) (i : Nat) (x : SlotSt) : (s.setSlot i x).eth = s.eth := rfl
@[simp] theorem State.setSlot_dramc (s : State) (i : Nat) (x : SlotSt) : (s.setSlot i x).dramc = s.dramc := rfl
@[simp] theorem State.setSlot_deflE (s : State) (i : Nat) (x : SlotSt) : (s.setSlot i x).deflE = s.deflE := rfl
@[simp] theorem State.setSlot_axes (s : State) (i : Nat) (x : SlotSt) : (s.setSlot i x).axes = s.axes := rfl
@[simp] theorem State.setSlot_tally (s : State) (i : Nat) (x : SlotSt) : (s.setSlot i x).tally = s.tally := rfl
@[simp] theorem State.setSlot_svc (s : State) (i : Nat) (x : SlotSt) : (s.setSlot i x).svc = s.svc := rfl
@[simp] theorem State.setSlot_dbg (s : State) (i : Nat) (x : SlotSt) : (s.setSlot i x).dbg = s.dbg := rfl
@[simp] theorem State.setSlot_reg (s : State) (i : Nat) (x : SlotSt) (b : Nat) : (s.setSlot i x).reg b = s.reg b := rfl
@[simp] theorem State.setSlot_rf (s : State) (i : Nat) (x : SlotSt) (b l m : Nat) : (s.setSlot i x).rf b l m = s.rf b l m := rfl
@[simp] theorem State.setSlot_rb (s : State) (i : Nat) (x : SlotSt) (b j : Nat) : (s.setSlot i x).rb b j = s.rb b j := rfl
@[simp] theorem State.setSlot_inForce (s : State) (i : Nat) (x : SlotSt) (b : Nat) : (s.setSlot i x).inForce b = s.inForce b := rfl
@[simp] theorem State.setSlot_lf (s : State) (i : Nat) (x : SlotSt) (b l m : Nat) : (s.setSlot i x).lf b l m = s.lf b l m := rfl
@[simp] theorem State.setSlot_lb (s : State) (i : Nat) (x : SlotSt) (b j : Nat) : (s.setSlot i x).lb b j = s.lb b j := rfl
@[simp] theorem State.setSlot_heldInReset (s : State) (i : Nat) (x : SlotSt) (r : Nat) : (s.setSlot i x).heldInReset r = s.heldInReset r := rfl
@[simp] theorem State.setSlot_released (s : State) (i : Nat) (x : SlotSt) (r : Nat) : (s.setSlot i x).released r = s.released r := rfl
@[simp] theorem State.setSlot_enabled (s : State) (i : Nat) (x : SlotSt) (r : Nat) : (s.setSlot i x).enabled r = s.enabled r := rfl
@[simp] theorem State.setSlot_quiescing (s : State) (i : Nat) (x : SlotSt) (r : Nat) : (s.setSlot i x).quiescing r = s.quiescing r := rfl
@[simp] theorem State.setSlot_running (s : State) (i : Nat) (x : SlotSt) (r : Nat) : (s.setSlot i x).running r = s.running r := rfl
@[simp] theorem State.setSlot_shadowPending (s : State) (i : Nat) (x : SlotSt) (r : Nat) : (s.setSlot i x).shadowPending r = s.shadowPending r := rfl
@[simp] theorem State.setSlot_cmdBusy (s : State) (i : Nat) (x : SlotSt) (b : Nat) : (s.setSlot i x).cmdBusy b = s.cmdBusy b := rfl

/-! ### State.setGroup -/

@[simp] theorem State.setGroup_pending (s : State) (g : Nat) (x : LoopGroup) : (s.setGroup g x).pending = s.pending := rfl
@[simp] theorem State.setGroup_now (s : State) (g : Nat) (x : LoopGroup) : (s.setGroup g x).now = s.now := rfl
@[simp] theorem State.setGroup_words (s : State) (g : Nat) (x : LoopGroup) : (s.setGroup g x).words = s.words := rfl
@[simp] theorem State.setGroup_live (s : State) (g : Nat) (x : LoopGroup) : (s.setGroup g x).live = s.live := rfl
@[simp] theorem State.setGroup_svcEvt (s : State) (g : Nat) (x : LoopGroup) : (s.setGroup g x).svcEvt = s.svcEvt := rfl
@[simp] theorem State.setGroup_incs (s : State) (g : Nat) (x : LoopGroup) : (s.setGroup g x).incs = s.incs := rfl
@[simp] theorem State.setGroup_committed (s : State) (g : Nat) (x : LoopGroup) : (s.setGroup g x).committed = s.committed := rfl
@[simp] theorem State.setGroup_fab (s : State) (g : Nat) (x : LoopGroup) : (s.setGroup g x).fab = s.fab := rfl
@[simp] theorem State.setGroup_jtag (s : State) (g : Nat) (x : LoopGroup) : (s.setGroup g x).jtag = s.jtag := rfl
@[simp] theorem State.setGroup_evtOut (s : State) (g : Nat) (x : LoopGroup) : (s.setGroup g x).evtOut = s.evtOut := rfl
@[simp] theorem State.setGroup_irqN (s : State) (g : Nat) (x : LoopGroup) : (s.setGroup g x).irqN = s.irqN := rfl
@[simp] theorem State.setGroup_dram (s : State) (g : Nat) (x : LoopGroup) : (s.setGroup g x).dram = s.dram := rfl
@[simp] theorem State.setGroup_badBlocks (s : State) (g : Nat) (x : LoopGroup) : (s.setGroup g x).badBlocks = s.badBlocks := rfl
@[simp] theorem State.setGroup_flash (s : State) (g : Nat) (x : LoopGroup) : (s.setGroup g x).flash = s.flash := rfl
@[simp] theorem State.setGroup_freeIdx (s : State) (g : Nat) (x : LoopGroup) : (s.setGroup g x).freeIdx = s.freeIdx := rfl
@[simp] theorem State.setGroup_sent (s : State) (g : Nat) (x : LoopGroup) : (s.setGroup g x).sent = s.sent := rfl
@[simp] theorem State.setGroup_pQspi (s : State) (g : Nat) (x : LoopGroup) : (s.setGroup g x).pQspi = s.pQspi := rfl
@[simp] theorem State.setGroup_pChain (s : State) (g : Nat) (x : LoopGroup) : (s.setGroup g x).pChain = s.pChain := rfl
@[simp] theorem State.setGroup_pUdp (s : State) (g : Nat) (x : LoopGroup) : (s.setGroup g x).pUdp = s.pUdp := rfl
@[simp] theorem State.setGroup_pSvc (s : State) (g : Nat) (x : LoopGroup) : (s.setGroup g x).pSvc = s.pSvc := rfl
@[simp] theorem State.setGroup_qspi (s : State) (g : Nat) (x : LoopGroup) : (s.setGroup g x).qspi = s.qspi := rfl
@[simp] theorem State.setGroup_chip (s : State) (g : Nat) (x : LoopGroup) : (s.setGroup g x).chip = s.chip := rfl
@[simp] theorem State.setGroup_time (s : State) (g : Nat) (x : LoopGroup) : (s.setGroup g x).time = s.time := rfl
@[simp] theorem State.setGroup_pace (s : State) (g : Nat) (x : LoopGroup) : (s.setGroup g x).pace = s.pace := rfl
@[simp] theorem State.setGroup_intake (s : State) (g : Nat) (x : LoopGroup) : (s.setGroup g x).intake = s.intake := rfl
@[simp] theorem State.setGroup_infl (s : State) (g : Nat) (x : LoopGroup) : (s.setGroup g x).infl = s.infl := rfl
@[simp] theorem State.setGroup_map (s : State) (g : Nat) (x : LoopGroup) : (s.setGroup g x).map = s.map := rfl
@[simp] theorem State.setGroup_delay (s : State) (g : Nat) (x : LoopGroup) : (s.setGroup g x).delay = s.delay := rfl
@[simp] theorem State.setGroup_fire (s : State) (g : Nat) (x : LoopGroup) : (s.setGroup g x).fire = s.fire := rfl
@[simp] theorem State.setGroup_heads (s : State) (g : Nat) (x : LoopGroup) : (s.setGroup g x).heads = s.heads := rfl
@[simp] theorem State.setGroup_failed (s : State) (g : Nat) (x : LoopGroup) : (s.setGroup g x).failed = s.failed := rfl
@[simp] theorem State.setGroup_web (s : State) (g : Nat) (x : LoopGroup) : (s.setGroup g x).web = s.web := rfl
@[simp] theorem State.setGroup_pair (s : State) (g : Nat) (x : LoopGroup) : (s.setGroup g x).pair = s.pair := rfl
@[simp] theorem State.setGroup_cams (s : State) (g : Nat) (x : LoopGroup) : (s.setGroup g x).cams = s.cams := rfl
@[simp] theorem State.setGroup_insp (s : State) (g : Nat) (x : LoopGroup) : (s.setGroup g x).insp = s.insp := rfl
@[simp] theorem State.setGroup_trav (s : State) (g : Nat) (x : LoopGroup) : (s.setGroup g x).trav = s.trav := rfl
@[simp] theorem State.setGroup_lanes (s : State) (g : Nat) (x : LoopGroup) : (s.setGroup g x).lanes = s.lanes := rfl
@[simp] theorem State.setGroup_chain (s : State) (g : Nat) (x : LoopGroup) : (s.setGroup g x).chain = s.chain := rfl
@[simp] theorem State.setGroup_eth (s : State) (g : Nat) (x : LoopGroup) : (s.setGroup g x).eth = s.eth := rfl
@[simp] theorem State.setGroup_dramc (s : State) (g : Nat) (x : LoopGroup) : (s.setGroup g x).dramc = s.dramc := rfl
@[simp] theorem State.setGroup_deflE (s : State) (g : Nat) (x : LoopGroup) : (s.setGroup g x).deflE = s.deflE := rfl
@[simp] theorem State.setGroup_axes (s : State) (g : Nat) (x : LoopGroup) : (s.setGroup g x).axes = s.axes := rfl
@[simp] theorem State.setGroup_tally (s : State) (g : Nat) (x : LoopGroup) : (s.setGroup g x).tally = s.tally := rfl
@[simp] theorem State.setGroup_svc (s : State) (g : Nat) (x : LoopGroup) : (s.setGroup g x).svc = s.svc := rfl
@[simp] theorem State.setGroup_dbg (s : State) (g : Nat) (x : LoopGroup) : (s.setGroup g x).dbg = s.dbg := rfl
@[simp] theorem State.setGroup_reg (s : State) (g : Nat) (x : LoopGroup) (b : Nat) : (s.setGroup g x).reg b = s.reg b := rfl
@[simp] theorem State.setGroup_rf (s : State) (g : Nat) (x : LoopGroup) (b l m : Nat) : (s.setGroup g x).rf b l m = s.rf b l m := rfl
@[simp] theorem State.setGroup_rb (s : State) (g : Nat) (x : LoopGroup) (b j : Nat) : (s.setGroup g x).rb b j = s.rb b j := rfl
@[simp] theorem State.setGroup_inForce (s : State) (g : Nat) (x : LoopGroup) (b : Nat) : (s.setGroup g x).inForce b = s.inForce b := rfl
@[simp] theorem State.setGroup_lf (s : State) (g : Nat) (x : LoopGroup) (b l m : Nat) : (s.setGroup g x).lf b l m = s.lf b l m := rfl
@[simp] theorem State.setGroup_lb (s : State) (g : Nat) (x : LoopGroup) (b j : Nat) : (s.setGroup g x).lb b j = s.lb b j := rfl
@[simp] theorem State.setGroup_heldInReset (s : State) (g : Nat) (x : LoopGroup) (r : Nat) : (s.setGroup g x).heldInReset r = s.heldInReset r := rfl
@[simp] theorem State.setGroup_released (s : State) (g : Nat) (x : LoopGroup) (r : Nat) : (s.setGroup g x).released r = s.released r := rfl
@[simp] theorem State.setGroup_enabled (s : State) (g : Nat) (x : LoopGroup) (r : Nat) : (s.setGroup g x).enabled r = s.enabled r := rfl
@[simp] theorem State.setGroup_quiescing (s : State) (g : Nat) (x : LoopGroup) (r : Nat) : (s.setGroup g x).quiescing r = s.quiescing r := rfl
@[simp] theorem State.setGroup_running (s : State) (g : Nat) (x : LoopGroup) (r : Nat) : (s.setGroup g x).running r = s.running r := rfl
@[simp] theorem State.setGroup_shadowPending (s : State) (g : Nat) (x : LoopGroup) (r : Nat) : (s.setGroup g x).shadowPending r = s.shadowPending r := rfl
@[simp] theorem State.setGroup_cmdBusy (s : State) (g : Nat) (x : LoopGroup) (b : Nat) : (s.setGroup g x).cmdBusy b = s.cmdBusy b := rfl

/-! ### State.setCap -/

@[simp] theorem State.setCap_pending (s : State) (g : Nat) (x : CapSt) : (s.setCap g x).pending = s.pending := rfl
@[simp] theorem State.setCap_now (s : State) (g : Nat) (x : CapSt) : (s.setCap g x).now = s.now := rfl
@[simp] theorem State.setCap_words (s : State) (g : Nat) (x : CapSt) : (s.setCap g x).words = s.words := rfl
@[simp] theorem State.setCap_live (s : State) (g : Nat) (x : CapSt) : (s.setCap g x).live = s.live := rfl
@[simp] theorem State.setCap_svcEvt (s : State) (g : Nat) (x : CapSt) : (s.setCap g x).svcEvt = s.svcEvt := rfl
@[simp] theorem State.setCap_incs (s : State) (g : Nat) (x : CapSt) : (s.setCap g x).incs = s.incs := rfl
@[simp] theorem State.setCap_committed (s : State) (g : Nat) (x : CapSt) : (s.setCap g x).committed = s.committed := rfl
@[simp] theorem State.setCap_fab (s : State) (g : Nat) (x : CapSt) : (s.setCap g x).fab = s.fab := rfl
@[simp] theorem State.setCap_jtag (s : State) (g : Nat) (x : CapSt) : (s.setCap g x).jtag = s.jtag := rfl
@[simp] theorem State.setCap_evtOut (s : State) (g : Nat) (x : CapSt) : (s.setCap g x).evtOut = s.evtOut := rfl
@[simp] theorem State.setCap_irqN (s : State) (g : Nat) (x : CapSt) : (s.setCap g x).irqN = s.irqN := rfl
@[simp] theorem State.setCap_dram (s : State) (g : Nat) (x : CapSt) : (s.setCap g x).dram = s.dram := rfl
@[simp] theorem State.setCap_badBlocks (s : State) (g : Nat) (x : CapSt) : (s.setCap g x).badBlocks = s.badBlocks := rfl
@[simp] theorem State.setCap_flash (s : State) (g : Nat) (x : CapSt) : (s.setCap g x).flash = s.flash := rfl
@[simp] theorem State.setCap_freeIdx (s : State) (g : Nat) (x : CapSt) : (s.setCap g x).freeIdx = s.freeIdx := rfl
@[simp] theorem State.setCap_sent (s : State) (g : Nat) (x : CapSt) : (s.setCap g x).sent = s.sent := rfl
@[simp] theorem State.setCap_pQspi (s : State) (g : Nat) (x : CapSt) : (s.setCap g x).pQspi = s.pQspi := rfl
@[simp] theorem State.setCap_pChain (s : State) (g : Nat) (x : CapSt) : (s.setCap g x).pChain = s.pChain := rfl
@[simp] theorem State.setCap_pUdp (s : State) (g : Nat) (x : CapSt) : (s.setCap g x).pUdp = s.pUdp := rfl
@[simp] theorem State.setCap_pSvc (s : State) (g : Nat) (x : CapSt) : (s.setCap g x).pSvc = s.pSvc := rfl
@[simp] theorem State.setCap_qspi (s : State) (g : Nat) (x : CapSt) : (s.setCap g x).qspi = s.qspi := rfl
@[simp] theorem State.setCap_chip (s : State) (g : Nat) (x : CapSt) : (s.setCap g x).chip = s.chip := rfl
@[simp] theorem State.setCap_time (s : State) (g : Nat) (x : CapSt) : (s.setCap g x).time = s.time := rfl
@[simp] theorem State.setCap_pace (s : State) (g : Nat) (x : CapSt) : (s.setCap g x).pace = s.pace := rfl
@[simp] theorem State.setCap_intake (s : State) (g : Nat) (x : CapSt) : (s.setCap g x).intake = s.intake := rfl
@[simp] theorem State.setCap_infl (s : State) (g : Nat) (x : CapSt) : (s.setCap g x).infl = s.infl := rfl
@[simp] theorem State.setCap_map (s : State) (g : Nat) (x : CapSt) : (s.setCap g x).map = s.map := rfl
@[simp] theorem State.setCap_delay (s : State) (g : Nat) (x : CapSt) : (s.setCap g x).delay = s.delay := rfl
@[simp] theorem State.setCap_fire (s : State) (g : Nat) (x : CapSt) : (s.setCap g x).fire = s.fire := rfl
@[simp] theorem State.setCap_heads (s : State) (g : Nat) (x : CapSt) : (s.setCap g x).heads = s.heads := rfl
@[simp] theorem State.setCap_failed (s : State) (g : Nat) (x : CapSt) : (s.setCap g x).failed = s.failed := rfl
@[simp] theorem State.setCap_web (s : State) (g : Nat) (x : CapSt) : (s.setCap g x).web = s.web := rfl
@[simp] theorem State.setCap_pair (s : State) (g : Nat) (x : CapSt) : (s.setCap g x).pair = s.pair := rfl
@[simp] theorem State.setCap_cams (s : State) (g : Nat) (x : CapSt) : (s.setCap g x).cams = s.cams := rfl
@[simp] theorem State.setCap_insp (s : State) (g : Nat) (x : CapSt) : (s.setCap g x).insp = s.insp := rfl
@[simp] theorem State.setCap_trav (s : State) (g : Nat) (x : CapSt) : (s.setCap g x).trav = s.trav := rfl
@[simp] theorem State.setCap_lanes (s : State) (g : Nat) (x : CapSt) : (s.setCap g x).lanes = s.lanes := rfl
@[simp] theorem State.setCap_chain (s : State) (g : Nat) (x : CapSt) : (s.setCap g x).chain = s.chain := rfl
@[simp] theorem State.setCap_eth (s : State) (g : Nat) (x : CapSt) : (s.setCap g x).eth = s.eth := rfl
@[simp] theorem State.setCap_dramc (s : State) (g : Nat) (x : CapSt) : (s.setCap g x).dramc = s.dramc := rfl
@[simp] theorem State.setCap_deflE (s : State) (g : Nat) (x : CapSt) : (s.setCap g x).deflE = s.deflE := rfl
@[simp] theorem State.setCap_axes (s : State) (g : Nat) (x : CapSt) : (s.setCap g x).axes = s.axes := rfl
@[simp] theorem State.setCap_tally (s : State) (g : Nat) (x : CapSt) : (s.setCap g x).tally = s.tally := rfl
@[simp] theorem State.setCap_svc (s : State) (g : Nat) (x : CapSt) : (s.setCap g x).svc = s.svc := rfl
@[simp] theorem State.setCap_dbg (s : State) (g : Nat) (x : CapSt) : (s.setCap g x).dbg = s.dbg := rfl
@[simp] theorem State.setCap_reg (s : State) (g : Nat) (x : CapSt) (b : Nat) : (s.setCap g x).reg b = s.reg b := rfl
@[simp] theorem State.setCap_rf (s : State) (g : Nat) (x : CapSt) (b l m : Nat) : (s.setCap g x).rf b l m = s.rf b l m := rfl
@[simp] theorem State.setCap_rb (s : State) (g : Nat) (x : CapSt) (b j : Nat) : (s.setCap g x).rb b j = s.rb b j := rfl
@[simp] theorem State.setCap_inForce (s : State) (g : Nat) (x : CapSt) (b : Nat) : (s.setCap g x).inForce b = s.inForce b := rfl
@[simp] theorem State.setCap_lf (s : State) (g : Nat) (x : CapSt) (b l m : Nat) : (s.setCap g x).lf b l m = s.lf b l m := rfl
@[simp] theorem State.setCap_lb (s : State) (g : Nat) (x : CapSt) (b j : Nat) : (s.setCap g x).lb b j = s.lb b j := rfl
@[simp] theorem State.setCap_heldInReset (s : State) (g : Nat) (x : CapSt) (r : Nat) : (s.setCap g x).heldInReset r = s.heldInReset r := rfl
@[simp] theorem State.setCap_released (s : State) (g : Nat) (x : CapSt) (r : Nat) : (s.setCap g x).released r = s.released r := rfl
@[simp] theorem State.setCap_enabled (s : State) (g : Nat) (x : CapSt) (r : Nat) : (s.setCap g x).enabled r = s.enabled r := rfl
@[simp] theorem State.setCap_quiescing (s : State) (g : Nat) (x : CapSt) (r : Nat) : (s.setCap g x).quiescing r = s.quiescing r := rfl
@[simp] theorem State.setCap_running (s : State) (g : Nat) (x : CapSt) (r : Nat) : (s.setCap g x).running r = s.running r := rfl
@[simp] theorem State.setCap_shadowPending (s : State) (g : Nat) (x : CapSt) (r : Nat) : (s.setCap g x).shadowPending r = s.shadowPending r := rfl
@[simp] theorem State.setCap_cmdBusy (s : State) (g : Nat) (x : CapSt) (b : Nat) : (s.setCap g x).cmdBusy b = s.cmdBusy b := rfl

/-! ### State.setDefl -/

@[simp] theorem State.setDefl_pending (s : State) (e : Nat) (x : DeflEng) : (s.setDefl e x).pending = s.pending := rfl
@[simp] theorem State.setDefl_now (s : State) (e : Nat) (x : DeflEng) : (s.setDefl e x).now = s.now := rfl
@[simp] theorem State.setDefl_words (s : State) (e : Nat) (x : DeflEng) : (s.setDefl e x).words = s.words := rfl
@[simp] theorem State.setDefl_live (s : State) (e : Nat) (x : DeflEng) : (s.setDefl e x).live = s.live := rfl
@[simp] theorem State.setDefl_svcEvt (s : State) (e : Nat) (x : DeflEng) : (s.setDefl e x).svcEvt = s.svcEvt := rfl
@[simp] theorem State.setDefl_incs (s : State) (e : Nat) (x : DeflEng) : (s.setDefl e x).incs = s.incs := rfl
@[simp] theorem State.setDefl_committed (s : State) (e : Nat) (x : DeflEng) : (s.setDefl e x).committed = s.committed := rfl
@[simp] theorem State.setDefl_fab (s : State) (e : Nat) (x : DeflEng) : (s.setDefl e x).fab = s.fab := rfl
@[simp] theorem State.setDefl_jtag (s : State) (e : Nat) (x : DeflEng) : (s.setDefl e x).jtag = s.jtag := rfl
@[simp] theorem State.setDefl_evtOut (s : State) (e : Nat) (x : DeflEng) : (s.setDefl e x).evtOut = s.evtOut := rfl
@[simp] theorem State.setDefl_irqN (s : State) (e : Nat) (x : DeflEng) : (s.setDefl e x).irqN = s.irqN := rfl
@[simp] theorem State.setDefl_dram (s : State) (e : Nat) (x : DeflEng) : (s.setDefl e x).dram = s.dram := rfl
@[simp] theorem State.setDefl_badBlocks (s : State) (e : Nat) (x : DeflEng) : (s.setDefl e x).badBlocks = s.badBlocks := rfl
@[simp] theorem State.setDefl_flash (s : State) (e : Nat) (x : DeflEng) : (s.setDefl e x).flash = s.flash := rfl
@[simp] theorem State.setDefl_freeIdx (s : State) (e : Nat) (x : DeflEng) : (s.setDefl e x).freeIdx = s.freeIdx := rfl
@[simp] theorem State.setDefl_sent (s : State) (e : Nat) (x : DeflEng) : (s.setDefl e x).sent = s.sent := rfl
@[simp] theorem State.setDefl_pQspi (s : State) (e : Nat) (x : DeflEng) : (s.setDefl e x).pQspi = s.pQspi := rfl
@[simp] theorem State.setDefl_pChain (s : State) (e : Nat) (x : DeflEng) : (s.setDefl e x).pChain = s.pChain := rfl
@[simp] theorem State.setDefl_pUdp (s : State) (e : Nat) (x : DeflEng) : (s.setDefl e x).pUdp = s.pUdp := rfl
@[simp] theorem State.setDefl_pSvc (s : State) (e : Nat) (x : DeflEng) : (s.setDefl e x).pSvc = s.pSvc := rfl
@[simp] theorem State.setDefl_qspi (s : State) (e : Nat) (x : DeflEng) : (s.setDefl e x).qspi = s.qspi := rfl
@[simp] theorem State.setDefl_chip (s : State) (e : Nat) (x : DeflEng) : (s.setDefl e x).chip = s.chip := rfl
@[simp] theorem State.setDefl_time (s : State) (e : Nat) (x : DeflEng) : (s.setDefl e x).time = s.time := rfl
@[simp] theorem State.setDefl_pace (s : State) (e : Nat) (x : DeflEng) : (s.setDefl e x).pace = s.pace := rfl
@[simp] theorem State.setDefl_intake (s : State) (e : Nat) (x : DeflEng) : (s.setDefl e x).intake = s.intake := rfl
@[simp] theorem State.setDefl_infl (s : State) (e : Nat) (x : DeflEng) : (s.setDefl e x).infl = s.infl := rfl
@[simp] theorem State.setDefl_map (s : State) (e : Nat) (x : DeflEng) : (s.setDefl e x).map = s.map := rfl
@[simp] theorem State.setDefl_delay (s : State) (e : Nat) (x : DeflEng) : (s.setDefl e x).delay = s.delay := rfl
@[simp] theorem State.setDefl_fire (s : State) (e : Nat) (x : DeflEng) : (s.setDefl e x).fire = s.fire := rfl
@[simp] theorem State.setDefl_heads (s : State) (e : Nat) (x : DeflEng) : (s.setDefl e x).heads = s.heads := rfl
@[simp] theorem State.setDefl_failed (s : State) (e : Nat) (x : DeflEng) : (s.setDefl e x).failed = s.failed := rfl
@[simp] theorem State.setDefl_web (s : State) (e : Nat) (x : DeflEng) : (s.setDefl e x).web = s.web := rfl
@[simp] theorem State.setDefl_pair (s : State) (e : Nat) (x : DeflEng) : (s.setDefl e x).pair = s.pair := rfl
@[simp] theorem State.setDefl_cams (s : State) (e : Nat) (x : DeflEng) : (s.setDefl e x).cams = s.cams := rfl
@[simp] theorem State.setDefl_insp (s : State) (e : Nat) (x : DeflEng) : (s.setDefl e x).insp = s.insp := rfl
@[simp] theorem State.setDefl_trav (s : State) (e : Nat) (x : DeflEng) : (s.setDefl e x).trav = s.trav := rfl
@[simp] theorem State.setDefl_lanes (s : State) (e : Nat) (x : DeflEng) : (s.setDefl e x).lanes = s.lanes := rfl
@[simp] theorem State.setDefl_chain (s : State) (e : Nat) (x : DeflEng) : (s.setDefl e x).chain = s.chain := rfl
@[simp] theorem State.setDefl_eth (s : State) (e : Nat) (x : DeflEng) : (s.setDefl e x).eth = s.eth := rfl
@[simp] theorem State.setDefl_dramc (s : State) (e : Nat) (x : DeflEng) : (s.setDefl e x).dramc = s.dramc := rfl
@[simp] theorem State.setDefl_loop (s : State) (e : Nat) (x : DeflEng) : (s.setDefl e x).loop = s.loop := rfl
@[simp] theorem State.setDefl_axes (s : State) (e : Nat) (x : DeflEng) : (s.setDefl e x).axes = s.axes := rfl
@[simp] theorem State.setDefl_tally (s : State) (e : Nat) (x : DeflEng) : (s.setDefl e x).tally = s.tally := rfl
@[simp] theorem State.setDefl_svc (s : State) (e : Nat) (x : DeflEng) : (s.setDefl e x).svc = s.svc := rfl
@[simp] theorem State.setDefl_dbg (s : State) (e : Nat) (x : DeflEng) : (s.setDefl e x).dbg = s.dbg := rfl
@[simp] theorem State.setDefl_reg (s : State) (e : Nat) (x : DeflEng) (b : Nat) : (s.setDefl e x).reg b = s.reg b := rfl
@[simp] theorem State.setDefl_rf (s : State) (e : Nat) (x : DeflEng) (b l m : Nat) : (s.setDefl e x).rf b l m = s.rf b l m := rfl
@[simp] theorem State.setDefl_rb (s : State) (e : Nat) (x : DeflEng) (b j : Nat) : (s.setDefl e x).rb b j = s.rb b j := rfl
@[simp] theorem State.setDefl_inForce (s : State) (e : Nat) (x : DeflEng) (b : Nat) : (s.setDefl e x).inForce b = s.inForce b := rfl
@[simp] theorem State.setDefl_lf (s : State) (e : Nat) (x : DeflEng) (b l m : Nat) : (s.setDefl e x).lf b l m = s.lf b l m := rfl
@[simp] theorem State.setDefl_lb (s : State) (e : Nat) (x : DeflEng) (b j : Nat) : (s.setDefl e x).lb b j = s.lb b j := rfl
@[simp] theorem State.setDefl_heldInReset (s : State) (e : Nat) (x : DeflEng) (r : Nat) : (s.setDefl e x).heldInReset r = s.heldInReset r := rfl
@[simp] theorem State.setDefl_released (s : State) (e : Nat) (x : DeflEng) (r : Nat) : (s.setDefl e x).released r = s.released r := rfl
@[simp] theorem State.setDefl_enabled (s : State) (e : Nat) (x : DeflEng) (r : Nat) : (s.setDefl e x).enabled r = s.enabled r := rfl
@[simp] theorem State.setDefl_quiescing (s : State) (e : Nat) (x : DeflEng) (r : Nat) : (s.setDefl e x).quiescing r = s.quiescing r := rfl
@[simp] theorem State.setDefl_running (s : State) (e : Nat) (x : DeflEng) (r : Nat) : (s.setDefl e x).running r = s.running r := rfl
@[simp] theorem State.setDefl_shadowPending (s : State) (e : Nat) (x : DeflEng) (r : Nat) : (s.setDefl e x).shadowPending r = s.shadowPending r := rfl
@[simp] theorem State.setDefl_cmdBusy (s : State) (e : Nat) (x : DeflEng) (b : Nat) : (s.setDefl e x).cmdBusy b = s.cmdBusy b := rfl

/-! ### State.setNoz -/

@[simp] theorem State.setNoz_pending (s : State) (n : Nat) (x : NozSt) : (s.setNoz n x).pending = s.pending := rfl
@[simp] theorem State.setNoz_now (s : State) (n : Nat) (x : NozSt) : (s.setNoz n x).now = s.now := rfl
@[simp] theorem State.setNoz_words (s : State) (n : Nat) (x : NozSt) : (s.setNoz n x).words = s.words := rfl
@[simp] theorem State.setNoz_live (s : State) (n : Nat) (x : NozSt) : (s.setNoz n x).live = s.live := rfl
@[simp] theorem State.setNoz_svcEvt (s : State) (n : Nat) (x : NozSt) : (s.setNoz n x).svcEvt = s.svcEvt := rfl
@[simp] theorem State.setNoz_incs (s : State) (n : Nat) (x : NozSt) : (s.setNoz n x).incs = s.incs := rfl
@[simp] theorem State.setNoz_committed (s : State) (n : Nat) (x : NozSt) : (s.setNoz n x).committed = s.committed := rfl
@[simp] theorem State.setNoz_fab (s : State) (n : Nat) (x : NozSt) : (s.setNoz n x).fab = s.fab := rfl
@[simp] theorem State.setNoz_jtag (s : State) (n : Nat) (x : NozSt) : (s.setNoz n x).jtag = s.jtag := rfl
@[simp] theorem State.setNoz_evtOut (s : State) (n : Nat) (x : NozSt) : (s.setNoz n x).evtOut = s.evtOut := rfl
@[simp] theorem State.setNoz_irqN (s : State) (n : Nat) (x : NozSt) : (s.setNoz n x).irqN = s.irqN := rfl
@[simp] theorem State.setNoz_dram (s : State) (n : Nat) (x : NozSt) : (s.setNoz n x).dram = s.dram := rfl
@[simp] theorem State.setNoz_badBlocks (s : State) (n : Nat) (x : NozSt) : (s.setNoz n x).badBlocks = s.badBlocks := rfl
@[simp] theorem State.setNoz_flash (s : State) (n : Nat) (x : NozSt) : (s.setNoz n x).flash = s.flash := rfl
@[simp] theorem State.setNoz_freeIdx (s : State) (n : Nat) (x : NozSt) : (s.setNoz n x).freeIdx = s.freeIdx := rfl
@[simp] theorem State.setNoz_sent (s : State) (n : Nat) (x : NozSt) : (s.setNoz n x).sent = s.sent := rfl
@[simp] theorem State.setNoz_pQspi (s : State) (n : Nat) (x : NozSt) : (s.setNoz n x).pQspi = s.pQspi := rfl
@[simp] theorem State.setNoz_pChain (s : State) (n : Nat) (x : NozSt) : (s.setNoz n x).pChain = s.pChain := rfl
@[simp] theorem State.setNoz_pUdp (s : State) (n : Nat) (x : NozSt) : (s.setNoz n x).pUdp = s.pUdp := rfl
@[simp] theorem State.setNoz_pSvc (s : State) (n : Nat) (x : NozSt) : (s.setNoz n x).pSvc = s.pSvc := rfl
@[simp] theorem State.setNoz_qspi (s : State) (n : Nat) (x : NozSt) : (s.setNoz n x).qspi = s.qspi := rfl
@[simp] theorem State.setNoz_chip (s : State) (n : Nat) (x : NozSt) : (s.setNoz n x).chip = s.chip := rfl
@[simp] theorem State.setNoz_time (s : State) (n : Nat) (x : NozSt) : (s.setNoz n x).time = s.time := rfl
@[simp] theorem State.setNoz_pace (s : State) (n : Nat) (x : NozSt) : (s.setNoz n x).pace = s.pace := rfl
@[simp] theorem State.setNoz_intake (s : State) (n : Nat) (x : NozSt) : (s.setNoz n x).intake = s.intake := rfl
@[simp] theorem State.setNoz_infl (s : State) (n : Nat) (x : NozSt) : (s.setNoz n x).infl = s.infl := rfl
@[simp] theorem State.setNoz_map (s : State) (n : Nat) (x : NozSt) : (s.setNoz n x).map = s.map := rfl
@[simp] theorem State.setNoz_delay (s : State) (n : Nat) (x : NozSt) : (s.setNoz n x).delay = s.delay := rfl
@[simp] theorem State.setNoz_fire (s : State) (n : Nat) (x : NozSt) : (s.setNoz n x).fire = s.fire := rfl
@[simp] theorem State.setNoz_heads (s : State) (n : Nat) (x : NozSt) : (s.setNoz n x).heads = s.heads := rfl
@[simp] theorem State.setNoz_failed (s : State) (n : Nat) (x : NozSt) : (s.setNoz n x).failed = s.failed := rfl
@[simp] theorem State.setNoz_web (s : State) (n : Nat) (x : NozSt) : (s.setNoz n x).web = s.web := rfl
@[simp] theorem State.setNoz_pair (s : State) (n : Nat) (x : NozSt) : (s.setNoz n x).pair = s.pair := rfl
@[simp] theorem State.setNoz_cams (s : State) (n : Nat) (x : NozSt) : (s.setNoz n x).cams = s.cams := rfl
@[simp] theorem State.setNoz_insp (s : State) (n : Nat) (x : NozSt) : (s.setNoz n x).insp = s.insp := rfl
@[simp] theorem State.setNoz_lanes (s : State) (n : Nat) (x : NozSt) : (s.setNoz n x).lanes = s.lanes := rfl
@[simp] theorem State.setNoz_chain (s : State) (n : Nat) (x : NozSt) : (s.setNoz n x).chain = s.chain := rfl
@[simp] theorem State.setNoz_eth (s : State) (n : Nat) (x : NozSt) : (s.setNoz n x).eth = s.eth := rfl
@[simp] theorem State.setNoz_dramc (s : State) (n : Nat) (x : NozSt) : (s.setNoz n x).dramc = s.dramc := rfl
@[simp] theorem State.setNoz_deflE (s : State) (n : Nat) (x : NozSt) : (s.setNoz n x).deflE = s.deflE := rfl
@[simp] theorem State.setNoz_loop (s : State) (n : Nat) (x : NozSt) : (s.setNoz n x).loop = s.loop := rfl
@[simp] theorem State.setNoz_axes (s : State) (n : Nat) (x : NozSt) : (s.setNoz n x).axes = s.axes := rfl
@[simp] theorem State.setNoz_tally (s : State) (n : Nat) (x : NozSt) : (s.setNoz n x).tally = s.tally := rfl
@[simp] theorem State.setNoz_svc (s : State) (n : Nat) (x : NozSt) : (s.setNoz n x).svc = s.svc := rfl
@[simp] theorem State.setNoz_dbg (s : State) (n : Nat) (x : NozSt) : (s.setNoz n x).dbg = s.dbg := rfl
@[simp] theorem State.setNoz_reg (s : State) (n : Nat) (x : NozSt) (b : Nat) : (s.setNoz n x).reg b = s.reg b := rfl
@[simp] theorem State.setNoz_rf (s : State) (n : Nat) (x : NozSt) (b l m : Nat) : (s.setNoz n x).rf b l m = s.rf b l m := rfl
@[simp] theorem State.setNoz_rb (s : State) (n : Nat) (x : NozSt) (b j : Nat) : (s.setNoz n x).rb b j = s.rb b j := rfl
@[simp] theorem State.setNoz_inForce (s : State) (n : Nat) (x : NozSt) (b : Nat) : (s.setNoz n x).inForce b = s.inForce b := rfl
@[simp] theorem State.setNoz_lf (s : State) (n : Nat) (x : NozSt) (b l m : Nat) : (s.setNoz n x).lf b l m = s.lf b l m := rfl
@[simp] theorem State.setNoz_lb (s : State) (n : Nat) (x : NozSt) (b j : Nat) : (s.setNoz n x).lb b j = s.lb b j := rfl
@[simp] theorem State.setNoz_heldInReset (s : State) (n : Nat) (x : NozSt) (r : Nat) : (s.setNoz n x).heldInReset r = s.heldInReset r := rfl
@[simp] theorem State.setNoz_released (s : State) (n : Nat) (x : NozSt) (r : Nat) : (s.setNoz n x).released r = s.released r := rfl
@[simp] theorem State.setNoz_enabled (s : State) (n : Nat) (x : NozSt) (r : Nat) : (s.setNoz n x).enabled r = s.enabled r := rfl
@[simp] theorem State.setNoz_quiescing (s : State) (n : Nat) (x : NozSt) (r : Nat) : (s.setNoz n x).quiescing r = s.quiescing r := rfl
@[simp] theorem State.setNoz_running (s : State) (n : Nat) (x : NozSt) (r : Nat) : (s.setNoz n x).running r = s.running r := rfl
@[simp] theorem State.setNoz_shadowPending (s : State) (n : Nat) (x : NozSt) (r : Nat) : (s.setNoz n x).shadowPending r = s.shadowPending r := rfl
@[simp] theorem State.setNoz_cmdBusy (s : State) (n : Nat) (x : NozSt) (b : Nat) : (s.setNoz n x).cmdBusy b = s.cmdBusy b := rfl

/-! ### State.setEnc -/

@[simp] theorem State.setEnc_pending (s : State) (e : Nat) (x : EncSt) : (s.setEnc e x).pending = s.pending := by unfold State.setEnc; split <;> rfl
@[simp] theorem State.setEnc_now (s : State) (e : Nat) (x : EncSt) : (s.setEnc e x).now = s.now := by unfold State.setEnc; split <;> rfl
@[simp] theorem State.setEnc_words (s : State) (e : Nat) (x : EncSt) : (s.setEnc e x).words = s.words := by unfold State.setEnc; split <;> rfl
@[simp] theorem State.setEnc_live (s : State) (e : Nat) (x : EncSt) : (s.setEnc e x).live = s.live := by unfold State.setEnc; split <;> rfl
@[simp] theorem State.setEnc_svcEvt (s : State) (e : Nat) (x : EncSt) : (s.setEnc e x).svcEvt = s.svcEvt := by unfold State.setEnc; split <;> rfl
@[simp] theorem State.setEnc_incs (s : State) (e : Nat) (x : EncSt) : (s.setEnc e x).incs = s.incs := by unfold State.setEnc; split <;> rfl
@[simp] theorem State.setEnc_committed (s : State) (e : Nat) (x : EncSt) : (s.setEnc e x).committed = s.committed := by unfold State.setEnc; split <;> rfl
@[simp] theorem State.setEnc_fab (s : State) (e : Nat) (x : EncSt) : (s.setEnc e x).fab = s.fab := by unfold State.setEnc; split <;> rfl
@[simp] theorem State.setEnc_jtag (s : State) (e : Nat) (x : EncSt) : (s.setEnc e x).jtag = s.jtag := by unfold State.setEnc; split <;> rfl
@[simp] theorem State.setEnc_evtOut (s : State) (e : Nat) (x : EncSt) : (s.setEnc e x).evtOut = s.evtOut := by unfold State.setEnc; split <;> rfl
@[simp] theorem State.setEnc_irqN (s : State) (e : Nat) (x : EncSt) : (s.setEnc e x).irqN = s.irqN := by unfold State.setEnc; split <;> rfl
@[simp] theorem State.setEnc_dram (s : State) (e : Nat) (x : EncSt) : (s.setEnc e x).dram = s.dram := by unfold State.setEnc; split <;> rfl
@[simp] theorem State.setEnc_badBlocks (s : State) (e : Nat) (x : EncSt) : (s.setEnc e x).badBlocks = s.badBlocks := by unfold State.setEnc; split <;> rfl
@[simp] theorem State.setEnc_flash (s : State) (e : Nat) (x : EncSt) : (s.setEnc e x).flash = s.flash := by unfold State.setEnc; split <;> rfl
@[simp] theorem State.setEnc_freeIdx (s : State) (e : Nat) (x : EncSt) : (s.setEnc e x).freeIdx = s.freeIdx := by unfold State.setEnc; split <;> rfl
@[simp] theorem State.setEnc_sent (s : State) (e : Nat) (x : EncSt) : (s.setEnc e x).sent = s.sent := by unfold State.setEnc; split <;> rfl
@[simp] theorem State.setEnc_pQspi (s : State) (e : Nat) (x : EncSt) : (s.setEnc e x).pQspi = s.pQspi := by unfold State.setEnc; split <;> rfl
@[simp] theorem State.setEnc_pChain (s : State) (e : Nat) (x : EncSt) : (s.setEnc e x).pChain = s.pChain := by unfold State.setEnc; split <;> rfl
@[simp] theorem State.setEnc_pUdp (s : State) (e : Nat) (x : EncSt) : (s.setEnc e x).pUdp = s.pUdp := by unfold State.setEnc; split <;> rfl
@[simp] theorem State.setEnc_pSvc (s : State) (e : Nat) (x : EncSt) : (s.setEnc e x).pSvc = s.pSvc := by unfold State.setEnc; split <;> rfl
@[simp] theorem State.setEnc_qspi (s : State) (e : Nat) (x : EncSt) : (s.setEnc e x).qspi = s.qspi := by unfold State.setEnc; split <;> rfl
@[simp] theorem State.setEnc_chip (s : State) (e : Nat) (x : EncSt) : (s.setEnc e x).chip = s.chip := by unfold State.setEnc; split <;> rfl
@[simp] theorem State.setEnc_time (s : State) (e : Nat) (x : EncSt) : (s.setEnc e x).time = s.time := by unfold State.setEnc; split <;> rfl
@[simp] theorem State.setEnc_pace (s : State) (e : Nat) (x : EncSt) : (s.setEnc e x).pace = s.pace := by unfold State.setEnc; split <;> rfl
@[simp] theorem State.setEnc_intake (s : State) (e : Nat) (x : EncSt) : (s.setEnc e x).intake = s.intake := by unfold State.setEnc; split <;> rfl
@[simp] theorem State.setEnc_infl (s : State) (e : Nat) (x : EncSt) : (s.setEnc e x).infl = s.infl := by unfold State.setEnc; split <;> rfl
@[simp] theorem State.setEnc_map (s : State) (e : Nat) (x : EncSt) : (s.setEnc e x).map = s.map := by unfold State.setEnc; split <;> rfl
@[simp] theorem State.setEnc_delay (s : State) (e : Nat) (x : EncSt) : (s.setEnc e x).delay = s.delay := by unfold State.setEnc; split <;> rfl
@[simp] theorem State.setEnc_fire (s : State) (e : Nat) (x : EncSt) : (s.setEnc e x).fire = s.fire := by unfold State.setEnc; split <;> rfl
@[simp] theorem State.setEnc_heads (s : State) (e : Nat) (x : EncSt) : (s.setEnc e x).heads = s.heads := by unfold State.setEnc; split <;> rfl
@[simp] theorem State.setEnc_failed (s : State) (e : Nat) (x : EncSt) : (s.setEnc e x).failed = s.failed := by unfold State.setEnc; split <;> rfl
@[simp] theorem State.setEnc_pair (s : State) (e : Nat) (x : EncSt) : (s.setEnc e x).pair = s.pair := by unfold State.setEnc; split <;> rfl
@[simp] theorem State.setEnc_cams (s : State) (e : Nat) (x : EncSt) : (s.setEnc e x).cams = s.cams := by unfold State.setEnc; split <;> rfl
@[simp] theorem State.setEnc_insp (s : State) (e : Nat) (x : EncSt) : (s.setEnc e x).insp = s.insp := by unfold State.setEnc; split <;> rfl
@[simp] theorem State.setEnc_trav (s : State) (e : Nat) (x : EncSt) : (s.setEnc e x).trav = s.trav := by unfold State.setEnc; split <;> rfl
@[simp] theorem State.setEnc_lanes (s : State) (e : Nat) (x : EncSt) : (s.setEnc e x).lanes = s.lanes := by unfold State.setEnc; split <;> rfl
@[simp] theorem State.setEnc_chain (s : State) (e : Nat) (x : EncSt) : (s.setEnc e x).chain = s.chain := by unfold State.setEnc; split <;> rfl
@[simp] theorem State.setEnc_eth (s : State) (e : Nat) (x : EncSt) : (s.setEnc e x).eth = s.eth := by unfold State.setEnc; split <;> rfl
@[simp] theorem State.setEnc_dramc (s : State) (e : Nat) (x : EncSt) : (s.setEnc e x).dramc = s.dramc := by unfold State.setEnc; split <;> rfl
@[simp] theorem State.setEnc_deflE (s : State) (e : Nat) (x : EncSt) : (s.setEnc e x).deflE = s.deflE := by unfold State.setEnc; split <;> rfl
@[simp] theorem State.setEnc_loop (s : State) (e : Nat) (x : EncSt) : (s.setEnc e x).loop = s.loop := by unfold State.setEnc; split <;> rfl
@[simp] theorem State.setEnc_axes (s : State) (e : Nat) (x : EncSt) : (s.setEnc e x).axes = s.axes := by unfold State.setEnc; split <;> rfl
@[simp] theorem State.setEnc_tally (s : State) (e : Nat) (x : EncSt) : (s.setEnc e x).tally = s.tally := by unfold State.setEnc; split <;> rfl
@[simp] theorem State.setEnc_svc (s : State) (e : Nat) (x : EncSt) : (s.setEnc e x).svc = s.svc := by unfold State.setEnc; split <;> rfl
@[simp] theorem State.setEnc_dbg (s : State) (e : Nat) (x : EncSt) : (s.setEnc e x).dbg = s.dbg := by unfold State.setEnc; split <;> rfl
@[simp] theorem State.setEnc_reg (s : State) (e : Nat) (x : EncSt) (b : Nat) : (s.setEnc e x).reg b = s.reg b := by unfold State.setEnc; split <;> rfl
@[simp] theorem State.setEnc_rf (s : State) (e : Nat) (x : EncSt) (b l m : Nat) : (s.setEnc e x).rf b l m = s.rf b l m := by unfold State.setEnc; split <;> rfl
@[simp] theorem State.setEnc_rb (s : State) (e : Nat) (x : EncSt) (b j : Nat) : (s.setEnc e x).rb b j = s.rb b j := by unfold State.setEnc; split <;> rfl
@[simp] theorem State.setEnc_inForce (s : State) (e : Nat) (x : EncSt) (b : Nat) : (s.setEnc e x).inForce b = s.inForce b := by unfold State.setEnc; split <;> rfl
@[simp] theorem State.setEnc_lf (s : State) (e : Nat) (x : EncSt) (b l m : Nat) : (s.setEnc e x).lf b l m = s.lf b l m := by unfold State.setEnc; split <;> rfl
@[simp] theorem State.setEnc_lb (s : State) (e : Nat) (x : EncSt) (b j : Nat) : (s.setEnc e x).lb b j = s.lb b j := by unfold State.setEnc; split <;> rfl
@[simp] theorem State.setEnc_heldInReset (s : State) (e : Nat) (x : EncSt) (r : Nat) : (s.setEnc e x).heldInReset r = s.heldInReset r := by unfold State.setEnc; split <;> rfl
@[simp] theorem State.setEnc_released (s : State) (e : Nat) (x : EncSt) (r : Nat) : (s.setEnc e x).released r = s.released r := by unfold State.setEnc; split <;> rfl
@[simp] theorem State.setEnc_enabled (s : State) (e : Nat) (x : EncSt) (r : Nat) : (s.setEnc e x).enabled r = s.enabled r := by unfold State.setEnc; split <;> rfl
@[simp] theorem State.setEnc_quiescing (s : State) (e : Nat) (x : EncSt) (r : Nat) : (s.setEnc e x).quiescing r = s.quiescing r := by unfold State.setEnc; split <;> rfl
@[simp] theorem State.setEnc_running (s : State) (e : Nat) (x : EncSt) (r : Nat) : (s.setEnc e x).running r = s.running r := by unfold State.setEnc; split <;> rfl
@[simp] theorem State.setEnc_shadowPending (s : State) (e : Nat) (x : EncSt) (r : Nat) : (s.setEnc e x).shadowPending r = s.shadowPending r := by unfold State.setEnc; split <;> rfl
@[simp] theorem State.setEnc_cmdBusy (s : State) (e : Nat) (x : EncSt) (b : Nat) : (s.setEnc e x).cmdBusy b = s.cmdBusy b := by unfold State.setEnc; split <;> rfl

end Sys2Proof.Machine
end

