-- ==== Sys2Proof/Laws/Ops.lean ====
section
/-! SUPPORT. The laws of the named operations: registers read back, what raising an event, counting and ending a command can
change, and what they leave alone. -/
namespace Sys2Proof.Machine

/-! ## Registers -/

/-- A register read back after it is stored. -/
@[simp] theorem reg_setReg_self (s : State) (a : Nat) (w : Word) : (s.setReg a w).reg a = w :=
  mget_mset_self resetWord a w s.words

/-- Another register reads as before. -/
@[simp] theorem reg_setReg_ne (s : State) {a b : Nat} (h : b ≠ a) (w : Word) : (s.setReg a w).reg b = s.reg b :=
  mget_mset_ne resetWord h w s.words

theorem reg_setReg (s : State) (a b : Nat) (w : Word) : (s.setReg a w).reg b = if b = a then w else s.reg b :=
  mget_mset resetWord a b w s.words

@[simp] theorem reg_setF_self (s : State) (a lo n v : Nat) : (s.setF a lo n v).reg a = put (s.reg a) lo n v := reg_setReg_self ..

@[simp] theorem reg_setF_ne (s : State) {a b : Nat} (h : b ≠ a) (lo n v : Nat) : (s.setF a lo n v).reg b = s.reg b :=
  reg_setReg_ne s h _

@[simp] theorem reg_setB_self (s : State) (a i : Nat) (c : Bool) : (s.setB a i c).reg a = putBit (s.reg a) i c := reg_setReg_self ..

@[simp] theorem reg_setB_ne (s : State) {a b : Nat} (h : b ≠ a) (i : Nat) (c : Bool) : (s.setB a i c).reg b = s.reg b :=
  reg_setReg_ne s h _

@[simp] theorem rf_setReg_self (s : State) (a : Nat) (w : Word) (lo n : Nat) : (s.setReg a w).rf a lo n = fld w lo n := by
  simp [State.rf]

@[simp] theorem rb_setReg_self (s : State) (a : Nat) (w : Word) (i : Nat) : (s.setReg a w).rb a i = bit w i := by simp [State.rb]

@[simp] theorem rf_setReg_ne (s : State) {a b : Nat} (h : b ≠ a) (w : Word) (lo n : Nat) :
    (s.setReg a w).rf b lo n = s.rf b lo n := by simp [State.rf, h]

@[simp] theorem rb_setReg_ne (s : State) {a b : Nat} (h : b ≠ a) (w : Word) (i : Nat) : (s.setReg a w).rb b i = s.rb b i := by
  simp [State.rb, h]

theorem rf_setF_self (s : State) {a lo n : Nat} (h : lo + n ≤ 32) (v : Nat) : (s.setF a lo n v).rf a lo n = v % 2 ^ n := by
  simp [State.rf, fld_put h]

@[simp] theorem rb_setB_self (s : State) (a : Nat) {i : Nat} (h : i < 32) (c : Bool) : (s.setB a i c).rb a i = c := by
  simp [State.rb, h]

@[simp] theorem rb_setB_ne (s : State) {a b : Nat} (h : b ≠ a) (i j : Nat) (c : Bool) : (s.setB a i c).rb b j = s.rb b j := by
  simp [State.rb, h]

/-- A set bit stays set when a bit of any register is set. -/
theorem rb_setB_true (s : State) (a b : Nat) {i j : Nat} (hi : i < 32) (h : s.rb b j = true) : (s.setB a i true).rb b j = true := by
  by_cases hb : b = a
  · subst hb
    by_cases hj : j = i
    · subst hj; simp [hi]
    · simpa [State.rb, bit_putBit_ne _ hi hj] using h
  · simpa [hb] using h

/-! ## Raising events -/

theorem KeepsBlocks.rfl' (s : State) : KeepsBlocks s s := rfl

/-- What reads none of the six reads the same. -/
theorem KeepsBlocks.proj {γ : Type} {s t : State} (h : KeepsBlocks s t) (f : State → γ) :
    f t = f { s with words := t.words, evtOut := t.evtOut, incs := t.incs, committed := t.committed, dram := t.dram, badBlocks := t.badBlocks } :=
  congrArg f (show t = _ from h)

theorem KeepsBlocks.trans {s t u : State} (h : KeepsBlocks s t) (g : KeepsBlocks t u) : KeepsBlocks s u := by
  unfold KeepsBlocks at *
  rw [g, h]

theorem setReg_keeps (s : State) (a : Nat) (w : Word) : KeepsBlocks s (s.setReg a w) := rfl
theorem setF_keeps (s : State) (a lo n v : Nat) : KeepsBlocks s (s.setF a lo n v) := rfl
theorem setB_keeps (s : State) (a i : Nat) (c : Bool) : KeepsBlocks s (s.setB a i c) := rfl

theorem noteInc_keeps (s : State) (a : Nat) : KeepsBlocks s (noteInc a s) := rfl

theorem raiseBit_keeps (s : State) (p b : Nat) : KeepsBlocks s (raiseBit p b s) := by
  simp only [raiseBit]; split <;> rfl

theorem cntInc_keeps (s : State) (p a : Nat) : KeepsBlocks s (cntInc p a s) := by
  simp only [cntInc]
  split
  · exact noteInc_keeps s a
  · split
    · exact ((noteInc_keeps s a).trans (setReg_keeps _ a _)).trans (raiseBit_keeps _ _ _)
    · rfl

theorem tracePut_keeps (s : State) (p k q b x d : Nat) : KeepsBlocks s (tracePut p k q b x d s) := by
  simp only [tracePut]
  split
  · rfl
  · exact (raiseBit_keeps _ _ _).trans (cntInc_keeps _ _ _)

theorem raise_keeps (s : State) (p b : Nat) : KeepsBlocks s (raise p b s) := by
  simp only [raise]
  split
  · split
    · exact (raiseBit_keeps _ _ _).trans (tracePut_keeps ..)
    · exact raiseBit_keeps _ _ _
  · rfl

theorem config_keeps (s : State) (p : Nat) : KeepsBlocks s (config p s) := raise_keeps s p 0

theorem count_keeps (s : State) (p a : Nat) : KeepsBlocks s (count p a s) := by
  simp only [count]
  split
  · exact noteInc_keeps s a
  · split
    · exact ((noteInc_keeps s a).trans (setReg_keeps _ a _)).trans (raise_keeps _ _ _)
    · rfl

theorem errInc_keeps (s : State) (p k : Nat) : KeepsBlocks s (errInc p k s) := count_keeps s p _

theorem countHalf_keeps (s : State) (p a lo : Nat) : KeepsBlocks s (countHalf p a lo s) := by
  simp only [countHalf]
  split
  · rfl
  · split
    · exact (setF_keeps s a lo 16 _).trans (raise_keeps _ _ _)
    · rfl

theorem stat_keeps (s : State) (p a n : Nat) : KeepsBlocks s (stat p a n s) := by
  simp only [stat]
  split
  · rfl
  · exact (setReg_keeps s a _).trans (raise_keeps _ _ _)

theorem stat48_keeps (s : State) (p a n : Nat) : KeepsBlocks s (stat48 p a n s) := by
  simp only [stat48]
  split
  · rfl
  · exact ((setReg_keeps s a _).trans (setReg_keeps _ (a + 4) _)).trans (raise_keeps _ _ _)

theorem cmdEnd_keeps (s : State) (p a st code prog : Nat) : KeepsBlocks s (cmdEnd p a st code prog s) :=
  (setReg_keeps s a _).trans (raise_keeps _ _ _)

theorem cmdDone_keeps (s : State) (p a : Nat) : KeepsBlocks s (cmdDone p a s) := cmdEnd_keeps ..
theorem cmdError_keeps (s : State) (p a code : Nat) : KeepsBlocks s (cmdError p a code s) := cmdEnd_keeps ..
theorem cmdStart_keeps (s : State) (a : Nat) : KeepsBlocks s (cmdStart a s) := rfl

/-! ### raiseBit -/

@[simp] theorem raiseBit_pending (s : State) (p b : Nat) : (raiseBit p b s).pending = s.pending := (raiseBit_keeps s p b).proj State.pending
@[simp] theorem raiseBit_now (s : State) (p b : Nat) : (raiseBit p b s).now = s.now := (raiseBit_keeps s p b).proj State.now
@[simp] theorem raiseBit_live (s : State) (p b : Nat) : (raiseBit p b s).live = s.live := (raiseBit_keeps s p b).proj State.live
@[simp] theorem raiseBit_svcEvt (s : State) (p b : Nat) : (raiseBit p b s).svcEvt = s.svcEvt := (raiseBit_keeps s p b).proj State.svcEvt
@[simp] theorem raiseBit_fab (s : State) (p b : Nat) : (raiseBit p b s).fab = s.fab := (raiseBit_keeps s p b).proj State.fab
@[simp] theorem raiseBit_jtag (s : State) (p b : Nat) : (raiseBit p b s).jtag = s.jtag := (raiseBit_keeps s p b).proj State.jtag
@[simp] theorem raiseBit_irqN (s : State) (p b : Nat) : (raiseBit p b s).irqN = s.irqN := (raiseBit_keeps s p b).proj State.irqN
@[simp] theorem raiseBit_flash (s : State) (p b : Nat) : (raiseBit p b s).flash = s.flash := (raiseBit_keeps s p b).proj State.flash
@[simp] theorem raiseBit_freeIdx (s : State) (p b : Nat) : (raiseBit p b s).freeIdx = s.freeIdx := (raiseBit_keeps s p b).proj State.freeIdx
@[simp] theorem raiseBit_sent (s : State) (p b : Nat) : (raiseBit p b s).sent = s.sent := (raiseBit_keeps s p b).proj State.sent
@[simp] theorem raiseBit_pQspi (s : State) (p b : Nat) : (raiseBit p b s).pQspi = s.pQspi := (raiseBit_keeps s p b).proj State.pQspi
@[simp] theorem raiseBit_pChain (s : State) (p b : Nat) : (raiseBit p b s).pChain = s.pChain := (raiseBit_keeps s p b).proj State.pChain
@[simp] theorem raiseBit_pUdp (s : State) (p b : Nat) : (raiseBit p b s).pUdp = s.pUdp := (raiseBit_keeps s p b).proj State.pUdp
@[simp] theorem raiseBit_pSvc (s : State) (p b : Nat) : (raiseBit p b s).pSvc = s.pSvc := (raiseBit_keeps s p b).proj State.pSvc
@[simp] theorem raiseBit_qspi (s : State) (p b : Nat) : (raiseBit p b s).qspi = s.qspi := (raiseBit_keeps s p b).proj State.qspi
@[simp] theorem raiseBit_chip (s : State) (p b : Nat) : (raiseBit p b s).chip = s.chip := (raiseBit_keeps s p b).proj State.chip
@[simp] theorem raiseBit_time (s : State) (p b : Nat) : (raiseBit p b s).time = s.time := (raiseBit_keeps s p b).proj State.time
@[simp] theorem raiseBit_pace (s : State) (p b : Nat) : (raiseBit p b s).pace = s.pace := (raiseBit_keeps s p b).proj State.pace
@[simp] theorem raiseBit_intake (s : State) (p b : Nat) : (raiseBit p b s).intake = s.intake := (raiseBit_keeps s p b).proj State.intake
@[simp] theorem raiseBit_infl (s : State) (p b : Nat) : (raiseBit p b s).infl = s.infl := (raiseBit_keeps s p b).proj State.infl
@[simp] theorem raiseBit_map (s : State) (p b : Nat) : (raiseBit p b s).map = s.map := (raiseBit_keeps s p b).proj State.map
@[simp] theorem raiseBit_delay (s : State) (p b : Nat) : (raiseBit p b s).delay = s.delay := (raiseBit_keeps s p b).proj State.delay
@[simp] theorem raiseBit_fire (s : State) (p b : Nat) : (raiseBit p b s).fire = s.fire := (raiseBit_keeps s p b).proj State.fire
@[simp] theorem raiseBit_heads (s : State) (p b : Nat) : (raiseBit p b s).heads = s.heads := (raiseBit_keeps s p b).proj State.heads
@[simp] theorem raiseBit_failed (s : State) (p b : Nat) : (raiseBit p b s).failed = s.failed := (raiseBit_keeps s p b).proj State.failed
@[simp] theorem raiseBit_web (s : State) (p b : Nat) : (raiseBit p b s).web = s.web := (raiseBit_keeps s p b).proj State.web
@[simp] theorem raiseBit_pair (s : State) (p b : Nat) : (raiseBit p b s).pair = s.pair := (raiseBit_keeps s p b).proj State.pair
@[simp] theorem raiseBit_cams (s : State) (p b : Nat) : (raiseBit p b s).cams = s.cams := (raiseBit_keeps s p b).proj State.cams
@[simp] theorem raiseBit_insp (s : State) (p b : Nat) : (raiseBit p b s).insp = s.insp := (raiseBit_keeps s p b).proj State.insp
@[simp] theorem raiseBit_trav (s : State) (p b : Nat) : (raiseBit p b s).trav = s.trav := (raiseBit_keeps s p b).proj State.trav
@[simp] theorem raiseBit_lanes (s : State) (p b : Nat) : (raiseBit p b s).lanes = s.lanes := (raiseBit_keeps s p b).proj State.lanes
@[simp] theorem raiseBit_chain (s : State) (p b : Nat) : (raiseBit p b s).chain = s.chain := (raiseBit_keeps s p b).proj State.chain
@[simp] theorem raiseBit_eth (s : State) (p b : Nat) : (raiseBit p b s).eth = s.eth := (raiseBit_keeps s p b).proj State.eth
@[simp] theorem raiseBit_dramc (s : State) (p b : Nat) : (raiseBit p b s).dramc = s.dramc := (raiseBit_keeps s p b).proj State.dramc
@[simp] theorem raiseBit_deflE (s : State) (p b : Nat) : (raiseBit p b s).deflE = s.deflE := (raiseBit_keeps s p b).proj State.deflE
@[simp] theorem raiseBit_loop (s : State) (p b : Nat) : (raiseBit p b s).loop = s.loop := (raiseBit_keeps s p b).proj State.loop
@[simp] theorem raiseBit_axes (s : State) (p b : Nat) : (raiseBit p b s).axes = s.axes := (raiseBit_keeps s p b).proj State.axes
@[simp] theorem raiseBit_tally (s : State) (p b : Nat) : (raiseBit p b s).tally = s.tally := (raiseBit_keeps s p b).proj State.tally
@[simp] theorem raiseBit_svc (s : State) (p b : Nat) : (raiseBit p b s).svc = s.svc := (raiseBit_keeps s p b).proj State.svc
@[simp] theorem raiseBit_dbg (s : State) (p b : Nat) : (raiseBit p b s).dbg = s.dbg := (raiseBit_keeps s p b).proj State.dbg
@[simp] theorem raiseBit_heldInReset (s : State) (p b : Nat) (r : Nat) : (raiseBit p b s).heldInReset r = s.heldInReset r := (raiseBit_keeps s p b).proj (fun t : State => t.heldInReset r)
@[simp] theorem raiseBit_released (s : State) (p b : Nat) (r : Nat) : (raiseBit p b s).released r = s.released r := (raiseBit_keeps s p b).proj (fun t : State => t.released r)

/-! ### cntInc -/

@[simp] theorem cntInc_pending (s : State) (p a : Nat) : (cntInc p a s).pending = s.pending := (cntInc_keeps s p a).proj State.pending
@[simp] theorem cntInc_now (s : State) (p a : Nat) : (cntInc p a s).now = s.now := (cntInc_keeps s p a).proj State.now
@[simp] theorem cntInc_live (s : State) (p a : Nat) : (cntInc p a s).live = s.live := (cntInc_keeps s p a).proj State.live
@[simp] theorem cntInc_svcEvt (s : State) (p a : Nat) : (cntInc p a s).svcEvt = s.svcEvt := (cntInc_keeps s p a).proj State.svcEvt
@[simp] theorem cntInc_fab (s : State) (p a : Nat) : (cntInc p a s).fab = s.fab := (cntInc_keeps s p a).proj State.fab
@[simp] theorem cntInc_jtag (s : State) (p a : Nat) : (cntInc p a s).jtag = s.jtag := (cntInc_keeps s p a).proj State.jtag
@[simp] theorem cntInc_irqN (s : State) (p a : Nat) : (cntInc p a s).irqN = s.irqN := (cntInc_keeps s p a).proj State.irqN
@[simp] theorem cntInc_flash (s : State) (p a : Nat) : (cntInc p a s).flash = s.flash := (cntInc_keeps s p a).proj State.flash
@[simp] theorem cntInc_freeIdx (s : State) (p a : Nat) : (cntInc p a s).freeIdx = s.freeIdx := (cntInc_keeps s p a).proj State.freeIdx
@[simp] theorem cntInc_sent (s : State) (p a : Nat) : (cntInc p a s).sent = s.sent := (cntInc_keeps s p a).proj State.sent
@[simp] theorem cntInc_pQspi (s : State) (p a : Nat) : (cntInc p a s).pQspi = s.pQspi := (cntInc_keeps s p a).proj State.pQspi
@[simp] theorem cntInc_pChain (s : State) (p a : Nat) : (cntInc p a s).pChain = s.pChain := (cntInc_keeps s p a).proj State.pChain
@[simp] theorem cntInc_pUdp (s : State) (p a : Nat) : (cntInc p a s).pUdp = s.pUdp := (cntInc_keeps s p a).proj State.pUdp
@[simp] theorem cntInc_pSvc (s : State) (p a : Nat) : (cntInc p a s).pSvc = s.pSvc := (cntInc_keeps s p a).proj State.pSvc
@[simp] theorem cntInc_qspi (s : State) (p a : Nat) : (cntInc p a s).qspi = s.qspi := (cntInc_keeps s p a).proj State.qspi
@[simp] theorem cntInc_chip (s : State) (p a : Nat) : (cntInc p a s).chip = s.chip := (cntInc_keeps s p a).proj State.chip
@[simp] theorem cntInc_time (s : State) (p a : Nat) : (cntInc p a s).time = s.time := (cntInc_keeps s p a).proj State.time
@[simp] theorem cntInc_pace (s : State) (p a : Nat) : (cntInc p a s).pace = s.pace := (cntInc_keeps s p a).proj State.pace
@[simp] theorem cntInc_intake (s : State) (p a : Nat) : (cntInc p a s).intake = s.intake := (cntInc_keeps s p a).proj State.intake
@[simp] theorem cntInc_infl (s : State) (p a : Nat) : (cntInc p a s).infl = s.infl := (cntInc_keeps s p a).proj State.infl
@[simp] theorem cntInc_map (s : State) (p a : Nat) : (cntInc p a s).map = s.map := (cntInc_keeps s p a).proj State.map
@[simp] theorem cntInc_delay (s : State) (p a : Nat) : (cntInc p a s).delay = s.delay := (cntInc_keeps s p a).proj State.delay
@[simp] theorem cntInc_fire (s : State) (p a : Nat) : (cntInc p a s).fire = s.fire := (cntInc_keeps s p a).proj State.fire
@[simp] theorem cntInc_heads (s : State) (p a : Nat) : (cntInc p a s).heads = s.heads := (cntInc_keeps s p a).proj State.heads
@[simp] theorem cntInc_failed (s : State) (p a : Nat) : (cntInc p a s).failed = s.failed := (cntInc_keeps s p a).proj State.failed
@[simp] theorem cntInc_web (s : State) (p a : Nat) : (cntInc p a s).web = s.web := (cntInc_keeps s p a).proj State.web
@[simp] theorem cntInc_pair (s : State) (p a : Nat) : (cntInc p a s).pair = s.pair := (cntInc_keeps s p a).proj State.pair
@[simp] theorem cntInc_cams (s : State) (p a : Nat) : (cntInc p a s).cams = s.cams := (cntInc_keeps s p a).proj State.cams
@[simp] theorem cntInc_insp (s : State) (p a : Nat) : (cntInc p a s).insp = s.insp := (cntInc_keeps s p a).proj State.insp
@[simp] theorem cntInc_trav (s : State) (p a : Nat) : (cntInc p a s).trav = s.trav := (cntInc_keeps s p a).proj State.trav
@[simp] theorem cntInc_lanes (s : State) (p a : Nat) : (cntInc p a s).lanes = s.lanes := (cntInc_keeps s p a).proj State.lanes
@[simp] theorem cntInc_chain (s : State) (p a : Nat) : (cntInc p a s).chain = s.chain := (cntInc_keeps s p a).proj State.chain
@[simp] theorem cntInc_eth (s : State) (p a : Nat) : (cntInc p a s).eth = s.eth := (cntInc_keeps s p a).proj State.eth
@[simp] theorem cntInc_dramc (s : State) (p a : Nat) : (cntInc p a s).dramc = s.dramc := (cntInc_keeps s p a).proj State.dramc
@[simp] theorem cntInc_deflE (s : State) (p a : Nat) : (cntInc p a s).deflE = s.deflE := (cntInc_keeps s p a).proj State.deflE
@[simp] theorem cntInc_loop (s : State) (p a : Nat) : (cntInc p a s).loop = s.loop := (cntInc_keeps s p a).proj State.loop
@[simp] theorem cntInc_axes (s : State) (p a : Nat) : (cntInc p a s).axes = s.axes := (cntInc_keeps s p a).proj State.axes
@[simp] theorem cntInc_tally (s : State) (p a : Nat) : (cntInc p a s).tally = s.tally := (cntInc_keeps s p a).proj State.tally
@[simp] theorem cntInc_svc (s : State) (p a : Nat) : (cntInc p a s).svc = s.svc := (cntInc_keeps s p a).proj State.svc
@[simp] theorem cntInc_dbg (s : State) (p a : Nat) : (cntInc p a s).dbg = s.dbg := (cntInc_keeps s p a).proj State.dbg
@[simp] theorem cntInc_heldInReset (s : State) (p a : Nat) (r : Nat) : (cntInc p a s).heldInReset r = s.heldInReset r := (cntInc_keeps s p a).proj (fun t : State => t.heldInReset r)
@[simp] theorem cntInc_released (s : State) (p a : Nat) (r : Nat) : (cntInc p a s).released r = s.released r := (cntInc_keeps s p a).proj (fun t : State => t.released r)

/-! ### tracePut -/

@[simp] theorem tracePut_pending (s : State) (p k q b x d : Nat) : (tracePut p k q b x d s).pending = s.pending := (tracePut_keeps s p k q b x d).proj State.pending
@[simp] theorem tracePut_now (s : State) (p k q b x d : Nat) : (tracePut p k q b x d s).now = s.now := (tracePut_keeps s p k q b x d).proj State.now
@[simp] theorem tracePut_live (s : State) (p k q b x d : Nat) : (tracePut p k q b x d s).live = s.live := (tracePut_keeps s p k q b x d).proj State.live
@[simp] theorem tracePut_svcEvt (s : State) (p k q b x d : Nat) : (tracePut p k q b x d s).svcEvt = s.svcEvt := (tracePut_keeps s p k q b x d).proj State.svcEvt
@[simp] theorem tracePut_fab (s : State) (p k q b x d : Nat) : (tracePut p k q b x d s).fab = s.fab := (tracePut_keeps s p k q b x d).proj State.fab
@[simp] theorem tracePut_jtag (s : State) (p k q b x d : Nat) : (tracePut p k q b x d s).jtag = s.jtag := (tracePut_keeps s p k q b x d).proj State.jtag
@[simp] theorem tracePut_irqN (s : State) (p k q b x d : Nat) : (tracePut p k q b x d s).irqN = s.irqN := (tracePut_keeps s p k q b x d).proj State.irqN
@[simp] theorem tracePut_flash (s : State) (p k q b x d : Nat) : (tracePut p k q b x d s).flash = s.flash := (tracePut_keeps s p k q b x d).proj State.flash
@[simp] theorem tracePut_freeIdx (s : State) (p k q b x d : Nat) : (tracePut p k q b x d s).freeIdx = s.freeIdx := (tracePut_keeps s p k q b x d).proj State.freeIdx
@[simp] theorem tracePut_sent (s : State) (p k q b x d : Nat) : (tracePut p k q b x d s).sent = s.sent := (tracePut_keeps s p k q b x d).proj State.sent
@[simp] theorem tracePut_pQspi (s : State) (p k q b x d : Nat) : (tracePut p k q b x d s).pQspi = s.pQspi := (tracePut_keeps s p k q b x d).proj State.pQspi
@[simp] theorem tracePut_pChain (s : State) (p k q b x d : Nat) : (tracePut p k q b x d s).pChain = s.pChain := (tracePut_keeps s p k q b x d).proj State.pChain
@[simp] theorem tracePut_pUdp (s : State) (p k q b x d : Nat) : (tracePut p k q b x d s).pUdp = s.pUdp := (tracePut_keeps s p k q b x d).proj State.pUdp
@[simp] theorem tracePut_pSvc (s : State) (p k q b x d : Nat) : (tracePut p k q b x d s).pSvc = s.pSvc := (tracePut_keeps s p k q b x d).proj State.pSvc
@[simp] theorem tracePut_qspi (s : State) (p k q b x d : Nat) : (tracePut p k q b x d s).qspi = s.qspi := (tracePut_keeps s p k q b x d).proj State.qspi
@[simp] theorem tracePut_chip (s : State) (p k q b x d : Nat) : (tracePut p k q b x d s).chip = s.chip := (tracePut_keeps s p k q b x d).proj State.chip
@[simp] theorem tracePut_time (s : State) (p k q b x d : Nat) : (tracePut p k q b x d s).time = s.time := (tracePut_keeps s p k q b x d).proj State.time
@[simp] theorem tracePut_pace (s : State) (p k q b x d : Nat) : (tracePut p k q b x d s).pace = s.pace := (tracePut_keeps s p k q b x d).proj State.pace
@[simp] theorem tracePut_intake (s : State) (p k q b x d : Nat) : (tracePut p k q b x d s).intake = s.intake := (tracePut_keeps s p k q b x d).proj State.intake
@[simp] theorem tracePut_infl (s : State) (p k q b x d : Nat) : (tracePut p k q b x d s).infl = s.infl := (tracePut_keeps s p k q b x d).proj State.infl
@[simp] theorem tracePut_map (s : State) (p k q b x d : Nat) : (tracePut p k q b x d s).map = s.map := (tracePut_keeps s p k q b x d).proj State.map
@[simp] theorem tracePut_delay (s : State) (p k q b x d : Nat) : (tracePut p k q b x d s).delay = s.delay := (tracePut_keeps s p k q b x d).proj State.delay
@[simp] theorem tracePut_fire (s : State) (p k q b x d : Nat) : (tracePut p k q b x d s).fire = s.fire := (tracePut_keeps s p k q b x d).proj State.fire
@[simp] theorem tracePut_heads (s : State) (p k q b x d : Nat) : (tracePut p k q b x d s).heads = s.heads := (tracePut_keeps s p k q b x d).proj State.heads
@[simp] theorem tracePut_failed (s : State) (p k q b x d : Nat) : (tracePut p k q b x d s).failed = s.failed := (tracePut_keeps s p k q b x d).proj State.failed
@[simp] theorem tracePut_web (s : State) (p k q b x d : Nat) : (tracePut p k q b x d s).web = s.web := (tracePut_keeps s p k q b x d).proj State.web
@[simp] theorem tracePut_pair (s : State) (p k q b x d : Nat) : (tracePut p k q b x d s).pair = s.pair := (tracePut_keeps s p k q b x d).proj State.pair
@[simp] theorem tracePut_cams (s : State) (p k q b x d : Nat) : (tracePut p k q b x d s).cams = s.cams := (tracePut_keeps s p k q b x d).proj State.cams
@[simp] theorem tracePut_insp (s : State) (p k q b x d : Nat) : (tracePut p k q b x d s).insp = s.insp := (tracePut_keeps s p k q b x d).proj State.insp
@[simp] theorem tracePut_trav (s : State) (p k q b x d : Nat) : (tracePut p k q b x d s).trav = s.trav := (tracePut_keeps s p k q b x d).proj State.trav
@[simp] theorem tracePut_lanes (s : State) (p k q b x d : Nat) : (tracePut p k q b x d s).lanes = s.lanes := (tracePut_keeps s p k q b x d).proj State.lanes
@[simp] theorem tracePut_chain (s : State) (p k q b x d : Nat) : (tracePut p k q b x d s).chain = s.chain := (tracePut_keeps s p k q b x d).proj State.chain
@[simp] theorem tracePut_eth (s : State) (p k q b x d : Nat) : (tracePut p k q b x d s).eth = s.eth := (tracePut_keeps s p k q b x d).proj State.eth
@[simp] theorem tracePut_dramc (s : State) (p k q b x d : Nat) : (tracePut p k q b x d s).dramc = s.dramc := (tracePut_keeps s p k q b x d).proj State.dramc
@[simp] theorem tracePut_deflE (s : State) (p k q b x d : Nat) : (tracePut p k q b x d s).deflE = s.deflE := (tracePut_keeps s p k q b x d).proj State.deflE
@[simp] theorem tracePut_loop (s : State) (p k q b x d : Nat) : (tracePut p k q b x d s).loop = s.loop := (tracePut_keeps s p k q b x d).proj State.loop
@[simp] theorem tracePut_axes (s : State) (p k q b x d : Nat) : (tracePut p k q b x d s).axes = s.axes := (tracePut_keeps s p k q b x d).proj State.axes
@[simp] theorem tracePut_tally (s : State) (p k q b x d : Nat) : (tracePut p k q b x d s).tally = s.tally := (tracePut_keeps s p k q b x d).proj State.tally
@[simp] theorem tracePut_svc (s : State) (p k q b x d : Nat) : (tracePut p k q b x d s).svc = s.svc := (tracePut_keeps s p k q b x d).proj State.svc
@[simp] theorem tracePut_dbg (s : State) (p k q b x d : Nat) : (tracePut p k q b x d s).dbg = s.dbg := (tracePut_keeps s p k q b x d).proj State.dbg
@[simp] theorem tracePut_heldInReset (s : State) (p k q b x d : Nat) (r : Nat) : (tracePut p k q b x d s).heldInReset r = s.heldInReset r := (tracePut_keeps s p k q b x d).proj (fun t : State => t.heldInReset r)
@[simp] theorem tracePut_released (s : State) (p k q b x d : Nat) (r : Nat) : (tracePut p k q b x d s).released r = s.released r := (tracePut_keeps s p k q b x d).proj (fun t : State => t.released r)

/-! ### raise -/

@[simp] theorem raise_pending (s : State) (p b : Nat) : (raise p b s).pending = s.pending := (raise_keeps s p b).proj State.pending
@[simp] theorem raise_now (s : State) (p b : Nat) : (raise p b s).now = s.now := (raise_keeps s p b).proj State.now
@[simp] theorem raise_live (s : State) (p b : Nat) : (raise p b s).live = s.live := (raise_keeps s p b).proj State.live
@[simp] theorem raise_svcEvt (s : State) (p b : Nat) : (raise p b s).svcEvt = s.svcEvt := (raise_keeps s p b).proj State.svcEvt
@[simp] theorem raise_fab (s : State) (p b : Nat) : (raise p b s).fab = s.fab := (raise_keeps s p b).proj State.fab
@[simp] theorem raise_jtag (s : State) (p b : Nat) : (raise p b s).jtag = s.jtag := (raise_keeps s p b).proj State.jtag
@[simp] theorem raise_irqN (s : State) (p b : Nat) : (raise p b s).irqN = s.irqN := (raise_keeps s p b).proj State.irqN
@[simp] theorem raise_flash (s : State) (p b : Nat) : (raise p b s).flash = s.flash := (raise_keeps s p b).proj State.flash
@[simp] theorem raise_freeIdx (s : State) (p b : Nat) : (raise p b s).freeIdx = s.freeIdx := (raise_keeps s p b).proj State.freeIdx
@[simp] theorem raise_sent (s : State) (p b : Nat) : (raise p b s).sent = s.sent := (raise_keeps s p b).proj State.sent
@[simp] theorem raise_pQspi (s : State) (p b : Nat) : (raise p b s).pQspi = s.pQspi := (raise_keeps s p b).proj State.pQspi
@[simp] theorem raise_pChain (s : State) (p b : Nat) : (raise p b s).pChain = s.pChain := (raise_keeps s p b).proj State.pChain
@[simp] theorem raise_pUdp (s : State) (p b : Nat) : (raise p b s).pUdp = s.pUdp := (raise_keeps s p b).proj State.pUdp
@[simp] theorem raise_pSvc (s : State) (p b : Nat) : (raise p b s).pSvc = s.pSvc := (raise_keeps s p b).proj State.pSvc
@[simp] theorem raise_qspi (s : State) (p b : Nat) : (raise p b s).qspi = s.qspi := (raise_keeps s p b).proj State.qspi
@[simp] theorem raise_chip (s : State) (p b : Nat) : (raise p b s).chip = s.chip := (raise_keeps s p b).proj State.chip
@[simp] theorem raise_time (s : State) (p b : Nat) : (raise p b s).time = s.time := (raise_keeps s p b).proj State.time
@[simp] theorem raise_pace (s : State) (p b : Nat) : (raise p b s).pace = s.pace := (raise_keeps s p b).proj State.pace
@[simp] theorem raise_intake (s : State) (p b : Nat) : (raise p b s).intake = s.intake := (raise_keeps s p b).proj State.intake
@[simp] theorem raise_infl (s : State) (p b : Nat) : (raise p b s).infl = s.infl := (raise_keeps s p b).proj State.infl
@[simp] theorem raise_map (s : State) (p b : Nat) : (raise p b s).map = s.map := (raise_keeps s p b).proj State.map
@[simp] theorem raise_delay (s : State) (p b : Nat) : (raise p b s).delay = s.delay := (raise_keeps s p b).proj State.delay
@[simp] theorem raise_fire (s : State) (p b : Nat) : (raise p b s).fire = s.fire := (raise_keeps s p b).proj State.fire
@[simp] theorem raise_heads (s : State) (p b : Nat) : (raise p b s).heads = s.heads := (raise_keeps s p b).proj State.heads
@[simp] theorem raise_failed (s : State) (p b : Nat) : (raise p b s).failed = s.failed := (raise_keeps s p b).proj State.failed
@[simp] theorem raise_web (s : State) (p b : Nat) : (raise p b s).web = s.web := (raise_keeps s p b).proj State.web
@[simp] theorem raise_pair (s : State) (p b : Nat) : (raise p b s).pair = s.pair := (raise_keeps s p b).proj State.pair
@[simp] theorem raise_cams (s : State) (p b : Nat) : (raise p b s).cams = s.cams := (raise_keeps s p b).proj State.cams
@[simp] theorem raise_insp (s : State) (p b : Nat) : (raise p b s).insp = s.insp := (raise_keeps s p b).proj State.insp
@[simp] theorem raise_trav (s : State) (p b : Nat) : (raise p b s).trav = s.trav := (raise_keeps s p b).proj State.trav
@[simp] theorem raise_lanes (s : State) (p b : Nat) : (raise p b s).lanes = s.lanes := (raise_keeps s p b).proj State.lanes
@[simp] theorem raise_chain (s : State) (p b : Nat) : (raise p b s).chain = s.chain := (raise_keeps s p b).proj State.chain
@[simp] theorem raise_eth (s : State) (p b : Nat) : (raise p b s).eth = s.eth := (raise_keeps s p b).proj State.eth
@[simp] theorem raise_dramc (s : State) (p b : Nat) : (raise p b s).dramc = s.dramc := (raise_keeps s p b).proj State.dramc
@[simp] theorem raise_deflE (s : State) (p b : Nat) : (raise p b s).deflE = s.deflE := (raise_keeps s p b).proj State.deflE
@[simp] theorem raise_loop (s : State) (p b : Nat) : (raise p b s).loop = s.loop := (raise_keeps s p b).proj State.loop
@[simp] theorem raise_axes (s : State) (p b : Nat) : (raise p b s).axes = s.axes := (raise_keeps s p b).proj State.axes
@[simp] theorem raise_tally (s : State) (p b : Nat) : (raise p b s).tally = s.tally := (raise_keeps s p b).proj State.tally
@[simp] theorem raise_svc (s : State) (p b : Nat) : (raise p b s).svc = s.svc := (raise_keeps s p b).proj State.svc
@[simp] theorem raise_dbg (s : State) (p b : Nat) : (raise p b s).dbg = s.dbg := (raise_keeps s p b).proj State.dbg
@[simp] theorem raise_heldInReset (s : State) (p b : Nat) (r : Nat) : (raise p b s).heldInReset r = s.heldInReset r := (raise_keeps s p b).proj (fun t : State => t.heldInReset r)
@[simp] theorem raise_released (s : State) (p b : Nat) (r : Nat) : (raise p b s).released r = s.released r := (raise_keeps s p b).proj (fun t : State => t.released r)

/-! ### config -/

@[simp] theorem config_pending (s : State) (p : Nat) : (config p s).pending = s.pending := (config_keeps s p).proj State.pending
@[simp] theorem config_now (s : State) (p : Nat) : (config p s).now = s.now := (config_keeps s p).proj State.now
@[simp] theorem config_live (s : State) (p : Nat) : (config p s).live = s.live := (config_keeps s p).proj State.live
@[simp] theorem config_svcEvt (s : State) (p : Nat) : (config p s).svcEvt = s.svcEvt := (config_keeps s p).proj State.svcEvt
@[simp] theorem config_fab (s : State) (p : Nat) : (config p s).fab = s.fab := (config_keeps s p).proj State.fab
@[simp] theorem config_jtag (s : State) (p : Nat) : (config p s).jtag = s.jtag := (config_keeps s p).proj State.jtag
@[simp] theorem config_irqN (s : State) (p : Nat) : (config p s).irqN = s.irqN := (config_keeps s p).proj State.irqN
@[simp] theorem config_flash (s : State) (p : Nat) : (config p s).flash = s.flash := (config_keeps s p).proj State.flash
@[simp] theorem config_freeIdx (s : State) (p : Nat) : (config p s).freeIdx = s.freeIdx := (config_keeps s p).proj State.freeIdx
@[simp] theorem config_sent (s : State) (p : Nat) : (config p s).sent = s.sent := (config_keeps s p).proj State.sent
@[simp] theorem config_pQspi (s : State) (p : Nat) : (config p s).pQspi = s.pQspi := (config_keeps s p).proj State.pQspi
@[simp] theorem config_pChain (s : State) (p : Nat) : (config p s).pChain = s.pChain := (config_keeps s p).proj State.pChain
@[simp] theorem config_pUdp (s : State) (p : Nat) : (config p s).pUdp = s.pUdp := (config_keeps s p).proj State.pUdp
@[simp] theorem config_pSvc (s : State) (p : Nat) : (config p s).pSvc = s.pSvc := (config_keeps s p).proj State.pSvc
@[simp] theorem config_qspi (s : State) (p : Nat) : (config p s).qspi = s.qspi := (config_keeps s p).proj State.qspi
@[simp] theorem config_chip (s : State) (p : Nat) : (config p s).chip = s.chip := (config_keeps s p).proj State.chip
@[simp] theorem config_time (s : State) (p : Nat) : (config p s).time = s.time := (config_keeps s p).proj State.time
@[simp] theorem config_pace (s : State) (p : Nat) : (config p s).pace = s.pace := (config_keeps s p).proj State.pace
@[simp] theorem config_intake (s : State) (p : Nat) : (config p s).intake = s.intake := (config_keeps s p).proj State.intake
@[simp] theorem config_infl (s : State) (p : Nat) : (config p s).infl = s.infl := (config_keeps s p).proj State.infl
@[simp] theorem config_map (s : State) (p : Nat) : (config p s).map = s.map := (config_keeps s p).proj State.map
@[simp] theorem config_delay (s : State) (p : Nat) : (config p s).delay = s.delay := (config_keeps s p).proj State.delay
@[simp] theorem config_fire (s : State) (p : Nat) : (config p s).fire = s.fire := (config_keeps s p).proj State.fire
@[simp] theorem config_heads (s : State) (p : Nat) : (config p s).heads = s.heads := (config_keeps s p).proj State.heads
@[simp] theorem config_failed (s : State) (p : Nat) : (config p s).failed = s.failed := (config_keeps s p).proj State.failed
@[simp] theorem config_web (s : State) (p : Nat) : (config p s).web = s.web := (config_keeps s p).proj State.web
@[simp] theorem config_pair (s : State) (p : Nat) : (config p s).pair = s.pair := (config_keeps s p).proj State.pair
@[simp] theorem config_cams (s : State) (p : Nat) : (config p s).cams = s.cams := (config_keeps s p).proj State.cams
@[simp] theorem config_insp (s : State) (p : Nat) : (config p s).insp = s.insp := (config_keeps s p).proj State.insp
@[simp] theorem config_trav (s : State) (p : Nat) : (config p s).trav = s.trav := (config_keeps s p).proj State.trav
@[simp] theorem config_lanes (s : State) (p : Nat) : (config p s).lanes = s.lanes := (config_keeps s p).proj State.lanes
@[simp] theorem config_chain (s : State) (p : Nat) : (config p s).chain = s.chain := (config_keeps s p).proj State.chain
@[simp] theorem config_eth (s : State) (p : Nat) : (config p s).eth = s.eth := (config_keeps s p).proj State.eth
@[simp] theorem config_dramc (s : State) (p : Nat) : (config p s).dramc = s.dramc := (config_keeps s p).proj State.dramc
@[simp] theorem config_deflE (s : State) (p : Nat) : (config p s).deflE = s.deflE := (config_keeps s p).proj State.deflE
@[simp] theorem config_loop (s : State) (p : Nat) : (config p s).loop = s.loop := (config_keeps s p).proj State.loop
@[simp] theorem config_axes (s : State) (p : Nat) : (config p s).axes = s.axes := (config_keeps s p).proj State.axes
@[simp] theorem config_tally (s : State) (p : Nat) : (config p s).tally = s.tally := (config_keeps s p).proj State.tally
@[simp] theorem config_svc (s : State) (p : Nat) : (config p s).svc = s.svc := (config_keeps s p).proj State.svc
@[simp] theorem config_dbg (s : State) (p : Nat) : (config p s).dbg = s.dbg := (config_keeps s p).proj State.dbg
@[simp] theorem config_heldInReset (s : State) (p : Nat) (r : Nat) : (config p s).heldInReset r = s.heldInReset r := (config_keeps s p).proj (fun t : State => t.heldInReset r)
@[simp] theorem config_released (s : State) (p : Nat) (r : Nat) : (config p s).released r = s.released r := (config_keeps s p).proj (fun t : State => t.released r)

/-! ### count -/

@[simp] theorem count_pending (s : State) (p a : Nat) : (count p a s).pending = s.pending := (count_keeps s p a).proj State.pending
@[simp] theorem count_now (s : State) (p a : Nat) : (count p a s).now = s.now := (count_keeps s p a).proj State.now
@[simp] theorem count_live (s : State) (p a : Nat) : (count p a s).live = s.live := (count_keeps s p a).proj State.live
@[simp] theorem count_svcEvt (s : State) (p a : Nat) : (count p a s).svcEvt = s.svcEvt := (count_keeps s p a).proj State.svcEvt
@[simp] theorem count_fab (s : State) (p a : Nat) : (count p a s).fab = s.fab := (count_keeps s p a).proj State.fab
@[simp] theorem count_jtag (s : State) (p a : Nat) : (count p a s).jtag = s.jtag := (count_keeps s p a).proj State.jtag
@[simp] theorem count_irqN (s : State) (p a : Nat) : (count p a s).irqN = s.irqN := (count_keeps s p a).proj State.irqN
@[simp] theorem count_flash (s : State) (p a : Nat) : (count p a s).flash = s.flash := (count_keeps s p a).proj State.flash
@[simp] theorem count_freeIdx (s : State) (p a : Nat) : (count p a s).freeIdx = s.freeIdx := (count_keeps s p a).proj State.freeIdx
@[simp] theorem count_sent (s : State) (p a : Nat) : (count p a s).sent = s.sent := (count_keeps s p a).proj State.sent
@[simp] theorem count_pQspi (s : State) (p a : Nat) : (count p a s).pQspi = s.pQspi := (count_keeps s p a).proj State.pQspi
@[simp] theorem count_pChain (s : State) (p a : Nat) : (count p a s).pChain = s.pChain := (count_keeps s p a).proj State.pChain
@[simp] theorem count_pUdp (s : State) (p a : Nat) : (count p a s).pUdp = s.pUdp := (count_keeps s p a).proj State.pUdp
@[simp] theorem count_pSvc (s : State) (p a : Nat) : (count p a s).pSvc = s.pSvc := (count_keeps s p a).proj State.pSvc
@[simp] theorem count_qspi (s : State) (p a : Nat) : (count p a s).qspi = s.qspi := (count_keeps s p a).proj State.qspi
@[simp] theorem count_chip (s : State) (p a : Nat) : (count p a s).chip = s.chip := (count_keeps s p a).proj State.chip
@[simp] theorem count_time (s : State) (p a : Nat) : (count p a s).time = s.time := (count_keeps s p a).proj State.time
@[simp] theorem count_pace (s : State) (p a : Nat) : (count p a s).pace = s.pace := (count_keeps s p a).proj State.pace
@[simp] theorem count_intake (s : State) (p a : Nat) : (count p a s).intake = s.intake := (count_keeps s p a).proj State.intake
@[simp] theorem count_infl (s : State) (p a : Nat) : (count p a s).infl = s.infl := (count_keeps s p a).proj State.infl
@[simp] theorem count_map (s : State) (p a : Nat) : (count p a s).map = s.map := (count_keeps s p a).proj State.map
@[simp] theorem count_delay (s : State) (p a : Nat) : (count p a s).delay = s.delay := (count_keeps s p a).proj State.delay
@[simp] theorem count_fire (s : State) (p a : Nat) : (count p a s).fire = s.fire := (count_keeps s p a).proj State.fire
@[simp] theorem count_heads (s : State) (p a : Nat) : (count p a s).heads = s.heads := (count_keeps s p a).proj State.heads
@[simp] theorem count_failed (s : State) (p a : Nat) : (count p a s).failed = s.failed := (count_keeps s p a).proj State.failed
@[simp] theorem count_web (s : State) (p a : Nat) : (count p a s).web = s.web := (count_keeps s p a).proj State.web
@[simp] theorem count_pair (s : State) (p a : Nat) : (count p a s).pair = s.pair := (count_keeps s p a).proj State.pair
@[simp] theorem count_cams (s : State) (p a : Nat) : (count p a s).cams = s.cams := (count_keeps s p a).proj State.cams
@[simp] theorem count_insp (s : State) (p a : Nat) : (count p a s).insp = s.insp := (count_keeps s p a).proj State.insp
@[simp] theorem count_trav (s : State) (p a : Nat) : (count p a s).trav = s.trav := (count_keeps s p a).proj State.trav
@[simp] theorem count_lanes (s : State) (p a : Nat) : (count p a s).lanes = s.lanes := (count_keeps s p a).proj State.lanes
@[simp] theorem count_chain (s : State) (p a : Nat) : (count p a s).chain = s.chain := (count_keeps s p a).proj State.chain
@[simp] theorem count_eth (s : State) (p a : Nat) : (count p a s).eth = s.eth := (count_keeps s p a).proj State.eth
@[simp] theorem count_dramc (s : State) (p a : Nat) : (count p a s).dramc = s.dramc := (count_keeps s p a).proj State.dramc
@[simp] theorem count_deflE (s : State) (p a : Nat) : (count p a s).deflE = s.deflE := (count_keeps s p a).proj State.deflE
@[simp] theorem count_loop (s : State) (p a : Nat) : (count p a s).loop = s.loop := (count_keeps s p a).proj State.loop
@[simp] theorem count_axes (s : State) (p a : Nat) : (count p a s).axes = s.axes := (count_keeps s p a).proj State.axes
@[simp] theorem count_tally (s : State) (p a : Nat) : (count p a s).tally = s.tally := (count_keeps s p a).proj State.tally
@[simp] theorem count_svc (s : State) (p a : Nat) : (count p a s).svc = s.svc := (count_keeps s p a).proj State.svc
@[simp] theorem count_dbg (s : State) (p a : Nat) : (count p a s).dbg = s.dbg := (count_keeps s p a).proj State.dbg
@[simp] theorem count_heldInReset (s : State) (p a : Nat) (r : Nat) : (count p a s).heldInReset r = s.heldInReset r := (count_keeps s p a).proj (fun t : State => t.heldInReset r)
@[simp] theorem count_released (s : State) (p a : Nat) (r : Nat) : (count p a s).released r = s.released r := (count_keeps s p a).proj (fun t : State => t.released r)

/-! ### errInc -/

@[simp] theorem errInc_pending (s : State) (p k : Nat) : (errInc p k s).pending = s.pending := (errInc_keeps s p k).proj State.pending
@[simp] theorem errInc_now (s : State) (p k : Nat) : (errInc p k s).now = s.now := (errInc_keeps s p k).proj State.now
@[simp] theorem errInc_live (s : State) (p k : Nat) : (errInc p k s).live = s.live := (errInc_keeps s p k).proj State.live
@[simp] theorem errInc_svcEvt (s : State) (p k : Nat) : (errInc p k s).svcEvt = s.svcEvt := (errInc_keeps s p k).proj State.svcEvt
@[simp] theorem errInc_fab (s : State) (p k : Nat) : (errInc p k s).fab = s.fab := (errInc_keeps s p k).proj State.fab
@[simp] theorem errInc_jtag (s : State) (p k : Nat) : (errInc p k s).jtag = s.jtag := (errInc_keeps s p k).proj State.jtag
@[simp] theorem errInc_irqN (s : State) (p k : Nat) : (errInc p k s).irqN = s.irqN := (errInc_keeps s p k).proj State.irqN
@[simp] theorem errInc_flash (s : State) (p k : Nat) : (errInc p k s).flash = s.flash := (errInc_keeps s p k).proj State.flash
@[simp] theorem errInc_freeIdx (s : State) (p k : Nat) : (errInc p k s).freeIdx = s.freeIdx := (errInc_keeps s p k).proj State.freeIdx
@[simp] theorem errInc_sent (s : State) (p k : Nat) : (errInc p k s).sent = s.sent := (errInc_keeps s p k).proj State.sent
@[simp] theorem errInc_pQspi (s : State) (p k : Nat) : (errInc p k s).pQspi = s.pQspi := (errInc_keeps s p k).proj State.pQspi
@[simp] theorem errInc_pChain (s : State) (p k : Nat) : (errInc p k s).pChain = s.pChain := (errInc_keeps s p k).proj State.pChain
@[simp] theorem errInc_pUdp (s : State) (p k : Nat) : (errInc p k s).pUdp = s.pUdp := (errInc_keeps s p k).proj State.pUdp
@[simp] theorem errInc_pSvc (s : State) (p k : Nat) : (errInc p k s).pSvc = s.pSvc := (errInc_keeps s p k).proj State.pSvc
@[simp] theorem errInc_qspi (s : State) (p k : Nat) : (errInc p k s).qspi = s.qspi := (errInc_keeps s p k).proj State.qspi
@[simp] theorem errInc_chip (s : State) (p k : Nat) : (errInc p k s).chip = s.chip := (errInc_keeps s p k).proj State.chip
@[simp] theorem errInc_time (s : State) (p k : Nat) : (errInc p k s).time = s.time := (errInc_keeps s p k).proj State.time
@[simp] theorem errInc_pace (s : State) (p k : Nat) : (errInc p k s).pace = s.pace := (errInc_keeps s p k).proj State.pace
@[simp] theorem errInc_intake (s : State) (p k : Nat) : (errInc p k s).intake = s.intake := (errInc_keeps s p k).proj State.intake
@[simp] theorem errInc_infl (s : State) (p k : Nat) : (errInc p k s).infl = s.infl := (errInc_keeps s p k).proj State.infl
@[simp] theorem errInc_map (s : State) (p k : Nat) : (errInc p k s).map = s.map := (errInc_keeps s p k).proj State.map
@[simp] theorem errInc_delay (s : State) (p k : Nat) : (errInc p k s).delay = s.delay := (errInc_keeps s p k).proj State.delay
@[simp] theorem errInc_fire (s : State) (p k : Nat) : (errInc p k s).fire = s.fire := (errInc_keeps s p k).proj State.fire
@[simp] theorem errInc_heads (s : State) (p k : Nat) : (errInc p k s).heads = s.heads := (errInc_keeps s p k).proj State.heads
@[simp] theorem errInc_failed (s : State) (p k : Nat) : (errInc p k s).failed = s.failed := (errInc_keeps s p k).proj State.failed
@[simp] theorem errInc_web (s : State) (p k : Nat) : (errInc p k s).web = s.web := (errInc_keeps s p k).proj State.web
@[simp] theorem errInc_pair (s : State) (p k : Nat) : (errInc p k s).pair = s.pair := (errInc_keeps s p k).proj State.pair
@[simp] theorem errInc_cams (s : State) (p k : Nat) : (errInc p k s).cams = s.cams := (errInc_keeps s p k).proj State.cams
@[simp] theorem errInc_insp (s : State) (p k : Nat) : (errInc p k s).insp = s.insp := (errInc_keeps s p k).proj State.insp
@[simp] theorem errInc_trav (s : State) (p k : Nat) : (errInc p k s).trav = s.trav := (errInc_keeps s p k).proj State.trav
@[simp] theorem errInc_lanes (s : State) (p k : Nat) : (errInc p k s).lanes = s.lanes := (errInc_keeps s p k).proj State.lanes
@[simp] theorem errInc_chain (s : State) (p k : Nat) : (errInc p k s).chain = s.chain := (errInc_keeps s p k).proj State.chain
@[simp] theorem errInc_eth (s : State) (p k : Nat) : (errInc p k s).eth = s.eth := (errInc_keeps s p k).proj State.eth
@[simp] theorem errInc_dramc (s : State) (p k : Nat) : (errInc p k s).dramc = s.dramc := (errInc_keeps s p k).proj State.dramc
@[simp] theorem errInc_deflE (s : State) (p k : Nat) : (errInc p k s).deflE = s.deflE := (errInc_keeps s p k).proj State.deflE
@[simp] theorem errInc_loop (s : State) (p k : Nat) : (errInc p k s).loop = s.loop := (errInc_keeps s p k).proj State.loop
@[simp] theorem errInc_axes (s : State) (p k : Nat) : (errInc p k s).axes = s.axes := (errInc_keeps s p k).proj State.axes
@[simp] theorem errInc_tally (s : State) (p k : Nat) : (errInc p k s).tally = s.tally := (errInc_keeps s p k).proj State.tally
@[simp] theorem errInc_svc (s : State) (p k : Nat) : (errInc p k s).svc = s.svc := (errInc_keeps s p k).proj State.svc
@[simp] theorem errInc_dbg (s : State) (p k : Nat) : (errInc p k s).dbg = s.dbg := (errInc_keeps s p k).proj State.dbg
@[simp] theorem errInc_heldInReset (s : State) (p k : Nat) (r : Nat) : (errInc p k s).heldInReset r = s.heldInReset r := (errInc_keeps s p k).proj (fun t : State => t.heldInReset r)
@[simp] theorem errInc_released (s : State) (p k : Nat) (r : Nat) : (errInc p k s).released r = s.released r := (errInc_keeps s p k).proj (fun t : State => t.released r)

/-! ### countHalf -/

@[simp] theorem countHalf_pending (s : State) (p a lo : Nat) : (countHalf p a lo s).pending = s.pending := (countHalf_keeps s p a lo).proj State.pending
@[simp] theorem countHalf_now (s : State) (p a lo : Nat) : (countHalf p a lo s).now = s.now := (countHalf_keeps s p a lo).proj State.now
@[simp] theorem countHalf_live (s : State) (p a lo : Nat) : (countHalf p a lo s).live = s.live := (countHalf_keeps s p a lo).proj State.live
@[simp] theorem countHalf_svcEvt (s : State) (p a lo : Nat) : (countHalf p a lo s).svcEvt = s.svcEvt := (countHalf_keeps s p a lo).proj State.svcEvt
@[simp] theorem countHalf_fab (s : State) (p a lo : Nat) : (countHalf p a lo s).fab = s.fab := (countHalf_keeps s p a lo).proj State.fab
@[simp] theorem countHalf_jtag (s : State) (p a lo : Nat) : (countHalf p a lo s).jtag = s.jtag := (countHalf_keeps s p a lo).proj State.jtag
@[simp] theorem countHalf_irqN (s : State) (p a lo : Nat) : (countHalf p a lo s).irqN = s.irqN := (countHalf_keeps s p a lo).proj State.irqN
@[simp] theorem countHalf_flash (s : State) (p a lo : Nat) : (countHalf p a lo s).flash = s.flash := (countHalf_keeps s p a lo).proj State.flash
@[simp] theorem countHalf_freeIdx (s : State) (p a lo : Nat) : (countHalf p a lo s).freeIdx = s.freeIdx := (countHalf_keeps s p a lo).proj State.freeIdx
@[simp] theorem countHalf_sent (s : State) (p a lo : Nat) : (countHalf p a lo s).sent = s.sent := (countHalf_keeps s p a lo).proj State.sent
@[simp] theorem countHalf_pQspi (s : State) (p a lo : Nat) : (countHalf p a lo s).pQspi = s.pQspi := (countHalf_keeps s p a lo).proj State.pQspi
@[simp] theorem countHalf_pChain (s : State) (p a lo : Nat) : (countHalf p a lo s).pChain = s.pChain := (countHalf_keeps s p a lo).proj State.pChain
@[simp] theorem countHalf_pUdp (s : State) (p a lo : Nat) : (countHalf p a lo s).pUdp = s.pUdp := (countHalf_keeps s p a lo).proj State.pUdp
@[simp] theorem countHalf_pSvc (s : State) (p a lo : Nat) : (countHalf p a lo s).pSvc = s.pSvc := (countHalf_keeps s p a lo).proj State.pSvc
@[simp] theorem countHalf_qspi (s : State) (p a lo : Nat) : (countHalf p a lo s).qspi = s.qspi := (countHalf_keeps s p a lo).proj State.qspi
@[simp] theorem countHalf_chip (s : State) (p a lo : Nat) : (countHalf p a lo s).chip = s.chip := (countHalf_keeps s p a lo).proj State.chip
@[simp] theorem countHalf_time (s : State) (p a lo : Nat) : (countHalf p a lo s).time = s.time := (countHalf_keeps s p a lo).proj State.time
@[simp] theorem countHalf_pace (s : State) (p a lo : Nat) : (countHalf p a lo s).pace = s.pace := (countHalf_keeps s p a lo).proj State.pace
@[simp] theorem countHalf_intake (s : State) (p a lo : Nat) : (countHalf p a lo s).intake = s.intake := (countHalf_keeps s p a lo).proj State.intake
@[simp] theorem countHalf_infl (s : State) (p a lo : Nat) : (countHalf p a lo s).infl = s.infl := (countHalf_keeps s p a lo).proj State.infl
@[simp] theorem countHalf_map (s : State) (p a lo : Nat) : (countHalf p a lo s).map = s.map := (countHalf_keeps s p a lo).proj State.map
@[simp] theorem countHalf_delay (s : State) (p a lo : Nat) : (countHalf p a lo s).delay = s.delay := (countHalf_keeps s p a lo).proj State.delay
@[simp] theorem countHalf_fire (s : State) (p a lo : Nat) : (countHalf p a lo s).fire = s.fire := (countHalf_keeps s p a lo).proj State.fire
@[simp] theorem countHalf_heads (s : State) (p a lo : Nat) : (countHalf p a lo s).heads = s.heads := (countHalf_keeps s p a lo).proj State.heads
@[simp] theorem countHalf_failed (s : State) (p a lo : Nat) : (countHalf p a lo s).failed = s.failed := (countHalf_keeps s p a lo).proj State.failed
@[simp] theorem countHalf_web (s : State) (p a lo : Nat) : (countHalf p a lo s).web = s.web := (countHalf_keeps s p a lo).proj State.web
@[simp] theorem countHalf_pair (s : State) (p a lo : Nat) : (countHalf p a lo s).pair = s.pair := (countHalf_keeps s p a lo).proj State.pair
@[simp] theorem countHalf_cams (s : State) (p a lo : Nat) : (countHalf p a lo s).cams = s.cams := (countHalf_keeps s p a lo).proj State.cams
@[simp] theorem countHalf_insp (s : State) (p a lo : Nat) : (countHalf p a lo s).insp = s.insp := (countHalf_keeps s p a lo).proj State.insp
@[simp] theorem countHalf_trav (s : State) (p a lo : Nat) : (countHalf p a lo s).trav = s.trav := (countHalf_keeps s p a lo).proj State.trav
@[simp] theorem countHalf_lanes (s : State) (p a lo : Nat) : (countHalf p a lo s).lanes = s.lanes := (countHalf_keeps s p a lo).proj State.lanes
@[simp] theorem countHalf_chain (s : State) (p a lo : Nat) : (countHalf p a lo s).chain = s.chain := (countHalf_keeps s p a lo).proj State.chain
@[simp] theorem countHalf_eth (s : State) (p a lo : Nat) : (countHalf p a lo s).eth = s.eth := (countHalf_keeps s p a lo).proj State.eth
@[simp] theorem countHalf_dramc (s : State) (p a lo : Nat) : (countHalf p a lo s).dramc = s.dramc := (countHalf_keeps s p a lo).proj State.dramc
@[simp] theorem countHalf_deflE (s : State) (p a lo : Nat) : (countHalf p a lo s).deflE = s.deflE := (countHalf_keeps s p a lo).proj State.deflE
@[simp] theorem countHalf_loop (s : State) (p a lo : Nat) : (countHalf p a lo s).loop = s.loop := (countHalf_keeps s p a lo).proj State.loop
@[simp] theorem countHalf_axes (s : State) (p a lo : Nat) : (countHalf p a lo s).axes = s.axes := (countHalf_keeps s p a lo).proj State.axes
@[simp] theorem countHalf_tally (s : State) (p a lo : Nat) : (countHalf p a lo s).tally = s.tally := (countHalf_keeps s p a lo).proj State.tally
@[simp] theorem countHalf_svc (s : State) (p a lo : Nat) : (countHalf p a lo s).svc = s.svc := (countHalf_keeps s p a lo).proj State.svc
@[simp] theorem countHalf_dbg (s : State) (p a lo : Nat) : (countHalf p a lo s).dbg = s.dbg := (countHalf_keeps s p a lo).proj State.dbg
@[simp] theorem countHalf_heldInReset (s : State) (p a lo : Nat) (r : Nat) : (countHalf p a lo s).heldInReset r = s.heldInReset r := (countHalf_keeps s p a lo).proj (fun t : State => t.heldInReset r)
@[simp] theorem countHalf_released (s : State) (p a lo : Nat) (r : Nat) : (countHalf p a lo s).released r = s.released r := (countHalf_keeps s p a lo).proj (fun t : State => t.released r)

/-! ### stat -/

@[simp] theorem stat_pending (s : State) (p a n : Nat) : (stat p a n s).pending = s.pending := (stat_keeps s p a n).proj State.pending
@[simp] theorem stat_now (s : State) (p a n : Nat) : (stat p a n s).now = s.now := (stat_keeps s p a n).proj State.now
@[simp] theorem stat_live (s : State) (p a n : Nat) : (stat p a n s).live = s.live := (stat_keeps s p a n).proj State.live
@[simp] theorem stat_svcEvt (s : State) (p a n : Nat) : (stat p a n s).svcEvt = s.svcEvt := (stat_keeps s p a n).proj State.svcEvt
@[simp] theorem stat_fab (s : State) (p a n : Nat) : (stat p a n s).fab = s.fab := (stat_keeps s p a n).proj State.fab
@[simp] theorem stat_jtag (s : State) (p a n : Nat) : (stat p a n s).jtag = s.jtag := (stat_keeps s p a n).proj State.jtag
@[simp] theorem stat_irqN (s : State) (p a n : Nat) : (stat p a n s).irqN = s.irqN := (stat_keeps s p a n).proj State.irqN
@[simp] theorem stat_flash (s : State) (p a n : Nat) : (stat p a n s).flash = s.flash := (stat_keeps s p a n).proj State.flash
@[simp] theorem stat_freeIdx (s : State) (p a n : Nat) : (stat p a n s).freeIdx = s.freeIdx := (stat_keeps s p a n).proj State.freeIdx
@[simp] theorem stat_sent (s : State) (p a n : Nat) : (stat p a n s).sent = s.sent := (stat_keeps s p a n).proj State.sent
@[simp] theorem stat_pQspi (s : State) (p a n : Nat) : (stat p a n s).pQspi = s.pQspi := (stat_keeps s p a n).proj State.pQspi
@[simp] theorem stat_pChain (s : State) (p a n : Nat) : (stat p a n s).pChain = s.pChain := (stat_keeps s p a n).proj State.pChain
@[simp] theorem stat_pUdp (s : State) (p a n : Nat) : (stat p a n s).pUdp = s.pUdp := (stat_keeps s p a n).proj State.pUdp
@[simp] theorem stat_pSvc (s : State) (p a n : Nat) : (stat p a n s).pSvc = s.pSvc := (stat_keeps s p a n).proj State.pSvc
@[simp] theorem stat_qspi (s : State) (p a n : Nat) : (stat p a n s).qspi = s.qspi := (stat_keeps s p a n).proj State.qspi
@[simp] theorem stat_chip (s : State) (p a n : Nat) : (stat p a n s).chip = s.chip := (stat_keeps s p a n).proj State.chip
@[simp] theorem stat_time (s : State) (p a n : Nat) : (stat p a n s).time = s.time := (stat_keeps s p a n).proj State.time
@[simp] theorem stat_pace (s : State) (p a n : Nat) : (stat p a n s).pace = s.pace := (stat_keeps s p a n).proj State.pace
@[simp] theorem stat_intake (s : State) (p a n : Nat) : (stat p a n s).intake = s.intake := (stat_keeps s p a n).proj State.intake
@[simp] theorem stat_infl (s : State) (p a n : Nat) : (stat p a n s).infl = s.infl := (stat_keeps s p a n).proj State.infl
@[simp] theorem stat_map (s : State) (p a n : Nat) : (stat p a n s).map = s.map := (stat_keeps s p a n).proj State.map
@[simp] theorem stat_delay (s : State) (p a n : Nat) : (stat p a n s).delay = s.delay := (stat_keeps s p a n).proj State.delay
@[simp] theorem stat_fire (s : State) (p a n : Nat) : (stat p a n s).fire = s.fire := (stat_keeps s p a n).proj State.fire
@[simp] theorem stat_heads (s : State) (p a n : Nat) : (stat p a n s).heads = s.heads := (stat_keeps s p a n).proj State.heads
@[simp] theorem stat_failed (s : State) (p a n : Nat) : (stat p a n s).failed = s.failed := (stat_keeps s p a n).proj State.failed
@[simp] theorem stat_web (s : State) (p a n : Nat) : (stat p a n s).web = s.web := (stat_keeps s p a n).proj State.web
@[simp] theorem stat_pair (s : State) (p a n : Nat) : (stat p a n s).pair = s.pair := (stat_keeps s p a n).proj State.pair
@[simp] theorem stat_cams (s : State) (p a n : Nat) : (stat p a n s).cams = s.cams := (stat_keeps s p a n).proj State.cams
@[simp] theorem stat_insp (s : State) (p a n : Nat) : (stat p a n s).insp = s.insp := (stat_keeps s p a n).proj State.insp
@[simp] theorem stat_trav (s : State) (p a n : Nat) : (stat p a n s).trav = s.trav := (stat_keeps s p a n).proj State.trav
@[simp] theorem stat_lanes (s : State) (p a n : Nat) : (stat p a n s).lanes = s.lanes := (stat_keeps s p a n).proj State.lanes
@[simp] theorem stat_chain (s : State) (p a n : Nat) : (stat p a n s).chain = s.chain := (stat_keeps s p a n).proj State.chain
@[simp] theorem stat_eth (s : State) (p a n : Nat) : (stat p a n s).eth = s.eth := (stat_keeps s p a n).proj State.eth
@[simp] theorem stat_dramc (s : State) (p a n : Nat) : (stat p a n s).dramc = s.dramc := (stat_keeps s p a n).proj State.dramc
@[simp] theorem stat_deflE (s : State) (p a n : Nat) : (stat p a n s).deflE = s.deflE := (stat_keeps s p a n).proj State.deflE
@[simp] theorem stat_loop (s : State) (p a n : Nat) : (stat p a n s).loop = s.loop := (stat_keeps s p a n).proj State.loop
@[simp] theorem stat_axes (s : State) (p a n : Nat) : (stat p a n s).axes = s.axes := (stat_keeps s p a n).proj State.axes
@[simp] theorem stat_tally (s : State) (p a n : Nat) : (stat p a n s).tally = s.tally := (stat_keeps s p a n).proj State.tally
@[simp] theorem stat_svc (s : State) (p a n : Nat) : (stat p a n s).svc = s.svc := (stat_keeps s p a n).proj State.svc
@[simp] theorem stat_dbg (s : State) (p a n : Nat) : (stat p a n s).dbg = s.dbg := (stat_keeps s p a n).proj State.dbg
@[simp] theorem stat_heldInReset (s : State) (p a n : Nat) (r : Nat) : (stat p a n s).heldInReset r = s.heldInReset r := (stat_keeps s p a n).proj (fun t : State => t.heldInReset r)
@[simp] theorem stat_released (s : State) (p a n : Nat) (r : Nat) : (stat p a n s).released r = s.released r := (stat_keeps s p a n).proj (fun t : State => t.released r)

/-! ### stat48 -/

@[simp] theorem stat48_pending (s : State) (p a n : Nat) : (stat48 p a n s).pending = s.pending := (stat48_keeps s p a n).proj State.pending
@[simp] theorem stat48_now (s : State) (p a n : Nat) : (stat48 p a n s).now = s.now := (stat48_keeps s p a n).proj State.now
@[simp] theorem stat48_live (s : State) (p a n : Nat) : (stat48 p a n s).live = s.live := (stat48_keeps s p a n).proj State.live
@[simp] theorem stat48_svcEvt (s : State) (p a n : Nat) : (stat48 p a n s).svcEvt = s.svcEvt := (stat48_keeps s p a n).proj State.svcEvt
@[simp] theorem stat48_fab (s : State) (p a n : Nat) : (stat48 p a n s).fab = s.fab := (stat48_keeps s p a n).proj State.fab
@[simp] theorem stat48_jtag (s : State) (p a n : Nat) : (stat48 p a n s).jtag = s.jtag := (stat48_keeps s p a n).proj State.jtag
@[simp] theorem stat48_irqN (s : State) (p a n : Nat) : (stat48 p a n s).irqN = s.irqN := (stat48_keeps s p a n).proj State.irqN
@[simp] theorem stat48_flash (s : State) (p a n : Nat) : (stat48 p a n s).flash = s.flash := (stat48_keeps s p a n).proj State.flash
@[simp] theorem stat48_freeIdx (s : State) (p a n : Nat) : (stat48 p a n s).freeIdx = s.freeIdx := (stat48_keeps s p a n).proj State.freeIdx
@[simp] theorem stat48_sent (s : State) (p a n : Nat) : (stat48 p a n s).sent = s.sent := (stat48_keeps s p a n).proj State.sent
@[simp] theorem stat48_pQspi (s : State) (p a n : Nat) : (stat48 p a n s).pQspi = s.pQspi := (stat48_keeps s p a n).proj State.pQspi
@[simp] theorem stat48_pChain (s : State) (p a n : Nat) : (stat48 p a n s).pChain = s.pChain := (stat48_keeps s p a n).proj State.pChain
@[simp] theorem stat48_pUdp (s : State) (p a n : Nat) : (stat48 p a n s).pUdp = s.pUdp := (stat48_keeps s p a n).proj State.pUdp
@[simp] theorem stat48_pSvc (s : State) (p a n : Nat) : (stat48 p a n s).pSvc = s.pSvc := (stat48_keeps s p a n).proj State.pSvc
@[simp] theorem stat48_qspi (s : State) (p a n : Nat) : (stat48 p a n s).qspi = s.qspi := (stat48_keeps s p a n).proj State.qspi
@[simp] theorem stat48_chip (s : State) (p a n : Nat) : (stat48 p a n s).chip = s.chip := (stat48_keeps s p a n).proj State.chip
@[simp] theorem stat48_time (s : State) (p a n : Nat) : (stat48 p a n s).time = s.time := (stat48_keeps s p a n).proj State.time
@[simp] theorem stat48_pace (s : State) (p a n : Nat) : (stat48 p a n s).pace = s.pace := (stat48_keeps s p a n).proj State.pace
@[simp] theorem stat48_intake (s : State) (p a n : Nat) : (stat48 p a n s).intake = s.intake := (stat48_keeps s p a n).proj State.intake
@[simp] theorem stat48_infl (s : State) (p a n : Nat) : (stat48 p a n s).infl = s.infl := (stat48_keeps s p a n).proj State.infl
@[simp] theorem stat48_map (s : State) (p a n : Nat) : (stat48 p a n s).map = s.map := (stat48_keeps s p a n).proj State.map
@[simp] theorem stat48_delay (s : State) (p a n : Nat) : (stat48 p a n s).delay = s.delay := (stat48_keeps s p a n).proj State.delay
@[simp] theorem stat48_fire (s : State) (p a n : Nat) : (stat48 p a n s).fire = s.fire := (stat48_keeps s p a n).proj State.fire
@[simp] theorem stat48_heads (s : State) (p a n : Nat) : (stat48 p a n s).heads = s.heads := (stat48_keeps s p a n).proj State.heads
@[simp] theorem stat48_failed (s : State) (p a n : Nat) : (stat48 p a n s).failed = s.failed := (stat48_keeps s p a n).proj State.failed
@[simp] theorem stat48_web (s : State) (p a n : Nat) : (stat48 p a n s).web = s.web := (stat48_keeps s p a n).proj State.web
@[simp] theorem stat48_pair (s : State) (p a n : Nat) : (stat48 p a n s).pair = s.pair := (stat48_keeps s p a n).proj State.pair
@[simp] theorem stat48_cams (s : State) (p a n : Nat) : (stat48 p a n s).cams = s.cams := (stat48_keeps s p a n).proj State.cams
@[simp] theorem stat48_insp (s : State) (p a n : Nat) : (stat48 p a n s).insp = s.insp := (stat48_keeps s p a n).proj State.insp
@[simp] theorem stat48_trav (s : State) (p a n : Nat) : (stat48 p a n s).trav = s.trav := (stat48_keeps s p a n).proj State.trav
@[simp] theorem stat48_lanes (s : State) (p a n : Nat) : (stat48 p a n s).lanes = s.lanes := (stat48_keeps s p a n).proj State.lanes
@[simp] theorem stat48_chain (s : State) (p a n : Nat) : (stat48 p a n s).chain = s.chain := (stat48_keeps s p a n).proj State.chain
@[simp] theorem stat48_eth (s : State) (p a n : Nat) : (stat48 p a n s).eth = s.eth := (stat48_keeps s p a n).proj State.eth
@[simp] theorem stat48_dramc (s : State) (p a n : Nat) : (stat48 p a n s).dramc = s.dramc := (stat48_keeps s p a n).proj State.dramc
@[simp] theorem stat48_deflE (s : State) (p a n : Nat) : (stat48 p a n s).deflE = s.deflE := (stat48_keeps s p a n).proj State.deflE
@[simp] theorem stat48_loop (s : State) (p a n : Nat) : (stat48 p a n s).loop = s.loop := (stat48_keeps s p a n).proj State.loop
@[simp] theorem stat48_axes (s : State) (p a n : Nat) : (stat48 p a n s).axes = s.axes := (stat48_keeps s p a n).proj State.axes
@[simp] theorem stat48_tally (s : State) (p a n : Nat) : (stat48 p a n s).tally = s.tally := (stat48_keeps s p a n).proj State.tally
@[simp] theorem stat48_svc (s : State) (p a n : Nat) : (stat48 p a n s).svc = s.svc := (stat48_keeps s p a n).proj State.svc
@[simp] theorem stat48_dbg (s : State) (p a n : Nat) : (stat48 p a n s).dbg = s.dbg := (stat48_keeps s p a n).proj State.dbg
@[simp] theorem stat48_heldInReset (s : State) (p a n : Nat) (r : Nat) : (stat48 p a n s).heldInReset r = s.heldInReset r := (stat48_keeps s p a n).proj (fun t : State => t.heldInReset r)
@[simp] theorem stat48_released (s : State) (p a n : Nat) (r : Nat) : (stat48 p a n s).released r = s.released r := (stat48_keeps s p a n).proj (fun t : State => t.released r)

/-! ### cmdEnd -/

@[simp] theorem cmdEnd_pending (s : State) (p a st code prog : Nat) : (cmdEnd p a st code prog s).pending = s.pending := (cmdEnd_keeps s p a st code prog).proj State.pending
@[simp] theorem cmdEnd_now (s : State) (p a st code prog : Nat) : (cmdEnd p a st code prog s).now = s.now := (cmdEnd_keeps s p a st code prog).proj State.now
@[simp] theorem cmdEnd_live (s : State) (p a st code prog : Nat) : (cmdEnd p a st code prog s).live = s.live := (cmdEnd_keeps s p a st code prog).proj State.live
@[simp] theorem cmdEnd_svcEvt (s : State) (p a st code prog : Nat) : (cmdEnd p a st code prog s).svcEvt = s.svcEvt := (cmdEnd_keeps s p a st code prog).proj State.svcEvt
@[simp] theorem cmdEnd_fab (s : State) (p a st code prog : Nat) : (cmdEnd p a st code prog s).fab = s.fab := (cmdEnd_keeps s p a st code prog).proj State.fab
@[simp] theorem cmdEnd_jtag (s : State) (p a st code prog : Nat) : (cmdEnd p a st code prog s).jtag = s.jtag := (cmdEnd_keeps s p a st code prog).proj State.jtag
@[simp] theorem cmdEnd_irqN (s : State) (p a st code prog : Nat) : (cmdEnd p a st code prog s).irqN = s.irqN := (cmdEnd_keeps s p a st code prog).proj State.irqN
@[simp] theorem cmdEnd_flash (s : State) (p a st code prog : Nat) : (cmdEnd p a st code prog s).flash = s.flash := (cmdEnd_keeps s p a st code prog).proj State.flash
@[simp] theorem cmdEnd_freeIdx (s : State) (p a st code prog : Nat) : (cmdEnd p a st code prog s).freeIdx = s.freeIdx := (cmdEnd_keeps s p a st code prog).proj State.freeIdx
@[simp] theorem cmdEnd_sent (s : State) (p a st code prog : Nat) : (cmdEnd p a st code prog s).sent = s.sent := (cmdEnd_keeps s p a st code prog).proj State.sent
@[simp] theorem cmdEnd_pQspi (s : State) (p a st code prog : Nat) : (cmdEnd p a st code prog s).pQspi = s.pQspi := (cmdEnd_keeps s p a st code prog).proj State.pQspi
@[simp] theorem cmdEnd_pChain (s : State) (p a st code prog : Nat) : (cmdEnd p a st code prog s).pChain = s.pChain := (cmdEnd_keeps s p a st code prog).proj State.pChain
@[simp] theorem cmdEnd_pUdp (s : State) (p a st code prog : Nat) : (cmdEnd p a st code prog s).pUdp = s.pUdp := (cmdEnd_keeps s p a st code prog).proj State.pUdp
@[simp] theorem cmdEnd_pSvc (s : State) (p a st code prog : Nat) : (cmdEnd p a st code prog s).pSvc = s.pSvc := (cmdEnd_keeps s p a st code prog).proj State.pSvc
@[simp] theorem cmdEnd_qspi (s : State) (p a st code prog : Nat) : (cmdEnd p a st code prog s).qspi = s.qspi := (cmdEnd_keeps s p a st code prog).proj State.qspi
@[simp] theorem cmdEnd_chip (s : State) (p a st code prog : Nat) : (cmdEnd p a st code prog s).chip = s.chip := (cmdEnd_keeps s p a st code prog).proj State.chip
@[simp] theorem cmdEnd_time (s : State) (p a st code prog : Nat) : (cmdEnd p a st code prog s).time = s.time := (cmdEnd_keeps s p a st code prog).proj State.time
@[simp] theorem cmdEnd_pace (s : State) (p a st code prog : Nat) : (cmdEnd p a st code prog s).pace = s.pace := (cmdEnd_keeps s p a st code prog).proj State.pace
@[simp] theorem cmdEnd_intake (s : State) (p a st code prog : Nat) : (cmdEnd p a st code prog s).intake = s.intake := (cmdEnd_keeps s p a st code prog).proj State.intake
@[simp] theorem cmdEnd_infl (s : State) (p a st code prog : Nat) : (cmdEnd p a st code prog s).infl = s.infl := (cmdEnd_keeps s p a st code prog).proj State.infl
@[simp] theorem cmdEnd_map (s : State) (p a st code prog : Nat) : (cmdEnd p a st code prog s).map = s.map := (cmdEnd_keeps s p a st code prog).proj State.map
@[simp] theorem cmdEnd_delay (s : State) (p a st code prog : Nat) : (cmdEnd p a st code prog s).delay = s.delay := (cmdEnd_keeps s p a st code prog).proj State.delay
@[simp] theorem cmdEnd_fire (s : State) (p a st code prog : Nat) : (cmdEnd p a st code prog s).fire = s.fire := (cmdEnd_keeps s p a st code prog).proj State.fire
@[simp] theorem cmdEnd_heads (s : State) (p a st code prog : Nat) : (cmdEnd p a st code prog s).heads = s.heads := (cmdEnd_keeps s p a st code prog).proj State.heads
@[simp] theorem cmdEnd_failed (s : State) (p a st code prog : Nat) : (cmdEnd p a st code prog s).failed = s.failed := (cmdEnd_keeps s p a st code prog).proj State.failed
@[simp] theorem cmdEnd_web (s : State) (p a st code prog : Nat) : (cmdEnd p a st code prog s).web = s.web := (cmdEnd_keeps s p a st code prog).proj State.web
@[simp] theorem cmdEnd_pair (s : State) (p a st code prog : Nat) : (cmdEnd p a st code prog s).pair = s.pair := (cmdEnd_keeps s p a st code prog).proj State.pair
@[simp] theorem cmdEnd_cams (s : State) (p a st code prog : Nat) : (cmdEnd p a st code prog s).cams = s.cams := (cmdEnd_keeps s p a st code prog).proj State.cams
@[simp] theorem cmdEnd_insp (s : State) (p a st code prog : Nat) : (cmdEnd p a st code prog s).insp = s.insp := (cmdEnd_keeps s p a st code prog).proj State.insp
@[simp] theorem cmdEnd_trav (s : State) (p a st code prog : Nat) : (cmdEnd p a st code prog s).trav = s.trav := (cmdEnd_keeps s p a st code prog).proj State.trav
@[simp] theorem cmdEnd_lanes (s : State) (p a st code prog : Nat) : (cmdEnd p a st code prog s).lanes = s.lanes := (cmdEnd_keeps s p a st code prog).proj State.lanes
@[simp] theorem cmdEnd_chain (s : State) (p a st code prog : Nat) : (cmdEnd p a st code prog s).chain = s.chain := (cmdEnd_keeps s p a st code prog).proj State.chain
@[simp] theorem cmdEnd_eth (s : State) (p a st code prog : Nat) : (cmdEnd p a st code prog s).eth = s.eth := (cmdEnd_keeps s p a st code prog).proj State.eth
@[simp] theorem cmdEnd_dramc (s : State) (p a st code prog : Nat) : (cmdEnd p a st code prog s).dramc = s.dramc := (cmdEnd_keeps s p a st code prog).proj State.dramc
@[simp] theorem cmdEnd_deflE (s : State) (p a st code prog : Nat) : (cmdEnd p a st code prog s).deflE = s.deflE := (cmdEnd_keeps s p a st code prog).proj State.deflE
@[simp] theorem cmdEnd_loop (s : State) (p a st code prog : Nat) : (cmdEnd p a st code prog s).loop = s.loop := (cmdEnd_keeps s p a st code prog).proj State.loop
@[simp] theorem cmdEnd_axes (s : State) (p a st code prog : Nat) : (cmdEnd p a st code prog s).axes = s.axes := (cmdEnd_keeps s p a st code prog).proj State.axes
@[simp] theorem cmdEnd_tally (s : State) (p a st code prog : Nat) : (cmdEnd p a st code prog s).tally = s.tally := (cmdEnd_keeps s p a st code prog).proj State.tally
@[simp] theorem cmdEnd_svc (s : State) (p a st code prog : Nat) : (cmdEnd p a st code prog s).svc = s.svc := (cmdEnd_keeps s p a st code prog).proj State.svc
@[simp] theorem cmdEnd_dbg (s : State) (p a st code prog : Nat) : (cmdEnd p a st code prog s).dbg = s.dbg := (cmdEnd_keeps s p a st code prog).proj State.dbg
@[simp] theorem cmdEnd_heldInReset (s : State) (p a st code prog : Nat) (r : Nat) : (cmdEnd p a st code prog s).heldInReset r = s.heldInReset r := (cmdEnd_keeps s p a st code prog).proj (fun t : State => t.heldInReset r)
@[simp] theorem cmdEnd_released (s : State) (p a st code prog : Nat) (r : Nat) : (cmdEnd p a st code prog s).released r = s.released r := (cmdEnd_keeps s p a st code prog).proj (fun t : State => t.released r)

/-! ### cmdDone -/

@[simp] theorem cmdDone_pending (s : State) (p a : Nat) : (cmdDone p a s).pending = s.pending := (cmdDone_keeps s p a).proj State.pending
@[simp] theorem cmdDone_now (s : State) (p a : Nat) : (cmdDone p a s).now = s.now := (cmdDone_keeps s p a).proj State.now
@[simp] theorem cmdDone_live (s : State) (p a : Nat) : (cmdDone p a s).live = s.live := (cmdDone_keeps s p a).proj State.live
@[simp] theorem cmdDone_svcEvt (s : State) (p a : Nat) : (cmdDone p a s).svcEvt = s.svcEvt := (cmdDone_keeps s p a).proj State.svcEvt
@[simp] theorem cmdDone_fab (s : State) (p a : Nat) : (cmdDone p a s).fab = s.fab := (cmdDone_keeps s p a).proj State.fab
@[simp] theorem cmdDone_jtag (s : State) (p a : Nat) : (cmdDone p a s).jtag = s.jtag := (cmdDone_keeps s p a).proj State.jtag
@[simp] theorem cmdDone_irqN (s : State) (p a : Nat) : (cmdDone p a s).irqN = s.irqN := (cmdDone_keeps s p a).proj State.irqN
@[simp] theorem cmdDone_flash (s : State) (p a : Nat) : (cmdDone p a s).flash = s.flash := (cmdDone_keeps s p a).proj State.flash
@[simp] theorem cmdDone_freeIdx (s : State) (p a : Nat) : (cmdDone p a s).freeIdx = s.freeIdx := (cmdDone_keeps s p a).proj State.freeIdx
@[simp] theorem cmdDone_sent (s : State) (p a : Nat) : (cmdDone p a s).sent = s.sent := (cmdDone_keeps s p a).proj State.sent
@[simp] theorem cmdDone_pQspi (s : State) (p a : Nat) : (cmdDone p a s).pQspi = s.pQspi := (cmdDone_keeps s p a).proj State.pQspi
@[simp] theorem cmdDone_pChain (s : State) (p a : Nat) : (cmdDone p a s).pChain = s.pChain := (cmdDone_keeps s p a).proj State.pChain
@[simp] theorem cmdDone_pUdp (s : State) (p a : Nat) : (cmdDone p a s).pUdp = s.pUdp := (cmdDone_keeps s p a).proj State.pUdp
@[simp] theorem cmdDone_pSvc (s : State) (p a : Nat) : (cmdDone p a s).pSvc = s.pSvc := (cmdDone_keeps s p a).proj State.pSvc
@[simp] theorem cmdDone_qspi (s : State) (p a : Nat) : (cmdDone p a s).qspi = s.qspi := (cmdDone_keeps s p a).proj State.qspi
@[simp] theorem cmdDone_chip (s : State) (p a : Nat) : (cmdDone p a s).chip = s.chip := (cmdDone_keeps s p a).proj State.chip
@[simp] theorem cmdDone_time (s : State) (p a : Nat) : (cmdDone p a s).time = s.time := (cmdDone_keeps s p a).proj State.time
@[simp] theorem cmdDone_pace (s : State) (p a : Nat) : (cmdDone p a s).pace = s.pace := (cmdDone_keeps s p a).proj State.pace
@[simp] theorem cmdDone_intake (s : State) (p a : Nat) : (cmdDone p a s).intake = s.intake := (cmdDone_keeps s p a).proj State.intake
@[simp] theorem cmdDone_infl (s : State) (p a : Nat) : (cmdDone p a s).infl = s.infl := (cmdDone_keeps s p a).proj State.infl
@[simp] theorem cmdDone_map (s : State) (p a : Nat) : (cmdDone p a s).map = s.map := (cmdDone_keeps s p a).proj State.map
@[simp] theorem cmdDone_delay (s : State) (p a : Nat) : (cmdDone p a s).delay = s.delay := (cmdDone_keeps s p a).proj State.delay
@[simp] theorem cmdDone_fire (s : State) (p a : Nat) : (cmdDone p a s).fire = s.fire := (cmdDone_keeps s p a).proj State.fire
@[simp] theorem cmdDone_heads (s : State) (p a : Nat) : (cmdDone p a s).heads = s.heads := (cmdDone_keeps s p a).proj State.heads
@[simp] theorem cmdDone_failed (s : State) (p a : Nat) : (cmdDone p a s).failed = s.failed := (cmdDone_keeps s p a).proj State.failed
@[simp] theorem cmdDone_web (s : State) (p a : Nat) : (cmdDone p a s).web = s.web := (cmdDone_keeps s p a).proj State.web
@[simp] theorem cmdDone_pair (s : State) (p a : Nat) : (cmdDone p a s).pair = s.pair := (cmdDone_keeps s p a).proj State.pair
@[simp] theorem cmdDone_cams (s : State) (p a : Nat) : (cmdDone p a s).cams = s.cams := (cmdDone_keeps s p a).proj State.cams
@[simp] theorem cmdDone_insp (s : State) (p a : Nat) : (cmdDone p a s).insp = s.insp := (cmdDone_keeps s p a).proj State.insp
@[simp] theorem cmdDone_trav (s : State) (p a : Nat) : (cmdDone p a s).trav = s.trav := (cmdDone_keeps s p a).proj State.trav
@[simp] theorem cmdDone_lanes (s : State) (p a : Nat) : (cmdDone p a s).lanes = s.lanes := (cmdDone_keeps s p a).proj State.lanes
@[simp] theorem cmdDone_chain (s : State) (p a : Nat) : (cmdDone p a s).chain = s.chain := (cmdDone_keeps s p a).proj State.chain
@[simp] theorem cmdDone_eth (s : State) (p a : Nat) : (cmdDone p a s).eth = s.eth := (cmdDone_keeps s p a).proj State.eth
@[simp] theorem cmdDone_dramc (s : State) (p a : Nat) : (cmdDone p a s).dramc = s.dramc := (cmdDone_keeps s p a).proj State.dramc
@[simp] theorem cmdDone_deflE (s : State) (p a : Nat) : (cmdDone p a s).deflE = s.deflE := (cmdDone_keeps s p a).proj State.deflE
@[simp] theorem cmdDone_loop (s : State) (p a : Nat) : (cmdDone p a s).loop = s.loop := (cmdDone_keeps s p a).proj State.loop
@[simp] theorem cmdDone_axes (s : State) (p a : Nat) : (cmdDone p a s).axes = s.axes := (cmdDone_keeps s p a).proj State.axes
@[simp] theorem cmdDone_tally (s : State) (p a : Nat) : (cmdDone p a s).tally = s.tally := (cmdDone_keeps s p a).proj State.tally
@[simp] theorem cmdDone_svc (s : State) (p a : Nat) : (cmdDone p a s).svc = s.svc := (cmdDone_keeps s p a).proj State.svc
@[simp] theorem cmdDone_dbg (s : State) (p a : Nat) : (cmdDone p a s).dbg = s.dbg := (cmdDone_keeps s p a).proj State.dbg
@[simp] theorem cmdDone_heldInReset (s : State) (p a : Nat) (r : Nat) : (cmdDone p a s).heldInReset r = s.heldInReset r := (cmdDone_keeps s p a).proj (fun t : State => t.heldInReset r)
@[simp] theorem cmdDone_released (s : State) (p a : Nat) (r : Nat) : (cmdDone p a s).released r = s.released r := (cmdDone_keeps s p a).proj (fun t : State => t.released r)

/-! ### cmdError -/

@[simp] theorem cmdError_pending (s : State) (p a code : Nat) : (cmdError p a code s).pending = s.pending := (cmdError_keeps s p a code).proj State.pending
@[simp] theorem cmdError_now (s : State) (p a code : Nat) : (cmdError p a code s).now = s.now := (cmdError_keeps s p a code).proj State.now
@[simp] theorem cmdError_live (s : State) (p a code : Nat) : (cmdError p a code s).live = s.live := (cmdError_keeps s p a code).proj State.live
@[simp] theorem cmdError_svcEvt (s : State) (p a code : Nat) : (cmdError p a code s).svcEvt = s.svcEvt := (cmdError_keeps s p a code).proj State.svcEvt
@[simp] theorem cmdError_fab (s : State) (p a code : Nat) : (cmdError p a code s).fab = s.fab := (cmdError_keeps s p a code).proj State.fab
@[simp] theorem cmdError_jtag (s : State) (p a code : Nat) : (cmdError p a code s).jtag = s.jtag := (cmdError_keeps s p a code).proj State.jtag
@[simp] theorem cmdError_irqN (s : State) (p a code : Nat) : (cmdError p a code s).irqN = s.irqN := (cmdError_keeps s p a code).proj State.irqN
@[simp] theorem cmdError_flash (s : State) (p a code : Nat) : (cmdError p a code s).flash = s.flash := (cmdError_keeps s p a code).proj State.flash
@[simp] theorem cmdError_freeIdx (s : State) (p a code : Nat) : (cmdError p a code s).freeIdx = s.freeIdx := (cmdError_keeps s p a code).proj State.freeIdx
@[simp] theorem cmdError_sent (s : State) (p a code : Nat) : (cmdError p a code s).sent = s.sent := (cmdError_keeps s p a code).proj State.sent
@[simp] theorem cmdError_pQspi (s : State) (p a code : Nat) : (cmdError p a code s).pQspi = s.pQspi := (cmdError_keeps s p a code).proj State.pQspi
@[simp] theorem cmdError_pChain (s : State) (p a code : Nat) : (cmdError p a code s).pChain = s.pChain := (cmdError_keeps s p a code).proj State.pChain
@[simp] theorem cmdError_pUdp (s : State) (p a code : Nat) : (cmdError p a code s).pUdp = s.pUdp := (cmdError_keeps s p a code).proj State.pUdp
@[simp] theorem cmdError_pSvc (s : State) (p a code : Nat) : (cmdError p a code s).pSvc = s.pSvc := (cmdError_keeps s p a code).proj State.pSvc
@[simp] theorem cmdError_qspi (s : State) (p a code : Nat) : (cmdError p a code s).qspi = s.qspi := (cmdError_keeps s p a code).proj State.qspi
@[simp] theorem cmdError_chip (s : State) (p a code : Nat) : (cmdError p a code s).chip = s.chip := (cmdError_keeps s p a code).proj State.chip
@[simp] theorem cmdError_time (s : State) (p a code : Nat) : (cmdError p a code s).time = s.time := (cmdError_keeps s p a code).proj State.time
@[simp] theorem cmdError_pace (s : State) (p a code : Nat) : (cmdError p a code s).pace = s.pace := (cmdError_keeps s p a code).proj State.pace
@[simp] theorem cmdError_intake (s : State) (p a code : Nat) : (cmdError p a code s).intake = s.intake := (cmdError_keeps s p a code).proj State.intake
@[simp] theorem cmdError_infl (s : State) (p a code : Nat) : (cmdError p a code s).infl = s.infl := (cmdError_keeps s p a code).proj State.infl
@[simp] theorem cmdError_map (s : State) (p a code : Nat) : (cmdError p a code s).map = s.map := (cmdError_keeps s p a code).proj State.map
@[simp] theorem cmdError_delay (s : State) (p a code : Nat) : (cmdError p a code s).delay = s.delay := (cmdError_keeps s p a code).proj State.delay
@[simp] theorem cmdError_fire (s : State) (p a code : Nat) : (cmdError p a code s).fire = s.fire := (cmdError_keeps s p a code).proj State.fire
@[simp] theorem cmdError_heads (s : State) (p a code : Nat) : (cmdError p a code s).heads = s.heads := (cmdError_keeps s p a code).proj State.heads
@[simp] theorem cmdError_failed (s : State) (p a code : Nat) : (cmdError p a code s).failed = s.failed := (cmdError_keeps s p a code).proj State.failed
@[simp] theorem cmdError_web (s : State) (p a code : Nat) : (cmdError p a code s).web = s.web := (cmdError_keeps s p a code).proj State.web
@[simp] theorem cmdError_pair (s : State) (p a code : Nat) : (cmdError p a code s).pair = s.pair := (cmdError_keeps s p a code).proj State.pair
@[simp] theorem cmdError_cams (s : State) (p a code : Nat) : (cmdError p a code s).cams = s.cams := (cmdError_keeps s p a code).proj State.cams
@[simp] theorem cmdError_insp (s : State) (p a code : Nat) : (cmdError p a code s).insp = s.insp := (cmdError_keeps s p a code).proj State.insp
@[simp] theorem cmdError_trav (s : State) (p a code : Nat) : (cmdError p a code s).trav = s.trav := (cmdError_keeps s p a code).proj State.trav
@[simp] theorem cmdError_lanes (s : State) (p a code : Nat) : (cmdError p a code s).lanes = s.lanes := (cmdError_keeps s p a code).proj State.lanes
@[simp] theorem cmdError_chain (s : State) (p a code : Nat) : (cmdError p a code s).chain = s.chain := (cmdError_keeps s p a code).proj State.chain
@[simp] theorem cmdError_eth (s : State) (p a code : Nat) : (cmdError p a code s).eth = s.eth := (cmdError_keeps s p a code).proj State.eth
@[simp] theorem cmdError_dramc (s : State) (p a code : Nat) : (cmdError p a code s).dramc = s.dramc := (cmdError_keeps s p a code).proj State.dramc
@[simp] theorem cmdError_deflE (s : State) (p a code : Nat) : (cmdError p a code s).deflE = s.deflE := (cmdError_keeps s p a code).proj State.deflE
@[simp] theorem cmdError_loop (s : State) (p a code : Nat) : (cmdError p a code s).loop = s.loop := (cmdError_keeps s p a code).proj State.loop
@[simp] theorem cmdError_axes (s : State) (p a code : Nat) : (cmdError p a code s).axes = s.axes := (cmdError_keeps s p a code).proj State.axes
@[simp] theorem cmdError_tally (s : State) (p a code : Nat) : (cmdError p a code s).tally = s.tally := (cmdError_keeps s p a code).proj State.tally
@[simp] theorem cmdError_svc (s : State) (p a code : Nat) : (cmdError p a code s).svc = s.svc := (cmdError_keeps s p a code).proj State.svc
@[simp] theorem cmdError_dbg (s : State) (p a code : Nat) : (cmdError p a code s).dbg = s.dbg := (cmdError_keeps s p a code).proj State.dbg
@[simp] theorem cmdError_heldInReset (s : State) (p a code : Nat) (r : Nat) : (cmdError p a code s).heldInReset r = s.heldInReset r := (cmdError_keeps s p a code).proj (fun t : State => t.heldInReset r)
@[simp] theorem cmdError_released (s : State) (p a code : Nat) (r : Nat) : (cmdError p a code s).released r = s.released r := (cmdError_keeps s p a code).proj (fun t : State => t.released r)

/-! ### cmdStart -/

@[simp] theorem cmdStart_pending (s : State) (a : Nat) : (cmdStart a s).pending = s.pending := (cmdStart_keeps s a).proj State.pending
@[simp] theorem cmdStart_now (s : State) (a : Nat) : (cmdStart a s).now = s.now := (cmdStart_keeps s a).proj State.now
@[simp] theorem cmdStart_live (s : State) (a : Nat) : (cmdStart a s).live = s.live := (cmdStart_keeps s a).proj State.live
@[simp] theorem cmdStart_svcEvt (s : State) (a : Nat) : (cmdStart a s).svcEvt = s.svcEvt := (cmdStart_keeps s a).proj State.svcEvt
@[simp] theorem cmdStart_fab (s : State) (a : Nat) : (cmdStart a s).fab = s.fab := (cmdStart_keeps s a).proj State.fab
@[simp] theorem cmdStart_jtag (s : State) (a : Nat) : (cmdStart a s).jtag = s.jtag := (cmdStart_keeps s a).proj State.jtag
@[simp] theorem cmdStart_irqN (s : State) (a : Nat) : (cmdStart a s).irqN = s.irqN := (cmdStart_keeps s a).proj State.irqN
@[simp] theorem cmdStart_flash (s : State) (a : Nat) : (cmdStart a s).flash = s.flash := (cmdStart_keeps s a).proj State.flash
@[simp] theorem cmdStart_freeIdx (s : State) (a : Nat) : (cmdStart a s).freeIdx = s.freeIdx := (cmdStart_keeps s a).proj State.freeIdx
@[simp] theorem cmdStart_sent (s : State) (a : Nat) : (cmdStart a s).sent = s.sent := (cmdStart_keeps s a).proj State.sent
@[simp] theorem cmdStart_pQspi (s : State) (a : Nat) : (cmdStart a s).pQspi = s.pQspi := (cmdStart_keeps s a).proj State.pQspi
@[simp] theorem cmdStart_pChain (s : State) (a : Nat) : (cmdStart a s).pChain = s.pChain := (cmdStart_keeps s a).proj State.pChain
@[simp] theorem cmdStart_pUdp (s : State) (a : Nat) : (cmdStart a s).pUdp = s.pUdp := (cmdStart_keeps s a).proj State.pUdp
@[simp] theorem cmdStart_pSvc (s : State) (a : Nat) : (cmdStart a s).pSvc = s.pSvc := (cmdStart_keeps s a).proj State.pSvc
@[simp] theorem cmdStart_qspi (s : State) (a : Nat) : (cmdStart a s).qspi = s.qspi := (cmdStart_keeps s a).proj State.qspi
@[simp] theorem cmdStart_chip (s : State) (a : Nat) : (cmdStart a s).chip = s.chip := (cmdStart_keeps s a).proj State.chip
@[simp] theorem cmdStart_time (s : State) (a : Nat) : (cmdStart a s).time = s.time := (cmdStart_keeps s a).proj State.time
@[simp] theorem cmdStart_pace (s : State) (a : Nat) : (cmdStart a s).pace = s.pace := (cmdStart_keeps s a).proj State.pace
@[simp] theorem cmdStart_intake (s : State) (a : Nat) : (cmdStart a s).intake = s.intake := (cmdStart_keeps s a).proj State.intake
@[simp] theorem cmdStart_infl (s : State) (a : Nat) : (cmdStart a s).infl = s.infl := (cmdStart_keeps s a).proj State.infl
@[simp] theorem cmdStart_map (s : State) (a : Nat) : (cmdStart a s).map = s.map := (cmdStart_keeps s a).proj State.map
@[simp] theorem cmdStart_delay (s : State) (a : Nat) : (cmdStart a s).delay = s.delay := (cmdStart_keeps s a).proj State.delay
@[simp] theorem cmdStart_fire (s : State) (a : Nat) : (cmdStart a s).fire = s.fire := (cmdStart_keeps s a).proj State.fire
@[simp] theorem cmdStart_heads (s : State) (a : Nat) : (cmdStart a s).heads = s.heads := (cmdStart_keeps s a).proj State.heads
@[simp] theorem cmdStart_failed (s : State) (a : Nat) : (cmdStart a s).failed = s.failed := (cmdStart_keeps s a).proj State.failed
@[simp] theorem cmdStart_web (s : State) (a : Nat) : (cmdStart a s).web = s.web := (cmdStart_keeps s a).proj State.web
@[simp] theorem cmdStart_pair (s : State) (a : Nat) : (cmdStart a s).pair = s.pair := (cmdStart_keeps s a).proj State.pair
@[simp] theorem cmdStart_cams (s : State) (a : Nat) : (cmdStart a s).cams = s.cams := (cmdStart_keeps s a).proj State.cams
@[simp] theorem cmdStart_insp (s : State) (a : Nat) : (cmdStart a s).insp = s.insp := (cmdStart_keeps s a).proj State.insp
@[simp] theorem cmdStart_trav (s : State) (a : Nat) : (cmdStart a s).trav = s.trav := (cmdStart_keeps s a).proj State.trav
@[simp] theorem cmdStart_lanes (s : State) (a : Nat) : (cmdStart a s).lanes = s.lanes := (cmdStart_keeps s a).proj State.lanes
@[simp] theorem cmdStart_chain (s : State) (a : Nat) : (cmdStart a s).chain = s.chain := (cmdStart_keeps s a).proj State.chain
@[simp] theorem cmdStart_eth (s : State) (a : Nat) : (cmdStart a s).eth = s.eth := (cmdStart_keeps s a).proj State.eth
@[simp] theorem cmdStart_dramc (s : State) (a : Nat) : (cmdStart a s).dramc = s.dramc := (cmdStart_keeps s a).proj State.dramc
@[simp] theorem cmdStart_deflE (s : State) (a : Nat) : (cmdStart a s).deflE = s.deflE := (cmdStart_keeps s a).proj State.deflE
@[simp] theorem cmdStart_loop (s : State) (a : Nat) : (cmdStart a s).loop = s.loop := (cmdStart_keeps s a).proj State.loop
@[simp] theorem cmdStart_axes (s : State) (a : Nat) : (cmdStart a s).axes = s.axes := (cmdStart_keeps s a).proj State.axes
@[simp] theorem cmdStart_tally (s : State) (a : Nat) : (cmdStart a s).tally = s.tally := (cmdStart_keeps s a).proj State.tally
@[simp] theorem cmdStart_svc (s : State) (a : Nat) : (cmdStart a s).svc = s.svc := (cmdStart_keeps s a).proj State.svc
@[simp] theorem cmdStart_dbg (s : State) (a : Nat) : (cmdStart a s).dbg = s.dbg := (cmdStart_keeps s a).proj State.dbg
@[simp] theorem cmdStart_heldInReset (s : State) (a : Nat) (r : Nat) : (cmdStart a s).heldInReset r = s.heldInReset r := (cmdStart_keeps s a).proj (fun t : State => t.heldInReset r)
@[simp] theorem cmdStart_released (s : State) (a : Nat) (r : Nat) : (cmdStart a s).released r = s.released r := (cmdStart_keeps s a).proj (fun t : State => t.released r)
/-! ## Which registers an event can change -/

@[simp] theorem raiseBit_reg_self (s : State) (p b : Nat) :
    (raiseBit p b s).reg (Reg.evtStatus p) = putBit (s.reg (Reg.evtStatus p)) b true := by
  simp only [raiseBit]; split <;> simp [State.reg, State.setReg]

theorem raiseBit_reg_ne (s : State) (p b : Nat) {a : Nat} (h : a ≠ Reg.evtStatus p) : (raiseBit p b s).reg a = s.reg a := by
  have hm := fun w => mget_mset_ne resetWord h w s.words
  simp only [raiseBit]; split <;> exact hm _

/-- Setting one event bit leaves every event bit that is set. -/
theorem raiseBit_rb (s : State) (p b q j : Nat) (hb : b < 32) (h : s.rb (Reg.evtStatus q) j = true) :
    (raiseBit p b s).rb (Reg.evtStatus q) j = true := by
  by_cases hq : Reg.evtStatus q = Reg.evtStatus p
  · rw [hq] at h ⊢
    unfold State.rb at *
    rw [raiseBit_reg_self]
    by_cases hj : j = b
    · subst hj; exact bit_putBit_self _ hb _
    · rw [bit_putBit_ne _ hb hj]; exact h
  · unfold State.rb; rw [raiseBit_reg_ne s p b hq]; exact h

@[simp] theorem noteInc_reg (s : State) (a b : Nat) : (noteInc a s).reg b = s.reg b := rfl
@[simp] theorem noteInc_rf (s : State) (a b lo n : Nat) : (noteInc a s).rf b lo n = s.rf b lo n := rfl

theorem tracePut_reg (s : State) (p k q b x d : Nat) {a : Nat}
    (h : a ≠ Reg.evtStatus 0x7F ∧ a ≠ Reg.DEBUG_TRACE_WPTR ∧ a ≠ Reg.DEBUG_TRACE_LOST) :
    (tracePut p k q b x d s).reg a = s.reg a := by
  simp only [tracePut]
  split
  · rw [reg_setReg_ne _ h.2.1]; rfl
  · simp only [cntInc]
    split
    · exact raiseBit_reg_ne s 0x7F 8 h.1
    · split
      · rw [raiseBit_reg_ne _ _ _ h.1, reg_setReg_ne _ h.2.2, noteInc_reg, raiseBit_reg_ne s 0x7F 8 h.1]
      · rw [reg_setReg_ne _ h.2.2, noteInc_reg, raiseBit_reg_ne s 0x7F 8 h.1]

theorem tracePut_rb (s : State) (p k q b x d : Nat) (r j : Nat) (h : s.rb (Reg.evtStatus r) j = true) :
    (tracePut p k q b x d s).rb (Reg.evtStatus r) j = true := by
  have h1 := raiseBit_rb s 0x7F 8 r j (by decide) h
  have hw : Reg.evtStatus r ≠ Reg.DEBUG_TRACE_WPTR := by simp only [Reg.evtStatus, pg, Reg.DEBUG_TRACE_WPTR]; omega
  have hl : Reg.evtStatus r ≠ Reg.DEBUG_TRACE_LOST := by simp only [Reg.evtStatus, pg, Reg.DEBUG_TRACE_LOST]; omega
  simp only [tracePut]
  split
  · rw [rb_setReg_ne _ hw]; exact h
  · simp only [cntInc]
    split
    · exact h1
    · split
      · exact raiseBit_rb _ _ _ _ _ (by decide) (by rw [rb_setReg_ne _ hl]; exact h1)
      · rw [rb_setReg_ne _ hl]; exact h1

/-- An event leaves every register but EVT_STATUS of its page and the trace's own as it was. -/
theorem raise_reg (s : State) (p b : Nat) {a : Nat} (h : a ∉ evtRegs p) : (raise p b s).reg a = s.reg a := by
  simp only [evtRegs, List.mem_cons, List.not_mem_nil, or_false, not_or] at h
  simp only [raise]
  split
  · split
    · rw [tracePut_reg _ _ _ _ _ _ _ h.2]; exact raiseBit_reg_ne s p b h.1
    · exact raiseBit_reg_ne s p b h.1
  · rfl

/-- After an event on a released page its EVT_STATUS bit is 1 (R36). -/
theorem raise_rb_self (s : State) (p b : Nat) (hb : b < 32) (h : s.released p = true) :
    (raise p b s).rb (Reg.evtStatus p) b = true := by
  have h1 : (raiseBit p b s).rb (Reg.evtStatus p) b = true := by
    unfold State.rb; rw [raiseBit_reg_self]; exact bit_putBit_self _ hb _
  simp only [raise, h, if_true]
  split
  · exact tracePut_rb _ _ _ _ _ _ _ _ _ h1
  · exact h1

/-- No event takes back an EVT_STATUS bit (R36). -/
theorem raise_rb (s : State) (p b q j : Nat) (hb : b < 32) (h : s.rb (Reg.evtStatus q) j = true) :
    (raise p b s).rb (Reg.evtStatus q) j = true := by
  have h1 := raiseBit_rb s p b q j hb h
  simp only [raise]
  split
  · split
    · exact tracePut_rb _ _ _ _ _ _ _ _ _ h1
    · exact h1
  · exact h

/-- With the trace off an event changes nothing but the one bit and what Chain owes (R36, R38, R439). -/
theorem raise_untraced (s : State) (p b : Nat) (h : s.released p = true) (ht : s.rb Reg.DEBUG_TRACE_CTRL 0 = false) :
    raise p b s = raiseBit p b s := by
  have hn : (raiseBit p b s).rb Reg.DEBUG_TRACE_CTRL 0 = false := by
    unfold State.rb; rw [raiseBit_reg_ne]
    · exact ht
    · simp only [Reg.evtStatus, pg, Reg.DEBUG_TRACE_CTRL]; omega
  simp only [raise, h, if_true, traceOn, hn, Bool.and_false, Bool.false_and, Bool.false_eq_true, if_false]

/-! ## Counters and commands -/

/-- An error counter below its limit counts one (R40). -/
theorem count_reg_self (s : State) (p a : Nat) (h : s.rf a 0 16 < 0xFFFF) (ha : a ∉ evtRegs p) :
    (count p a s).reg a = W (s.rf a 0 16 + 1) := by
  have h' : ¬ (noteInc a s).rf a 0 16 = 0xFFFF := Nat.ne_of_lt h
  simp only [count, if_neg h']
  split
  · rw [raise_reg _ _ _ ha]; exact reg_setReg_self ..
  · exact reg_setReg_self ..

theorem count_reg_ne (s : State) (p a : Nat) {b : Nat} (hb : b ≠ a) (h : b ∉ evtRegs p) : (count p a s).reg b = s.reg b := by
  simp only [count]
  split
  · rfl
  · split
    · rw [raise_reg _ _ _ h]; exact reg_setReg_ne s hb _
    · exact reg_setReg_ne s hb _

/-- A saturated error counter stays; the count is noted for a write of the same instant (R40, R41). -/
theorem count_full (s : State) (p a : Nat) (h : s.rf a 0 16 = 0xFFFF) : count p a s = noteInc a s := by
  have h' : (noteInc a s).rf a 0 16 = 0xFFFF := h
  simp only [count, if_pos h']

/-- A 32-bit statistics counter counts modulo 2³² (R40). -/
theorem stat_reg_self (s : State) (p a n : Nat) (ha : a ∉ evtRegs p) : (stat p a n s).reg a = W ((s.reg a).toNat + n) := by
  simp only [stat]
  split
  · exact reg_setReg_self ..
  · rw [raise_reg _ _ _ ha]; exact reg_setReg_self ..

theorem stat_reg_ne (s : State) (p a n : Nat) {b : Nat} (hb : b ≠ a) (h : b ∉ evtRegs p) : (stat p a n s).reg b = s.reg b := by
  simp only [stat]
  split
  · exact reg_setReg_ne s hb _
  · rw [raise_reg _ _ _ h]; exact reg_setReg_ne s hb _

/-- A command that ends shows its final state (R46). -/
theorem cmdEnd_reg_self (s : State) (p a st code prog : Nat) (ha : a ∉ evtRegs p) :
    (cmdEnd p a st code prog s).reg a = cmdWord st code prog := by
  simp only [cmdEnd]
  rw [raise_reg _ _ _ ha]; exact reg_setReg_self ..

theorem cmdEnd_reg_ne (s : State) (p a st code prog : Nat) {b : Nat} (hb : b ≠ a) (h : b ∉ evtRegs p) :
    (cmdEnd p a st code prog s).reg b = s.reg b := by
  simp only [cmdEnd]
  rw [raise_reg _ _ _ h]; exact reg_setReg_ne s hb _

/-- A command that ends raises CMDDONE on its page (R46). -/
theorem cmdEnd_done (s : State) (p a st code prog : Nat) (h : s.released p = true) :
    (cmdEnd p a st code prog s).rb (Reg.evtStatus p) 4 = true :=
  raise_rb_self _ p 4 (by decide) h

end Sys2Proof.Machine
end

