-- ==== Sys2Proof/Laws/Access.lean ====
section
/-! SUPPORT. The laws of accesses: a write or read that is taken, and what the path notes of it. -/
namespace Sys2Proof.Machine

theorem placeOf'_page {p o : Nat} (hp : p < 128) (ho : o < 0x1000) : placeOf' (pg p o) = .page p o := by
  have h1 : 0x40000000 ≤ pg p o ∧ pg p o < 0x40080000 := by simp only [pg]; omega
  have h2 : (pg p o - 0x40000000) / 0x1000 = p := by simp only [pg]; omega
  have h3 : pg p o % 0x1000 = o := by simp only [pg]; omega
  simp only [placeOf', if_pos h1, h2, h3]

theorem pages_lt {p : Nat} (h : p ∈ pages) : p < 128 := by
  have : pages.all (fun p => decide (p < 128)) = true := by decide
  simpa using List.all_eq_true.1 this p h

/-- A register write that is taken does `h` and notes OK on its path (R51). -/
theorem rowWrite_takes {q : Path} {p o : Nat} {s : State} (ht : Takes q p s) (ho : o < 0x1000) (h4 : o % 4 = 0) (w : Word)
    (h : State → State) : rowWrite q (pg p o) w h s = writeNote q stOk (h s) := by
  obtain ⟨hu, hp, h70, hr, hl, ht⟩ := ht
  have hlt := pages_lt hp
  have hpl := placeOf'_page hlt ho
  have hb : burstAddressBad (pg p o) 1 = false := by
    have h5 : pg p o % 4 = 0 := by simp only [pg]; omega
    have h6 : pg p o % 0x1000 = o := by simp only [pg]; omega
    simp [burstAddressBad, hpl, h5, h6]; omega
  have hst : wordStatus true (.page p o) s = stOk := by
    have hin : pageInReset p s = false := by simp [pageInReset, hp, hr, h70]
    have hlk : lockedPages (.page p o) s = [] := by
      simp only [lockedPages, placePages]
      split
      · rfl
      · simp [hl]
    simp [wordStatus, placePages, readOnlyPlace, hin, hlk, h70]
  have htr : traceWrite q (.page p o) (pg p o) w s = s := by
    simp only [traceWrite, placePages, traceOn]
    split <;> simp [each, ht]
  simp [rowWrite, hu, hb, wordWrite, hpl, hst, htr]

/-- A write of a register of a page, by the write of that register. -/
theorem rowPut_takes {q : Path} {p o : Nat} {s : State} (ht : Takes q p s) (ho : o < 0x1000) (h4 : o % 4 = 0) (w : Word) :
    rowPut q (pg p o) w s = writeNote q stOk (writeReg q p o w s) := by
  have hlt := pages_lt ht.2.1
  unfold rowPut
  rw [rowWrite_takes ht ho h4, placeOf'_page hlt ho]
  simp [placeWrite, ht.2.1]

/-- A register read that is taken returns the register's word on its path (R51). -/
theorem rowGet_reads {q : Path} {p o : Nat} {s : State} (ht : Reads q p s) (ho : o < 0x1000) (h4 : o % 4 = 0) :
    rowGet q (pg p o) s = pathNote q stOk [(readReg q p o s).1] (readReg q p o s).2 := by
  obtain ⟨hu, hp, hr, hi⟩ := ht
  have hlt := pages_lt hp
  have hpl := placeOf'_page hlt ho
  have hb : burstAddressBad (pg p o) 1 = false := by
    have h5 : pg p o % 4 = 0 := by simp only [pg]; omega
    have h6 : pg p o % 0x1000 = o := by simp only [pg]; omega
    simp [burstAddressBad, hpl, h5, h6]; omega
  have hin : pageInReset p s = false := by
    by_cases h7 : p = 0x70
    · subst h7; simp [pageInReset, hr, hi rfl]
    · simp [pageInReset, hr, h7]
  have hst : wordStatus false (.page p o) s = stOk := by simp [wordStatus, placePages, hin]
  simp [rowGet, hu, burstRead, hb, readWords, wordRead, hpl, hst, placeRead, hp, stOk]

/-! ## What a path notes -/

@[simp] theorem pathNote_words (q : Path) (st : Nat) (d : List Word) (s : State) : (pathNote q st d s).words = s.words := by
  simp [pathNote]

@[simp] theorem writeNote_words (q : Path) (st : Nat) (s : State) : (writeNote q st s).words = s.words := by
  simp only [writeNote]; split <;> simp

@[simp] theorem writeNote_reg (q : Path) (st : Nat) (s : State) (a : Nat) : (writeNote q st s).reg a = s.reg a := by
  simp [State.reg]

@[simp] theorem pathNote_reg (q : Path) (st : Nat) (d : List Word) (s : State) (a : Nat) :
    (pathNote q st d s).reg a = s.reg a := by simp [State.reg]

@[simp] theorem path_setPath_self (s : State) (q : Path) (x : PathSt) : (s.setPath q x).path q = x := by cases q <;> rfl

theorem path_setPath_ne (s : State) {q r : Path} (h : r ≠ q) (x : PathSt) : (s.setPath q x).path r = s.path r := by
  cases q <;> cases r <;> first | rfl | exact absurd rfl h

@[simp] theorem pathNote_status (q : Path) (st : Nat) (d : List Word) (s : State) : ((pathNote q st d s).path q).status = st := by
  simp [pathNote]

@[simp] theorem pathNote_data (q : Path) (st : Nat) (d : List Word) (s : State) : ((pathNote q st d s).path q).data = d := by
  simp [pathNote]

@[simp] theorem writeNote_status (q : Path) (st : Nat) (s : State) : ((writeNote q st s).path q).status = st := by
  simp only [writeNote]
  split
  · next h => subst h; exact pathNote_status .qspi st [] s
  · exact pathNote_status ..

/-! ### What a path's note leaves alone -/

@[simp] theorem pathNote_pending (q : Path) (st : Nat) (d : List Word) (s : State) : (pathNote q st d s).pending = s.pending := by simp [pathNote]
@[simp] theorem pathNote_now (q : Path) (st : Nat) (d : List Word) (s : State) : (pathNote q st d s).now = s.now := by simp [pathNote]
@[simp] theorem pathNote_live (q : Path) (st : Nat) (d : List Word) (s : State) : (pathNote q st d s).live = s.live := by simp [pathNote]
@[simp] theorem pathNote_svcEvt (q : Path) (st : Nat) (d : List Word) (s : State) : (pathNote q st d s).svcEvt = s.svcEvt := by simp [pathNote]
@[simp] theorem pathNote_incs (q : Path) (st : Nat) (d : List Word) (s : State) : (pathNote q st d s).incs = s.incs := by simp [pathNote]
@[simp] theorem pathNote_committed (q : Path) (st : Nat) (d : List Word) (s : State) : (pathNote q st d s).committed = s.committed := by simp [pathNote]
@[simp] theorem pathNote_fab (q : Path) (st : Nat) (d : List Word) (s : State) : (pathNote q st d s).fab = s.fab := by simp [pathNote]
@[simp] theorem pathNote_jtag (q : Path) (st : Nat) (d : List Word) (s : State) : (pathNote q st d s).jtag = s.jtag := by simp [pathNote]
@[simp] theorem pathNote_evtOut (q : Path) (st : Nat) (d : List Word) (s : State) : (pathNote q st d s).evtOut = s.evtOut := by simp [pathNote]
@[simp] theorem pathNote_irqN (q : Path) (st : Nat) (d : List Word) (s : State) : (pathNote q st d s).irqN = s.irqN := by simp [pathNote]
@[simp] theorem pathNote_dram (q : Path) (st : Nat) (d : List Word) (s : State) : (pathNote q st d s).dram = s.dram := by simp [pathNote]
@[simp] theorem pathNote_badBlocks (q : Path) (st : Nat) (d : List Word) (s : State) : (pathNote q st d s).badBlocks = s.badBlocks := by simp [pathNote]
@[simp] theorem pathNote_flash (q : Path) (st : Nat) (d : List Word) (s : State) : (pathNote q st d s).flash = s.flash := by simp [pathNote]
@[simp] theorem pathNote_freeIdx (q : Path) (st : Nat) (d : List Word) (s : State) : (pathNote q st d s).freeIdx = s.freeIdx := by simp [pathNote]
@[simp] theorem pathNote_sent (q : Path) (st : Nat) (d : List Word) (s : State) : (pathNote q st d s).sent = s.sent := by simp [pathNote]
@[simp] theorem pathNote_qspi (q : Path) (st : Nat) (d : List Word) (s : State) : (pathNote q st d s).qspi = s.qspi := by simp [pathNote]
@[simp] theorem pathNote_chip (q : Path) (st : Nat) (d : List Word) (s : State) : (pathNote q st d s).chip = s.chip := by simp [pathNote]
@[simp] theorem pathNote_time (q : Path) (st : Nat) (d : List Word) (s : State) : (pathNote q st d s).time = s.time := by simp [pathNote]
@[simp] theorem pathNote_pace (q : Path) (st : Nat) (d : List Word) (s : State) : (pathNote q st d s).pace = s.pace := by simp [pathNote]
@[simp] theorem pathNote_intake (q : Path) (st : Nat) (d : List Word) (s : State) : (pathNote q st d s).intake = s.intake := by simp [pathNote]
@[simp] theorem pathNote_infl (q : Path) (st : Nat) (d : List Word) (s : State) : (pathNote q st d s).infl = s.infl := by simp [pathNote]
@[simp] theorem pathNote_map (q : Path) (st : Nat) (d : List Word) (s : State) : (pathNote q st d s).map = s.map := by simp [pathNote]
@[simp] theorem pathNote_delay (q : Path) (st : Nat) (d : List Word) (s : State) : (pathNote q st d s).delay = s.delay := by simp [pathNote]
@[simp] theorem pathNote_fire (q : Path) (st : Nat) (d : List Word) (s : State) : (pathNote q st d s).fire = s.fire := by simp [pathNote]
@[simp] theorem pathNote_heads (q : Path) (st : Nat) (d : List Word) (s : State) : (pathNote q st d s).heads = s.heads := by simp [pathNote]
@[simp] theorem pathNote_failed (q : Path) (st : Nat) (d : List Word) (s : State) : (pathNote q st d s).failed = s.failed := by simp [pathNote]
@[simp] theorem pathNote_web (q : Path) (st : Nat) (d : List Word) (s : State) : (pathNote q st d s).web = s.web := by simp [pathNote]
@[simp] theorem pathNote_pair (q : Path) (st : Nat) (d : List Word) (s : State) : (pathNote q st d s).pair = s.pair := by simp [pathNote]
@[simp] theorem pathNote_cams (q : Path) (st : Nat) (d : List Word) (s : State) : (pathNote q st d s).cams = s.cams := by simp [pathNote]
@[simp] theorem pathNote_insp (q : Path) (st : Nat) (d : List Word) (s : State) : (pathNote q st d s).insp = s.insp := by simp [pathNote]
@[simp] theorem pathNote_trav (q : Path) (st : Nat) (d : List Word) (s : State) : (pathNote q st d s).trav = s.trav := by simp [pathNote]
@[simp] theorem pathNote_lanes (q : Path) (st : Nat) (d : List Word) (s : State) : (pathNote q st d s).lanes = s.lanes := by simp [pathNote]
@[simp] theorem pathNote_chain (q : Path) (st : Nat) (d : List Word) (s : State) : (pathNote q st d s).chain = s.chain := by simp [pathNote]
@[simp] theorem pathNote_eth (q : Path) (st : Nat) (d : List Word) (s : State) : (pathNote q st d s).eth = s.eth := by simp [pathNote]
@[simp] theorem pathNote_dramc (q : Path) (st : Nat) (d : List Word) (s : State) : (pathNote q st d s).dramc = s.dramc := by simp [pathNote]
@[simp] theorem pathNote_deflE (q : Path) (st : Nat) (d : List Word) (s : State) : (pathNote q st d s).deflE = s.deflE := by simp [pathNote]
@[simp] theorem pathNote_loop (q : Path) (st : Nat) (d : List Word) (s : State) : (pathNote q st d s).loop = s.loop := by simp [pathNote]
@[simp] theorem pathNote_axes (q : Path) (st : Nat) (d : List Word) (s : State) : (pathNote q st d s).axes = s.axes := by simp [pathNote]
@[simp] theorem pathNote_tally (q : Path) (st : Nat) (d : List Word) (s : State) : (pathNote q st d s).tally = s.tally := by simp [pathNote]
@[simp] theorem pathNote_svc (q : Path) (st : Nat) (d : List Word) (s : State) : (pathNote q st d s).svc = s.svc := by simp [pathNote]
@[simp] theorem pathNote_dbg (q : Path) (st : Nat) (d : List Word) (s : State) : (pathNote q st d s).dbg = s.dbg := by simp [pathNote]
@[simp] theorem pathNote_rf (q : Path) (st : Nat) (d : List Word) (s : State) (b l m : Nat) : (pathNote q st d s).rf b l m = s.rf b l m := by simp [State.rf]
@[simp] theorem pathNote_rb (q : Path) (st : Nat) (d : List Word) (s : State) (b j : Nat) : (pathNote q st d s).rb b j = s.rb b j := by simp [State.rb]
@[simp] theorem pathNote_inForce (q : Path) (st : Nat) (d : List Word) (s : State) (b : Nat) : (pathNote q st d s).inForce b = s.inForce b := by simp [State.inForce]
@[simp] theorem pathNote_lf (q : Path) (st : Nat) (d : List Word) (s : State) (b l m : Nat) : (pathNote q st d s).lf b l m = s.lf b l m := by simp [State.lf]
@[simp] theorem pathNote_lb (q : Path) (st : Nat) (d : List Word) (s : State) (b j : Nat) : (pathNote q st d s).lb b j = s.lb b j := by simp [State.lb]
@[simp] theorem pathNote_heldInReset (q : Path) (st : Nat) (d : List Word) (s : State) (r : Nat) : (pathNote q st d s).heldInReset r = s.heldInReset r := by simp [State.heldInReset]
@[simp] theorem pathNote_released (q : Path) (st : Nat) (d : List Word) (s : State) (r : Nat) : (pathNote q st d s).released r = s.released r := by simp [State.released]
@[simp] theorem pathNote_enabled (q : Path) (st : Nat) (d : List Word) (s : State) (r : Nat) : (pathNote q st d s).enabled r = s.enabled r := by simp [State.enabled]
@[simp] theorem pathNote_quiescing (q : Path) (st : Nat) (d : List Word) (s : State) (r : Nat) : (pathNote q st d s).quiescing r = s.quiescing r := by simp [State.quiescing]
@[simp] theorem pathNote_running (q : Path) (st : Nat) (d : List Word) (s : State) (r : Nat) : (pathNote q st d s).running r = s.running r := by simp [State.running]
@[simp] theorem pathNote_shadowPending (q : Path) (st : Nat) (d : List Word) (s : State) (r : Nat) : (pathNote q st d s).shadowPending r = s.shadowPending r := by simp [State.shadowPending]
@[simp] theorem pathNote_cmdBusy (q : Path) (st : Nat) (d : List Word) (s : State) (b : Nat) : (pathNote q st d s).cmdBusy b = s.cmdBusy b := by simp [State.cmdBusy, State.cmdState]
@[simp] theorem writeNote_pending (q : Path) (st : Nat) (s : State) : (writeNote q st s).pending = s.pending := by simp only [writeNote]; split <;> simp
@[simp] theorem writeNote_now (q : Path) (st : Nat) (s : State) : (writeNote q st s).now = s.now := by simp only [writeNote]; split <;> simp
@[simp] theorem writeNote_live (q : Path) (st : Nat) (s : State) : (writeNote q st s).live = s.live := by simp only [writeNote]; split <;> simp
@[simp] theorem writeNote_svcEvt (q : Path) (st : Nat) (s : State) : (writeNote q st s).svcEvt = s.svcEvt := by simp only [writeNote]; split <;> simp
@[simp] theorem writeNote_incs (q : Path) (st : Nat) (s : State) : (writeNote q st s).incs = s.incs := by simp only [writeNote]; split <;> simp
@[simp] theorem writeNote_committed (q : Path) (st : Nat) (s : State) : (writeNote q st s).committed = s.committed := by simp only [writeNote]; split <;> simp
@[simp] theorem writeNote_fab (q : Path) (st : Nat) (s : State) : (writeNote q st s).fab = s.fab := by simp only [writeNote]; split <;> simp
@[simp] theorem writeNote_jtag (q : Path) (st : Nat) (s : State) : (writeNote q st s).jtag = s.jtag := by simp only [writeNote]; split <;> simp
@[simp] theorem writeNote_evtOut (q : Path) (st : Nat) (s : State) : (writeNote q st s).evtOut = s.evtOut := by simp only [writeNote]; split <;> simp
@[simp] theorem writeNote_irqN (q : Path) (st : Nat) (s : State) : (writeNote q st s).irqN = s.irqN := by simp only [writeNote]; split <;> simp
@[simp] theorem writeNote_dram (q : Path) (st : Nat) (s : State) : (writeNote q st s).dram = s.dram := by simp only [writeNote]; split <;> simp
@[simp] theorem writeNote_badBlocks (q : Path) (st : Nat) (s : State) : (writeNote q st s).badBlocks = s.badBlocks := by simp only [writeNote]; split <;> simp
@[simp] theorem writeNote_flash (q : Path) (st : Nat) (s : State) : (writeNote q st s).flash = s.flash := by simp only [writeNote]; split <;> simp
@[simp] theorem writeNote_freeIdx (q : Path) (st : Nat) (s : State) : (writeNote q st s).freeIdx = s.freeIdx := by simp only [writeNote]; split <;> simp
@[simp] theorem writeNote_sent (q : Path) (st : Nat) (s : State) : (writeNote q st s).sent = s.sent := by simp only [writeNote]; split <;> simp
@[simp] theorem writeNote_chip (q : Path) (st : Nat) (s : State) : (writeNote q st s).chip = s.chip := by simp only [writeNote]; split <;> simp
@[simp] theorem writeNote_time (q : Path) (st : Nat) (s : State) : (writeNote q st s).time = s.time := by simp only [writeNote]; split <;> simp
@[simp] theorem writeNote_pace (q : Path) (st : Nat) (s : State) : (writeNote q st s).pace = s.pace := by simp only [writeNote]; split <;> simp
@[simp] theorem writeNote_intake (q : Path) (st : Nat) (s : State) : (writeNote q st s).intake = s.intake := by simp only [writeNote]; split <;> simp
@[simp] theorem writeNote_infl (q : Path) (st : Nat) (s : State) : (writeNote q st s).infl = s.infl := by simp only [writeNote]; split <;> simp
@[simp] theorem writeNote_map (q : Path) (st : Nat) (s : State) : (writeNote q st s).map = s.map := by simp only [writeNote]; split <;> simp
@[simp] theorem writeNote_delay (q : Path) (st : Nat) (s : State) : (writeNote q st s).delay = s.delay := by simp only [writeNote]; split <;> simp
@[simp] theorem writeNote_fire (q : Path) (st : Nat) (s : State) : (writeNote q st s).fire = s.fire := by simp only [writeNote]; split <;> simp
@[simp] theorem writeNote_heads (q : Path) (st : Nat) (s : State) : (writeNote q st s).heads = s.heads := by simp only [writeNote]; split <;> simp
@[simp] theorem writeNote_failed (q : Path) (st : Nat) (s : State) : (writeNote q st s).failed = s.failed := by simp only [writeNote]; split <;> simp
@[simp] theorem writeNote_web (q : Path) (st : Nat) (s : State) : (writeNote q st s).web = s.web := by simp only [writeNote]; split <;> simp
@[simp] theorem writeNote_pair (q : Path) (st : Nat) (s : State) : (writeNote q st s).pair = s.pair := by simp only [writeNote]; split <;> simp
@[simp] theorem writeNote_cams (q : Path) (st : Nat) (s : State) : (writeNote q st s).cams = s.cams := by simp only [writeNote]; split <;> simp
@[simp] theorem writeNote_insp (q : Path) (st : Nat) (s : State) : (writeNote q st s).insp = s.insp := by simp only [writeNote]; split <;> simp
@[simp] theorem writeNote_trav (q : Path) (st : Nat) (s : State) : (writeNote q st s).trav = s.trav := by simp only [writeNote]; split <;> simp
@[simp] theorem writeNote_lanes (q : Path) (st : Nat) (s : State) : (writeNote q st s).lanes = s.lanes := by simp only [writeNote]; split <;> simp
@[simp] theorem writeNote_chain (q : Path) (st : Nat) (s : State) : (writeNote q st s).chain = s.chain := by simp only [writeNote]; split <;> simp
@[simp] theorem writeNote_eth (q : Path) (st : Nat) (s : State) : (writeNote q st s).eth = s.eth := by simp only [writeNote]; split <;> simp
@[simp] theorem writeNote_dramc (q : Path) (st : Nat) (s : State) : (writeNote q st s).dramc = s.dramc := by simp only [writeNote]; split <;> simp
@[simp] theorem writeNote_deflE (q : Path) (st : Nat) (s : State) : (writeNote q st s).deflE = s.deflE := by simp only [writeNote]; split <;> simp
@[simp] theorem writeNote_loop (q : Path) (st : Nat) (s : State) : (writeNote q st s).loop = s.loop := by simp only [writeNote]; split <;> simp
@[simp] theorem writeNote_axes (q : Path) (st : Nat) (s : State) : (writeNote q st s).axes = s.axes := by simp only [writeNote]; split <;> simp
@[simp] theorem writeNote_tally (q : Path) (st : Nat) (s : State) : (writeNote q st s).tally = s.tally := by simp only [writeNote]; split <;> simp
@[simp] theorem writeNote_svc (q : Path) (st : Nat) (s : State) : (writeNote q st s).svc = s.svc := by simp only [writeNote]; split <;> simp
@[simp] theorem writeNote_dbg (q : Path) (st : Nat) (s : State) : (writeNote q st s).dbg = s.dbg := by simp only [writeNote]; split <;> simp
@[simp] theorem writeNote_rf (q : Path) (st : Nat) (s : State) (b l m : Nat) : (writeNote q st s).rf b l m = s.rf b l m := by simp [State.rf]
@[simp] theorem writeNote_rb (q : Path) (st : Nat) (s : State) (b j : Nat) : (writeNote q st s).rb b j = s.rb b j := by simp [State.rb]
@[simp] theorem writeNote_inForce (q : Path) (st : Nat) (s : State) (b : Nat) : (writeNote q st s).inForce b = s.inForce b := by simp [State.inForce]
@[simp] theorem writeNote_lf (q : Path) (st : Nat) (s : State) (b l m : Nat) : (writeNote q st s).lf b l m = s.lf b l m := by simp [State.lf]
@[simp] theorem writeNote_lb (q : Path) (st : Nat) (s : State) (b j : Nat) : (writeNote q st s).lb b j = s.lb b j := by simp [State.lb]
@[simp] theorem writeNote_heldInReset (q : Path) (st : Nat) (s : State) (r : Nat) : (writeNote q st s).heldInReset r = s.heldInReset r := by simp [State.heldInReset]
@[simp] theorem writeNote_released (q : Path) (st : Nat) (s : State) (r : Nat) : (writeNote q st s).released r = s.released r := by simp [State.released]
@[simp] theorem writeNote_enabled (q : Path) (st : Nat) (s : State) (r : Nat) : (writeNote q st s).enabled r = s.enabled r := by simp [State.enabled]
@[simp] theorem writeNote_quiescing (q : Path) (st : Nat) (s : State) (r : Nat) : (writeNote q st s).quiescing r = s.quiescing r := by simp [State.quiescing]
@[simp] theorem writeNote_running (q : Path) (st : Nat) (s : State) (r : Nat) : (writeNote q st s).running r = s.running r := by simp [State.running]
@[simp] theorem writeNote_shadowPending (q : Path) (st : Nat) (s : State) (r : Nat) : (writeNote q st s).shadowPending r = s.shadowPending r := by simp [State.shadowPending]
@[simp] theorem writeNote_cmdBusy (q : Path) (st : Nat) (s : State) (b : Nat) : (writeNote q st s).cmdBusy b = s.cmdBusy b := by simp [State.cmdBusy, State.cmdState]

end Sys2Proof.Machine
end

