-- ==== Sys2Proof/Tests/Slice0.lean ====
section
/-! SUPPORT. Tests: an ill-formed term for each check of WellFormed, the spec's check values, and for every statement of
Certificates/Slice0 that has hypotheses states and operands that meet them. -/
namespace Sys2Proof.Tests
open Sys2Proof Sys2Proof.Machine
set_option maxRecDepth 100000

/-! ## Ill-formed commands -/

theorem test_ill_width : WellFormed (.registerWrite 0 .qspi 3 0x40000040 0) = false := by decide
theorem test_ill_opcode : WellFormed (.qspiReservedOpcode 0 0x05) = false := by decide
theorem test_ill_burst_none : WellFormed (.burstTimeout 0 .udp .onPath 0x40000040 none 0 0) = false := by decide
theorem test_ill_burst_long : WellFormed (.burstTimeout 0 .udp .onPath 0x40000040 none 65 0) = false := by decide
theorem test_ill_burst_done : WellFormed (.burstTimeout 0 .udp .onPath 0x40000040 none 2 2) = false := by decide
theorem test_ill_burst_words : WellFormed (.burstTimeout 0 .udp .onPath 0x40000040 (some []) 2 0) = false := by decide
theorem test_ill_class : WellFormed (.fabPromote 0 0 0) = false := by decide
theorem test_ill_pipelines : WellFormed (.paceWindowEnd 0 [1]) = false := by decide
theorem test_ill_job_length : WellFormed (.chainJob 0 (List.replicate 2049 0)) = false := by decide
theorem test_ill_band_length : WellFormed (.chainBand 0 (List.replicate 2049 0)) = false := by decide
theorem test_ill_window_low : WellFormed (.tableWindowWrite 0 .qspi 0x50FFFFFC 0) = false := by decide
theorem test_ill_window_high : WellFormed (.tableWindowWrite 0 .qspi 0x51340000 0) = false := by decide
theorem test_ill_estop : WellFormed (.estop 0 false 5) = false := by decide
theorem test_ill_telemetry : WellFormed (.headTelemetry 0 0 [0x81] true) = false := by decide
theorem test_ill_stake : WellFormed (.stakeReceive 0 [1]) = false := by decide
theorem test_ill_nozzle : WellFormed (.travWindowClose 0 [131072]) = false := by decide
theorem test_ill_lock_loss : WellFormed (.locklost 0 0 false ⟨3, []⟩) = false := by decide
theorem test_ill_prbs_worst : WellFormed (.prbserr 0 0 32 33) = false := by decide
theorem test_ill_prbs_window : WellFormed (.prbserr 0 0 2000 1025) = false := by decide
theorem test_ill_chain_port : WellFormed (.chainFrameReceive 0 13 [] true 0) = false := by decide
theorem test_ill_tx_port : WellFormed (.chainTxNext 0 0) = false := by decide
theorem test_ill_regrd : WellFormed (.regrd 0 1 (List.replicate 2049 0)) = false := by decide
theorem test_ill_regwr : WellFormed (.regwr 0 1 (List.replicate 2049 0)) = false := by decide
theorem test_ill_regrsp : WellFormed (.regrsp 0 (List.replicate 2049 0)) = false := by decide
theorem test_ill_event : WellFormed (.chainEvent 0 1 (List.replicate 2049 0)) = false := by decide
theorem test_ill_keep : WellFormed (.keep 0 1 (List.replicate 2049 0)) = false := by decide
theorem test_ill_sync_port : WellFormed (.timeSync 0 13 (List.replicate 20 0) 0) = false := by decide
theorem test_ill_sync_length : WellFormed (.timeSync 0 1 (List.replicate 19 0) 0) = false := by decide
theorem test_ill_dlyreq_port : WellFormed (.timeDlyreq 0 0 (List.replicate 8 0) 0) = false := by decide
theorem test_ill_dlyreq_length : WellFormed (.timeDlyreq 0 1 [] 0) = false := by decide
theorem test_ill_dlyrsp_port : WellFormed (.timeDlyrsp 0 15 (List.replicate 8 0)) = false := by decide
theorem test_ill_dlyrsp_length : WellFormed (.timeDlyrsp 0 1 []) = false := by decide
theorem test_ill_acq_tick : WellFormed (.loopGroupTick 0 0 [(0, [1, 2, 3, 4, 5])]) = false := by decide
theorem test_ill_acq_done : WellFormed (.loopAcqDone 0 0 [(0, [1, 2, 3, 4, 5])] false) = false := by decide
theorem test_ill_mirror : WellFormed (.mirror 0 (List.replicate 2049 0)) = false := by decide
theorem test_ill_tally_cmd : WellFormed (.tallyReservedCmd 0 6 true false) = false := by decide
theorem test_well_formed : WellFormed (.tallyReservedCmd 0 7 true false) = true ∧ WellFormed (.fabPromote 0 3 0) = true := by decide

/-! ## Check values of the spec: the bytes of "123456789" (R53, R87, R167, R269) -/

def nine : List Byte := [0x31, 0x32, 0x33, 0x34, 0x35, 0x36, 0x37, 0x38, 0x39]

theorem test_crc32c : crc32c nine = 0xE3069283 := by decide
theorem test_crc32 : crc32 nine = 0xCBF43926 := by decide
theorem test_crc16 : crc16 nine = 0x29B1 := by decide
theorem test_crc8 : crc8 nine = 0xF4 := by decide

/-! ## Witnesses: each theorem names the statement whose hypotheses it meets -/

/-- The machine `s` with registers `l` set. -/
def wsOn (l : List (Nat × Word)) (s : State) : State := l.foldl (fun s e => s.setReg e.1 e.2) s
/-- The machine after reset with registers `l` set. -/
def ws (l : List (Nat × Word)) : State := wsOn l State.reset

/-- The hypotheses of StepRunsTheFrontCommand can be met. -/
theorem wit_StepRunsTheFrontCommand :
    (let s : State := { State.reset with pending := [] };
    s.pending = []) := by decide

/-- The hypotheses of EveryStepKeepsTheInterruptPins can be met. -/
theorem wit_EveryStepKeepsTheInterruptPins :
    (let s : State := { ws [(Reg.IRQ_PIN_CTRL, 0x10)] with pending := [.encill 5 0], irqN := [true, false, false, false] };
    IrqFollows s) := by decide

/-- The hypotheses of RegisterWritesStoreOrReportTheirStatus can be met. -/
theorem wit_RegisterWritesStoreOrReportTheirStatus_1 :
    (let s : State := State.reset;
    pathUp .qspi s = true ∧ (2 : Nat) ≠ 4) ∧
    (let s : State := State.reset;
    pathUp .qspi s = true ∧ (0x40000041#32).toNat % 4 ≠ 0) ∧
    (let s : State := State.reset;
    pathUp .chain s = true ∧ placeOf' (0x30000040#32).toNat = .outside) ∧
    (let s : State := { State.reset with chip := { Reset.chip with rel := 4 } };
    pathUp .qspi s = true ∧ (0x40068FFC#32).toNat = pg 0x68 0xFFC ∧ 0x68 ∈ pages ∧ s.released 0x68 = false) := by decide

/-- The hypotheses of RegisterWritesStoreOrReportTheirStatus can be met. -/
theorem wit_RegisterWritesStoreOrReportTheirStatus_2 :
    (let s : State := State.reset;
    pathUp .qspi s = true ∧ (0x40070000#32).toNat = pg 0x70 0 ∧ s.released 0x70 = true ∧ s.chip.island = false) ∧
    (let s : State := ws [(Reg.pageLock 0x10, 1)];
    pathUp .svc s = true ∧ (0x40010004#32).toNat = pg 0x10 4 ∧ 0x10 ∈ pages ∧ lockFree (.page 0x10 4) = false ∧ s.released 0x10 = true ∧ s.rb (Reg.pageLock 0x10) 0 = true) ∧
    (let s : State := State.reset;
    Takes .qspi 0x04 s ∧ (0x40004040#32).toNat = pg 0x04 0x40 ∧ (descOf (pg 0x04 0x40)).isSome = true) ∧
    (let s : State := State.reset; let d := (descOf (pg 0x05 0x80)).getD (rRO 0);
    Takes .qspi 0x05 s ∧ (0x40005080#32).toNat = pg 0x05 0x80 ∧ (descOf (pg 0x05 0x80)).isSome = true ∧ d.acc = .rw ∧ d.lim = [] ∧ d.shadow = 0) := by decide

/-- The hypotheses of RegisterWritesStoreOrReportTheirStatus can be met. -/
theorem wit_RegisterWritesStoreOrReportTheirStatus_3 :
    (let s : State := ws [(Reg.pageLock 0x10, 1)];
    pathUp .qspi s = true ∧ 0x10 ∈ pages ∧ s.released 0x10 = true ∧ s.rb (Reg.pageLock 0x10) 0 = true) ∧
    (let s : State := { State.reset with chip := { Reset.chip with rel := 4 } };
    pathUp .qspi s = true ∧ 0x68 ∈ pages ∧ s.released 0x68 = false) ∧
    (let s : State := { State.reset with incs := [(Reg.errCount 0x10 1, 3)] }; let dt : Nat := 0; let t := s.elapse dt;
    Takes .qspi 0x10 s ∧ (0x4001001C#32).toNat = Reg.errCount 0x10 1 ∧ fld 7 0 16 + t.incsAt (0x4001001C#32).toNat < 0xFFFF) := by decide

/-- The hypotheses of EnableSetsItsBitAndStartsTheBlock can be met. -/
theorem wit_EnableSetsItsBitAndStartsTheBlock_1 :
    (let s : State := State.reset;
    Takes .qspi 0 s ∧ s.rb (Reg.pageCtrl 0) 0 = true) ∧
    (let s : State := { State.reset with chip := { Reset.chip with padFree := [0x60] } };
    Takes .qspi 0x60 s ∧ s.rb (Reg.pageCtrl 0x60) 0 ≠ true ∧ 0x60 ∈ s.chip.padFree) ∧
    (let s : State := ws [(Reg.pageCtrl 0x60, 1)];
    Takes .qspi 0x60 s ∧ s.rb (Reg.pageCtrl 0x60) 0 ≠ false) ∧
    (let s : State := ws [(Reg.pageCtrl 0x7F, 1)];
    Takes .qspi 0x7F s ∧ s.rb (Reg.pageCtrl 0x7F) 0 ≠ false) := by decide

/-- The hypotheses of EnableSetsItsBitAndStartsTheBlock can be met. -/
theorem wit_EnableSetsItsBitAndStartsTheBlock_2 :
    (let s : State := State.reset;
    Takes .qspi 0x10 s ∧ s.rb (Reg.pageCtrl 0x10) 0 ≠ true) ∧
    (let s : State := State.reset;
    Takes .qspi 0x17 s ∧ s.rb (Reg.pageCtrl 0x17) 0 = false ∧ s.fire.st = 0) ∧
    (let s : State := State.reset;
    Takes .qspi 0x16 s ∧ s.rb (Reg.pageCtrl 0x16) 0 = false ∧ ringPlaceOk s = false) := by decide

/-- The hypotheses of QuiesceWaitsForTheUnitOfWork can be met. -/
theorem wit_QuiesceWaitsForTheUnitOfWork_1 :
    (let s : State := State.reset;
    Takes .qspi 0x10 s ∧ s.quiescing 0x10 = false ∧ quiesced 0x10 s = false) ∧
    (let s : State := { State.reset with chain := { Reset.chain with lq := { Reset.lq with q := [default] } } };
    Takes .qspi 0x40 s ∧ s.quiescing 0x40 = false) ∧
    (let s : State := ws [(Reg.pageCtrl 0x60, 3)]; let dt : Nat := 5; let t := s.elapse dt;
    Takes .qspi 0x60 s ∧ s.quiescing 0x60 = true ∧ quiesced 0x60 s = false ∧ unitBusy 0x60 t = false) ∧
    (let s : State := ws [(Reg.pageCtrl 0x60, 3), (Reg.pageStatus 0x60, 2)];
    Takes .qspi 0x60 s ∧ s.quiescing 0x60 = true) := by decide

/-- The hypotheses of QuiesceWaitsForTheUnitOfWork can be met. -/
theorem wit_QuiesceWaitsForTheUnitOfWork_2 :
    (let s : State := ws [(Reg.pageCtrl 0x40, 3), (Reg.pageStatus 0x40, 2)];
    Takes .qspi 0x40 s ∧ s.quiescing 0x40 = true) ∧
    (let s : State := ({ ws [(Reg.pageCtrl 0x50, 3)] with deflE := [] }).setDefl 1 { State.reset.defl 1 with stopped := true }; let dt : Nat := 5; let t := s.elapse dt;
    Takes .qspi 0x50 s ∧ s.quiescing 0x50 = true ∧ quiesced 0x50 s = false ∧ unitBusy 0x50 t = false) := by decide

/-- The hypotheses of ShadowCommitAppliesTheStagedSet can be met. -/
theorem wit_ShadowCommitAppliesTheStagedSet_1 :
    (let s : State := ws [(Reg.pageStatus 0x10, 16)];
    Takes .qspi 0x10 s ∧ s.shadowPending 0x10 = true) ∧
    (let s : State := ws [(Reg.LOOP_S_SP 0, 5)];
    Takes .qspi 0x58 s ∧ s.shadowPending 0x58 = false) ∧
    (let s : State := State.reset;
    Takes .qspi 0x15 s ∧ s.shadowPending 0x15 = false) ∧
    (let s : State := State.reset;
    Takes .qspi 0x7E s ∧ s.shadowPending 0x7E = false) := by decide

/-- The hypotheses of ShadowCommitAppliesTheStagedSet can be met. -/
theorem wit_ShadowCommitAppliesTheStagedSet_2 :
    (let s : State := ws [(Reg.pageStatus 0x15, 16)];
    s.released 0x15 = true) ∧
    (let s : State := State.reset; let dt : Nat := 5; let t := s.elapse dt;
    Takes .qspi 0x16 s ∧ s.shadowPending 0x16 = false ∧ delayCommitOk (t.setB (Reg.pageStatus 0x16) 4 true) = true) ∧
    (let s : State := { State.reset with fire := { Reset.fire with st := 2 } };
    Takes .qspi 0x17 s ∧ s.shadowPending 0x17 = false ∧ 2 ≤ s.fire.st) ∧
    (let s : State := { State.reset with trav := { Reset.trav with win := some default } };
    Takes .qspi 0x28 s ∧ s.shadowPending 0x28 = false ∧ s.trav.win.isSome = true) := by decide

/-- The hypotheses of PageLockNeedsItsKeyAndEventBitsClear can be met. -/
theorem wit_PageLockNeedsItsKeyAndEventBitsClear :
    (let s : State := ws [(Reg.evtStatus 0x10, 0x41)];
    pathUp .qspi s = true ∧ 0x10 ∈ pages ∧ s.released 0x10 = true ∧ Untraced s) ∧
    (let s : State := State.reset;
    pathUp .qspi s = true ∧ 0x10 ∈ pages ∧ s.released 0x10 = true ∧ Untraced s ∧ fld 0x4C4B0001 16 16 = 0x4C4B) ∧
    (let s : State := ws [(Reg.pageLock 0x10, 1)];
    pathUp .qspi s = true ∧ 0x10 ∈ pages ∧ s.released 0x10 = true ∧ Untraced s ∧ fld 0x4C4C0000 16 16 ≠ 0x4C4B) := by decide

/-- The hypotheses of ResetRequestsQueueAndAbortsEndCommands can be met. -/
theorem wit_ResetRequestsQueueAndAbortsEndCommands_1 :
    (let s : State := State.reset;
    Takes .qspi 0x60 s) ∧
    (let s : State := { ws [(Reg.WEB_CMD_STATUS, 1)] with web := { Reset.web with stake := { Reset.stake with learn := some 0 } } };
    Takes .qspi 0x1C s ∧ s.web.stake.learn = some 0 ∧ s.cmdBusy Reg.WEB_CMD_STATUS = true) ∧
    (let s : State := State.reset; let dt : Nat := 5; let t := s.elapse dt;
    Takes .qspi 0x49 s ∧ resetRefused 0x49 t = false ∧ s.chip.pend = [] ∧ s.chip.run = none) ∧
    (let s : State := State.reset;
    Takes .qspi 5 s) := by decide

/-- The hypotheses of ResetRequestsQueueAndAbortsEndCommands can be met. -/
theorem wit_ResetRequestsQueueAndAbortsEndCommands_2 :
    (let s : State := (ws [(Reg.CAM_CCI_STATUS 1, cmdWord 1 0 0)]).setCam 1 { Reset.cam with cci := some ⟨1, 5, false, 0⟩ };
    Takes .qspi 0x21 s ∧ (s.cam 1).cci = some ⟨1, 5, false, 0⟩ ∧ s.cmdBusy (Reg.CAM_CCI_STATUS 1) = true) ∧
    (let s : State := ws [(Reg.DRAMTRN_CMD_STATUS, cmdWord 1 0 0)];
    Takes .qspi 0x49 s ∧ s.cmdBusy Reg.DRAMTRN_CMD_STATUS = true ∧ Reg.DRAMTRN_CMD_STATUS ∉ s.committed) ∧
    (let s : State := { ws [(Reg.DRAMTRN_CMD_STATUS, cmdWord 1 0 0)] with committed := [Reg.DRAMTRN_CMD_STATUS] };
    Takes .qspi 0x49 s ∧ Reg.DRAMTRN_CMD_STATUS ∈ s.committed) := by decide

/-- The hypotheses of QspiTransactionsAreCheckedAnsweredAndCounted can be met. -/
theorem wit_QspiTransactionsAreCheckedAnsweredAndCounted_1 :
    (let s : State := State.reset; let head : List Byte := [0x02, 0x40, 0x01, 0x00, 0x40, 0x00]; let v : List Word := [0x12345678]; let crc : List Byte := crcBytes (head ++ wordBytes v);
    pathUp .qspi s = true ∧ head.length = 6 ∧ beAt head 0 1 = 2 ∧ crc.length = 2 ∧ v.length = beAt head 5 1 + 1 ∧ v.length ≤ 64) ∧
    (let s : State := State.reset; let head : List Byte := [0x02, 0x40, 0x01, 0x00, 0x40, 0x00]; let v : List Word := [0x12345678]; let crc : List Byte := [0, 0];
    pathUp .qspi s = true ∧ head.length = 6 ∧ beAt head 0 1 = 2 ∧ v.length = beAt head 5 1 + 1 ∧ v.length ≤ 64 ∧ be crc ≠ crc16 (head ++ wordBytes v)) ∧
    (let s : State := State.reset; let head : List Byte := [0x02, 0x40, 0x01, 0x00, 0x40, 0x40];
    pathUp .qspi s = true ∧ head.length = 6 ∧ beAt head 0 1 = 2 ∧ 64 ≤ beAt head 5 1) ∧
    (let s : State := State.reset; let dt : Nat := 5; let t := s.elapse dt;
    pathUp .qspi s = true ∧ (1 : Byte).toNat ≤ 0x3F) := by decide

/-- The hypotheses of QspiTransactionsAreCheckedAnsweredAndCounted can be met. -/
theorem wit_QspiTransactionsAreCheckedAnsweredAndCounted_2 :
    (let s : State := State.reset;
    pathUp .qspi s = true ∧ 0x3F < (0x40 : Byte).toNat) ∧
    (let s : State := { State.reset with qspi := ⟨3, 255⟩ };
    pathUp .qspi s = true) ∧
    (let s : State := State.reset;
    pathUp .qspi s = true ∧ s.reg Reg.SYS_ID = W 0x48100001) ∧
    (let s : State := State.reset;
    pathUp .qspi s = true ∧ (0x03 : Byte).toNat ∉ [0x02, 0x05, 0x0B, 0x9F]) := by decide

/-- The hypotheses of QspiTransactionsAreCheckedAnsweredAndCounted can be met. -/
theorem wit_QspiTransactionsAreCheckedAnsweredAndCounted_3 :
    (let s : State := State.reset;
    pathUp .qspi s = true ∧ [0x02, 0x40, 0x01, 0x00, 0x40].length < 6) ∧
    (let s : State := State.reset;
    pathUp .qspi s = true ∧ ([] : List Byte).length < 6 ∧ ([] : List Byte).head? = none) ∧
    (let s : State := State.reset; let b : List Byte := [0x02, 0x40, 0x01, 0x00, 0x40, 0x00, 0, 0, 0, 1, 0];
    pathUp .qspi s = true ∧ b.head? = some 0x02 ∧ 6 ≤ b.length ∧ beAt b 5 1 ≤ 0x3F ∧ b.length < 8 + 4 * (beAt b 5 1 + 1)) := by decide

/-- The hypotheses of BurstsRunInOrderAndStopOnTimeout can be met. -/
theorem wit_BurstsRunInOrderAndStopOnTimeout_1 :
    (let s : State := State.reset; let dt : Nat := 5; let t := s.elapse dt; let r := writeWords .qspi 0x40010020 [1] t;
    pathUp .qspi s = true ∧ burstAddressBad 0x40010020 2 = false ∧ r.1 = 0) ∧
    (let s : State := ws [(Reg.CHAIN_CTRL, 0x1F3F)]; let dt : Nat := 5; let t := s.elapse dt; let r := readWords .chain 0x40010020 1 t;
    pathUp .chain s = true ∧ regNode 3 t = true ∧ burstAddressBad 0x40010020 2 = false ∧ r.1 = 0) ∧
    (let s : State := State.reset; let dt : Nat := 5; let t := s.elapse dt; let r := readWords .qspi 0x40010020 1 t;
    pathUp .qspi s = true ∧ burstAddressBad 0x40010020 2 = false ∧ r.1 = 0) ∧
    (let s : State := State.reset; let dt : Nat := 5; let t := s.elapse dt; let r := writeWords .udp 0x40010020 [1] (stat 0x41 Reg.ETH_REG_REQS 1 t);
    pathUp .udp s = true ∧ burstAddressBad 0x40010020 2 = false ∧ r.1 = 0) := by decide

/-- The hypotheses of BurstsRunInOrderAndStopOnTimeout can be met. -/
theorem wit_BurstsRunInOrderAndStopOnTimeout_2 :
    (let s : State := State.reset;
    Takes .qspi 0x10 s ∧ ([1, 2, 3, 4, 5, 6, 7, 8] : List Word).length ≤ 8) ∧
    (let s : State := ws [(pg 0x05 0x80, 3)]; let d := (descOf (pg 0x05 0x80)).getD (rRO 0);
    Reads .qspi 0x05 s ∧ (descOf (pg 0x05 0x80)).isSome = true ∧ d.acc = .rw) := by decide

/-- The hypotheses of FabricMeasuresBeadsAndCountsPromotions can be met. -/
theorem wit_FabricMeasuresBeadsAndCountsPromotions_1 :
    (let s : State := State.reset;
    s.released 4 = true) ∧
    (let s : State := ws [(Reg.FAB_PROMO 3, 0xFFFFFFFF)];
    s.released 4 = true ∧ 1 ≤ (3 : Fin 4).val) ∧
    (let s : State := { ws [(Reg.DRAM_STATUS, 0), (Reg.FAB_PROMO 3, 0xFFFFFFFF)] with fab := [⟨0, false, 7, true, 64, 64⟩, ⟨100000, false, 7, true, 64, 64⟩, ⟨0, false, 4, true, 64, 64⟩] };
    s.released 4 = true ∧ 1 ≤ (3 : Fin 4).val) ∧
    (let s : State := State.reset;
    s.released 4 = true) := by decide

/-- The hypotheses of FabricMeasuresBeadsAndCountsPromotions can be met. -/
theorem wit_FabricMeasuresBeadsAndCountsPromotions_2 :
    (let s : State := State.reset;
    dramReady s = false ∧ 1 ≤ 64 ∧ 64 ≤ portMax 7) ∧
    (let s : State := ws [(Reg.DRAM_STATUS, 1)];
    dramReady s = true ∧ 1 ≤ 64 ∧ 64 ≤ portMax 7) := by decide

/-- The hypotheses of SetPointsRampToTheirTarget can be met. -/
theorem wit_SetPointsRampToTheirTarget_1 :
    (let s : State := ws [(Reg.PACE_CTRL, 5), (Reg.SVC_CORE_STATE, 0x55), (Reg.PACE_TEMP, 100), (Reg.PACE_SETPOINT, 700)]; let col : Nat := if tj s + 4 * s.rf Reg.PACE_CTRL 16 8 ≤ 200 then 0 else if tj s + 4 * s.rf Reg.PACE_CTRL 16 8 ≤ 340 then 1 else 2; let target : Nat := max (vmin s) (clampN 650 950 (s.rf (Reg.PACE_TABLE (paceIndex (s.reg Reg.PACE_LOAD) col)) 0 12 + s.rf Reg.PACE_STEP 8 8));
    s.running 3 = true ∧ s.rb Reg.PACE_CTRL 2 = true ∧ s.rb Reg.PACE_CTRL 0 = true ∧ svcRuns 2 s = true ∧ s.cmdBusy Reg.PACE_RAMP_STATUS = false ∧ s.rf Reg.PACE_SETPOINT 0 12 < target ∧ target ≤ 950) ∧
    (let s : State := ws [(Reg.PACE_CTRL, 5), (Reg.SVC_CORE_STATE, 0x55), (Reg.PACE_TEMP, 100), (Reg.PACE_SETPOINT, 950)]; let col : Nat := if tj s + 4 * s.rf Reg.PACE_CTRL 16 8 ≤ 200 then 0 else if tj s + 4 * s.rf Reg.PACE_CTRL 16 8 ≤ 340 then 1 else 2; let target : Nat := max (vmin s) (clampN 650 950 (s.rf (Reg.PACE_TABLE (paceIndex (s.reg Reg.PACE_LOAD) col)) 0 12 + s.rf Reg.PACE_STEP 8 8)); let sp : Nat := s.rf Reg.PACE_SETPOINT 0 12;
    s.running 3 = true ∧ s.rb Reg.PACE_CTRL 2 = true ∧ s.rb Reg.PACE_CTRL 0 = true ∧ svcRuns 2 s = true ∧ s.cmdBusy Reg.PACE_RAMP_STATUS = false ∧ target ≤ sp ∧ target ≤ 950 ∧ s.pace.slow = false ∧ s.pace.goodWins < s.rf Reg.PACE_THRESH 16 8) ∧
    (let s : State := { ws [(Reg.PACE_CTRL, 5), (Reg.SVC_CORE_STATE, 0x55), (Reg.PACE_TEMP, 100), (Reg.PACE_SETPOINT, 940)] with pace := { Reset.pace with slow := true } }; let col : Nat := if tj s + 4 * s.rf Reg.PACE_CTRL 16 8 ≤ 200 then 0 else if tj s + 4 * s.rf Reg.PACE_CTRL 16 8 ≤ 340 then 1 else 2; let target : Nat := max (vmin s) (clampN 650 950 (s.rf (Reg.PACE_TABLE (paceIndex (s.reg Reg.PACE_LOAD) col)) 0 12 + s.rf Reg.PACE_STEP 8 8)); let sp : Nat := s.rf Reg.PACE_SETPOINT 0 12; let step : Nat := s.rf Reg.PACE_STEP 0 6;
    s.running 3 = true ∧ s.rb Reg.PACE_CTRL 2 = true ∧ s.rb Reg.PACE_CTRL 0 = true ∧ svcRuns 2 s = true ∧ s.cmdBusy Reg.PACE_RAMP_STATUS = false ∧ target ≤ sp ∧ target ≤ 950 ∧ s.pace.slow = true ∧ sp < min (sp + step) 950) ∧
    (let s : State := { ws [(Reg.PACE_CTRL, 5), (Reg.SVC_CORE_STATE, 0x55), (Reg.PACE_TEMP, 100), (Reg.PACE_SETPOINT, 940)] with pace := { Reset.pace with goodWins := 200 } }; let col : Nat := if tj s + 4 * s.rf Reg.PACE_CTRL 16 8 ≤ 200 then 0 else if tj s + 4 * s.rf Reg.PACE_CTRL 16 8 ≤ 340 then 1 else 2; let target : Nat := max (vmin s) (clampN 650 950 (s.rf (Reg.PACE_TABLE (paceIndex (s.reg Reg.PACE_LOAD) col)) 0 12 + s.rf Reg.PACE_STEP 8 8)); let sp : Nat := s.rf Reg.PACE_SETPOINT 0 12; let step : Nat := s.rf Reg.PACE_STEP 0 6;
    s.running 3 = true ∧ s.rb Reg.PACE_CTRL 2 = true ∧ s.rb Reg.PACE_CTRL 0 = true ∧ svcRuns 2 s = true ∧ s.cmdBusy Reg.PACE_RAMP_STATUS = false ∧ target ≤ sp ∧ target ≤ 950 ∧ s.pace.slow = false ∧ s.rf Reg.PACE_THRESH 16 8 ≤ s.pace.goodWins ∧ max (sp - step) target < sp ∧ sp ≤ 950) := by decide

/-- The hypotheses of SetPointsRampToTheirTarget can be met. -/
theorem wit_SetPointsRampToTheirTarget_2 :
    (let s : State := ws [(Reg.PACE_CTRL, 1)];
    Takes .qspi 3 s ∧ s.running 3 = true ∧ s.rb Reg.PACE_CTRL 0 = true ∧ s.cmdBusy Reg.PACE_RAMP_STATUS = false ∧ vmin s ≤ 950 ∧ s.pace.last < 950) ∧
    (let s : State := ws [(Reg.PACE_CTRL, 1)];
    Takes .qspi 3 s) ∧
    (let s : State := ws [(Reg.PACE_CTRL, 1), (Reg.PACE_RAMP_STATUS, 1)];
    Takes .qspi 3 s ∧ s.cmdBusy Reg.PACE_RAMP_STATUS = true) ∧
    (let s : State := { ws [(Reg.PACE_CTRL, 1), (Reg.PACE_RAMP_STATUS, 1)] with pace := { Reset.pace with ramp := some ⟨900, 900, 0⟩, last := 880 } }; let dt : Nat := 100000000; let t := s.elapse dt;
    s.released 3 = true ∧ s.pace.ramp = some ⟨900, 900, 0⟩ ∧ s.rf Reg.PACE_STEP 16 16 * 1000 ≤ s.now + dt) := by decide

/-- The hypotheses of SetPointsRampToTheirTarget can be met. -/
theorem wit_SetPointsRampToTheirTarget_3 :
    (let s : State := { ws [(Reg.PACE_CTRL, 1), (Reg.PACE_RAMP_STATUS, 1)] with pace := { Reset.pace with ramp := some ⟨900, 875, 0⟩, last := 850 } }; let dt : Nat := 100000000; let t := s.elapse dt;
    s.released 3 = true ∧ s.pace.ramp = some ⟨900, 875, 0⟩ ∧ s.rf Reg.PACE_STEP 16 16 * 1000 ≤ s.now + dt) ∧
    (let s : State := { ws [(Reg.PACE_CTRL, 1), (Reg.PACE_RAMP_STATUS, 1)] with pace := { Reset.pace with ramp := some ⟨900, 875, 0⟩, last := 850 } };
    s.released 3 = true ∧ s.pace.ramp = some ⟨900, 875, 0⟩) := by decide

/-- The hypotheses of GuaranteeFollowsItsConditions can be met. -/
theorem wit_GuaranteeFollowsItsConditions :
    (let s : State := ws [(Reg.PACE_GUAR, 0x13F)];
    s.released 3 = true ∧ s.rb Reg.PACE_GUAR 8 = true ∧ guarBits s ≠ 63) ∧
    (let s : State := { ws [(Reg.PACE_GUAR, 0), (Reg.DRAM_STATUS, 1)] with pace := { Reset.pace with lapsed := true } };
    s.released 3 = true ∧ s.rb Reg.PACE_GUAR 8 = false ∧ guarBits s = 63 ∧ s.pace.lapsed = true) := by decide

/-- The hypotheses of AQuietMachineStaysAsItsCommandLeftIt can be met. -/
theorem wit_AQuietMachineStaysAsItsCommandLeftIt :
    (let s : State := settle State.reset;
    Quiet s ∧ guarUpdate (linePeriod s) s = s) := by decide

/-- The hypotheses of PaceMeasuresAndTakesWhatTheRegulatorSays can be met. -/
theorem wit_PaceMeasuresAndTakesWhatTheRegulatorSays_1 :
    (let s : State := ws [(Reg.PACE_CTRL, 0)];
    s.released 3 = true ∧ Takes .qspi 3 s ∧ s.rb Reg.PACE_CTRL 0 = false) ∧
    (let s : State := ws [(Reg.PACE_CTRL, 1)];
    s.released 3 = true ∧ s.rb Reg.PACE_CTRL 0 = true) ∧
    (let s : State := ws [(Reg.PACE_CTRL, 0)];
    s.released 3 = true ∧ s.rb Reg.PACE_CTRL 0 = false) ∧
    (let s : State := State.reset;
    s.released 3 = true) := by decide

/-- The hypotheses of PaceMeasuresAndTakesWhatTheRegulatorSays can be met. -/
theorem wit_PaceMeasuresAndTakesWhatTheRegulatorSays_2 :
    (let s : State := { ws [(Reg.PACE_GUAR, 0x100)] with pace := { Reset.pace with rose := some (0, 5), lapsed := true } }; let dt : Nat := 5; let t := s.elapse dt;
    s.released 3 = true ∧ s.pace.rose = some (0, 5) ∧ s.rb Reg.PACE_GUAR 8 = true ∧ 0 + 5 ≤ t.now) ∧
    (let s : State := { ws [(Reg.PACE_CTRL, 0)] with pace := { Reset.pace with lines := 100000, slack := [-32768, 32767, 0, 7] } }; let more : List Int := [5, 40000, -40000, 9]; let sl : Nat → Int := fun k => min (at' 32767 s.pace.slack k) (max (-32768) (min (at' 32767 more k) 32767));
    s.released 3 = true ∧ s.rf Reg.PACE_WINDOW 0 16 ≤ s.pace.lines ∧ s.rb Reg.PACE_CTRL 2 = false ∧ s.rf (Reg.errCount 3 3) 0 16 < 0xFFFF ∧ sl 0 < s.rf Reg.PACE_THRESH 0 8) ∧
    (let s : State := { ws [(Reg.PACE_CTRL, 0)] with pace := { Reset.pace with lines := 100000 } }; let more : List Int := [32767, 40000, 32767, 32767]; let sl : Nat → Int := fun k => min (at' 32767 s.pace.slack k) (max (-32768) (min (at' 32767 more k) 32767));
    s.released 3 = true ∧ s.rf Reg.PACE_WINDOW 0 16 ≤ s.pace.lines ∧ s.rb Reg.PACE_CTRL 2 = false ∧ s.rf (Reg.errCount 3 3) 0 16 < 0xFFFF ∧ ([0, 1, 2, 3].all fun k => decide ((s.rf Reg.PACE_THRESH 8 8 : Int) < sl k)) = true) ∧
    (let s : State := State.reset;
    s.released 3 = true ∧ s.pace.lines < s.rf Reg.PACE_WINDOW 0 16) := by decide

/-- The hypotheses of PaceMeasuresAndTakesWhatTheRegulatorSays can be met. -/
theorem wit_PaceMeasuresAndTakesWhatTheRegulatorSays_3 :
    (let s : State := { State.reset with pace := { Reset.pace with col := 2 } };
    s.released 3 = true) := by decide

/-- The hypotheses of JobsAreJudgedQueuedAndRemoved can be met. -/
theorem wit_JobsAreJudgedQueuedAndRemoved_1 :
    (let s : State := ws [(Reg.pageCtrl 0x40, 1), (Reg.pageCtrl 0x10, 1), (Reg.INTAKE_CTRL, 1)]; let d : List Byte := [1, 1, 0, 1, 0, 0, 0, 2, 0, 0, 0, 100, 0, 0, 0, 64, 0, 1, 0, 0, 0, 0, 0, 64, 0, 0, 0, 0]; let l := d ++ beBytes 4 (crc32c d);
    l.length = 32 ∧ s.enabled 0x40 = true ∧ s.running 0x10 = true ∧ s.rb Reg.INTAKE_CTRL 0 = true ∧ NewPage l s) ∧
    (let s : State := ws [(Reg.pageCtrl 0x10, 1), (Reg.INTAKE_DESC 0, 0x01010001), (Reg.INTAKE_DESC 1, 2), (Reg.INTAKE_DESC 3, 0xFFFFFF), (Reg.INTAKE_DESC 4, 0xFFFFFF00), (Reg.INTAKE_DESC 5, 65536), (Reg.INTAKE_DESC 7, W (crc32c [1, 1, 0, 1, 0, 0, 0, 2, 0, 0, 0, 0, 0, 0xFF, 0xFF, 0xFF, 0xFF, 0xFF, 0xFF, 0, 0, 1, 0, 0, 0, 0, 0, 0]))];
    Takes .qspi 0x10 s ∧ bit 1 0 = true ∧ s.running 0x10 = true ∧ NewPage (descWords s) s) ∧
    (let s : State := ws [(Reg.pageCtrl 0x10, 1)];
    Takes .qspi 0x10 s ∧ bit 1 0 = true ∧ s.running 0x10 = true ∧ crc32c ((descWords s).take 28) ≠ beAt (descWords s) 28 4) ∧
    (let s : State := { ws [(Reg.pageCtrl 0x10, 1)] with intake := { State.reset.intake with queue := [(⟨1, 7, 1, 0, 64, 1, 0, 64, 0⟩, []), (⟨1, 8, 1, 0, 64, 1, 0, 64, 0⟩, [])], seq := [⟨⟨1, 7, 0, 0, 64, 1, 0, 64, 0⟩, .armed, some 0, 1, false, false, 0, 0, none, []⟩, ⟨⟨1, 7, 5, 0, 64, 1, 0, 64, 0⟩, .printing, some 0, 1, false, false, 0, 0, none, []⟩] } };
    Takes .chain 0x10 s ∧ Ready 0x10 Reg.INTAKE_CMD_STATUS s) := by decide

/-- The hypotheses of JobsAreJudgedQueuedAndRemoved can be met. -/
theorem wit_JobsAreJudgedQueuedAndRemoved_2 :
    (let s : State := { ws [(Reg.pageCtrl 0x10, 1)] with intake := { State.reset.intake with queue := [(⟨1, 7, 1, 0, 64, 1, 0, 64, 0⟩, []), (⟨1, 8, 1, 0, 64, 1, 0, 64, 0⟩, [])], seq := [⟨⟨1, 7, 0, 0, 64, 1, 0, 64, 0⟩, .armed, some 0, 1, false, false, 0, 0, none, []⟩] } };
    Takes .chain 0x10 s ∧ Ready 0x10 Reg.INTAKE_CMD_STATUS s) ∧
    (let s : State := { State.reset with intake := { State.reset.intake with fails := [⟨1, 2, 3, 4, 5, 6, false, 0, 9⟩] } };
    Takes .svc 0x10 s) := by decide

/-- The hypotheses of PagesArmTakeTheirCueAndBecomeEligible can be met. -/
theorem wit_PagesArmTakeTheirCueAndBecomeEligible_1 :
    (let s : State := { ws [(Reg.pageCtrl 0x10, 1), (Reg.FIRE_PITCH_DEN, 3), (Reg.SVC_CORE_STATE, 0x55), (Reg.PACE_LOAD, 7)] with intake := { State.reset.intake with queue := [(⟨1, 7, 1, 500, 64, 1, 0, 64, 0⟩, [])], last := [⟨7, 3, 1, 10⟩, ⟨8, 3, 1, 10⟩] } }; let d : Desc := ⟨1, 7, 1, 500, 64, 1, 0, 64, 0⟩;
    s.intake.queue = [(d, [])] ∧ s.running 0x10 = true ∧ s.intake.seq.length < 4 ∧ svcRuns 0 s = true ∧ s.intake.loadWait = false ∧ s.reg Reg.PACE_LOAD = pageLoad d.width s ∧ d.mode = 1) ∧
    (let s : State := { ws [(Reg.pageCtrl 0x10, 1), (Reg.SVC_CORE_STATE, 0x55), (Reg.PACE_LOAD, 7)] with intake := { State.reset.intake with queue := [(⟨2, 7, 1, 500, 64, 1, 0, 64, 100⟩, [])] } }; let d : Desc := ⟨2, 7, 1, 500, 64, 1, 0, 64, 100⟩;
    s.intake.queue = [(d, [])] ∧ s.running 0x10 = true ∧ s.intake.seq.length < 4 ∧ svcRuns 0 s = true ∧ s.intake.loadWait = false ∧ s.reg Reg.PACE_LOAD = pageLoad d.width s ∧ d.mode = 2) ∧
    (let s : State := { ws [(Reg.pageCtrl 0x10, 1), (Reg.FIRE_PITCH_DEN, 3), (Reg.FIRE_PITCH_NUM, 5), (Reg.SVC_CORE_STATE, 0x55), (Reg.PACE_LOAD, 7)] with intake := { State.reset.intake with queue := [(⟨0, 7, 1, 500, 64, 1, 0, 64, 0⟩, [])], last := [⟨7, 4294967290 * 3, 3, 10⟩] } }; let d : Desc := ⟨0, 7, 1, 500, 64, 1, 0, 64, 0⟩; let x : LastArm := ⟨7, 4294967290 * 3, 3, 10⟩;
    s.intake.queue = [(d, [])] ∧ s.running 0x10 = true ∧ s.intake.seq.length < 4 ∧ svcRuns 0 s = true ∧ s.intake.loadWait = false ∧ s.reg Reg.PACE_LOAD = pageLoad d.width s ∧ d.mode = 0 ∧ (∀ p ∈ s.intake.seq, p.d.job ≠ d.job) ∧ (s.intake.last.find? fun y => y.job == d.job) = some x ∧ x.den = den s) ∧
    (let s : State := ws [(Reg.INTAKE_CTRL, 2)]; let dt : Nat := 5; let t := s.elapse dt;
    s.released 0x1C = true ∧ s.rb Reg.INTAKE_CTRL 1 = true ∧ s.web.cueIn = none ∧ filtered 0 1 (s.web.cueIn.map (·.2)) t = true) := by decide

/-- The hypotheses of PagesArmTakeTheirCueAndBecomeEligible can be met. -/
theorem wit_PagesArmTakeTheirCueAndBecomeEligible_2 :
    (let s : State := { ws [(Reg.INTAKE_CTRL, 2), (Reg.pageCtrl 0x10, 1)] with intake := { State.reset.intake with seq := [⟨⟨2, 7, 1, 0, 64, 1, 0, 64, -100⟩, .armed, none, 1, false, false, 0, 0, none, []⟩] } }; let dt : Nat := 5; let t := s.elapse dt; let p : Page := ⟨⟨2, 7, 1, 0, 64, 1, 0, 64, -100⟩, .armed, none, 1, false, false, 0, 0, none, []⟩;
    s.released 0x1C = true ∧ s.rb Reg.INTAKE_CTRL 1 = true ∧ s.web.cueIn = none ∧ filtered 0 1 (s.web.cueIn.map (·.2)) t = true ∧ (s.intake.seq.find? fun p => p.start.isNone && p.d.mode == 2) = some p ∧ s.enabled 0x10 = true ∧ 0 ≤ dpos (srcX s) p.d.startPos) ∧
    (let s : State := { State.reset with web := { State.reset.web with cueIn := some (true, 0) } }; let dt : Nat := 1000; let t := s.elapse dt;
    s.released 0x1C = true ∧ s.web.cueIn = some (true, 0) ∧ filtered 0 1 (s.web.cueIn.map (·.2)) t = true) ∧
    (let s : State := { ws [(Reg.WEB_ENC_CFG 0, 0x1F00)] with web := { State.reset.web with cueIn := some (false, 0) } }; let dt : Nat := 5; let t := s.elapse dt;
    filtered 0 1 (s.web.cueIn.map (·.2)) t = false) ∧
    (let s : State := { ws [(Reg.INTAKE_CTRL, 2), (Reg.pageCtrl 0x10, 1)] with intake := { State.reset.intake with seq := [⟨⟨2, 7, 1, 0, 64, 1, 0, 64, -100⟩, .armed, none, 1, false, false, 0, 0, none, []⟩, ⟨⟨0, 7, 2, 9, 64, 1, 0, 64, 0⟩, .armed, none, 1, false, false, 0, 0, none, []⟩] } }; let dt : Nat := 5; let t := s.elapse dt; let p : Page := ⟨⟨2, 7, 1, 0, 64, 1, 0, 64, -100⟩, .armed, none, 1, false, false, 0, 0, none, []⟩; let p2 : Page := ⟨⟨0, 7, 2, 9, 64, 1, 0, 64, 0⟩, .armed, none, 1, false, false, 0, 0, none, []⟩;
    s.released 0x1C = true ∧ s.rb Reg.INTAKE_CTRL 1 = true ∧ s.web.cueIn = none ∧ filtered 0 1 (s.web.cueIn.map (·.2)) t = true ∧ s.intake.seq = [p, p2] ∧ p2.d.mode = 0 ∧ s.enabled 0x10 = true ∧ 0 ≤ dpos (srcX s) p.d.startPos) := by decide

/-- The hypotheses of PagesArmTakeTheirCueAndBecomeEligible can be met. -/
theorem wit_PagesArmTakeTheirCueAndBecomeEligible_3 :
    (let s : State := { ws [(Reg.pageCtrl 0x10, 1), (Reg.SVC_CORE_STATE, 0x55), (Reg.PACE_LOAD, 0), (Reg.PACE_RAMP_STATUS, 1)] with intake := { State.reset.intake with queue := [(⟨2, 7, 1, 500, 64, 1, 0, 64, 100⟩, [])] } }; let dt : Nat := 5; let t := s.elapse dt; let d : Desc := ⟨2, 7, 1, 500, 64, 1, 0, 64, 100⟩;
    s.intake.queue = [(d, [])] ∧ s.running 0x10 = true ∧ s.intake.seq.length < 4 ∧ svcRuns 0 s = true ∧ loadEntry (s.reg Reg.PACE_LOAD) s < loadEntry (pageLoad d.width s) s ∧ loadReady (t.setReg Reg.PACE_LOAD (pageLoad d.width s)) = false) ∧
    (let s : State := { ws [(Reg.pageCtrl 0x10, 1)] with intake := { State.reset.intake with queue := [(⟨2, 7, 1, 500, 64, 1, 0, 64, 100⟩, [])] } };
    s.intake.queue ≠ [] ∧ s.running 0x10 = true ∧ s.intake.seq.length < 4 ∧ svcRuns 0 s = false) ∧
    (let s : State := { ws [(Reg.pageCtrl 0x10, 1), (Reg.SVC_CORE_STATE, 0x55), (Reg.PACE_LOAD, 7)] with intake := { State.reset.intake with queue := [(⟨0, 7, 2, 9, 64, 1, 0, 64, 0⟩, [])], seq := [⟨⟨2, 7, 1, 0, 64, 1, 0, 64, -100⟩, .armed, none, 1, false, false, 0, 0, none, []⟩] } }; let d : Desc := ⟨0, 7, 2, 9, 64, 1, 0, 64, 0⟩;
    s.intake.queue = [(d, [])] ∧ s.running 0x10 = true ∧ s.intake.seq.length < 4 ∧ svcRuns 0 s = true ∧ s.intake.loadWait = false ∧ s.reg Reg.PACE_LOAD = pageLoad d.width s ∧ (s.intake.seq.filter fun y => y.d.job == d.job).getLast? = s.intake.seq.head?) ∧
    (let s : State := { ws [(Reg.pageCtrl 0x10, 1)] with web := { State.reset.web with src := .enc }, intake := { State.reset.intake with seq := [⟨⟨1, 7, 1, 0, 64, 1, 0, 64, 0⟩, .armed, some 0, 1, false, false, 0, 0, none, []⟩] } }; let dt : Nat := 5; let t := s.elapse dt; let p : Page := ⟨⟨1, 7, 1, 0, 64, 1, 0, 64, 0⟩, .armed, some 0, 1, false, false, 0, 0, none, []⟩;
    ((seqKnown s).find? fun p => p.st == .armed && !p.eligible && dueReached p (-64) t) = some p ∧ s.enabled 0x10 = true) := by decide

/-- The hypotheses of BandsArriveInflateAndFallDue can be met. -/
theorem wit_BandsArriveInflateAndFallDue_1 :
    (let s : State := { ws [(Reg.pageCtrl 0x40, 1), (Reg.pageCtrl 0x10, 1), (Reg.INTAKE_CTRL, 1)] with intake := { State.reset.intake with seq := [⟨⟨1, 7, 1, 0, 64, 1, 0, 64, 0⟩, .armed, some 5000000, 1, false, false, 0, 0, none, []⟩] } }; let dt : Nat := 5; let t := s.elapse dt; let seg : List Byte := [0, 7, 0, 0, 0, 0, 0, 1, 0, 0, 0, 0, 0xB1, 1];
    s.enabled 0x40 = true ∧ s.running 0x10 = true ∧ s.rb Reg.INTAKE_CTRL 0 = true ∧ 13 ≤ seg.length ∧ seg.length ≤ 2048 ∧ (findPage (beAt seg 0 2) (beAt seg 4 4) s).isSome = true ∧ (∀ x, x ∈ findPage (beAt seg 0 2) (beAt seg 4 4) s → (bandOf (beAt seg 2 2) x.2).st = .absent) ∧ beAt seg 8 4 = 0 ∧ dueNow (beAt seg 0 2) (beAt seg 4 4) (beAt seg 2 2) t = false ∧ seg.length < 124) ∧
    (let s : State := ws [(Reg.pageCtrl 0x40, 1), (Reg.pageCtrl 0x10, 1), (Reg.INTAKE_CTRL, 1)]; let seg : List Byte := [0, 7, 0, 0, 0, 0, 0, 1, 0, 0, 0, 1, 5];
    s.enabled 0x40 = true ∧ s.running 0x10 = true ∧ s.rb Reg.INTAKE_CTRL 0 = true ∧ 13 ≤ seg.length ∧ seg.length ≤ 2048 ∧ findPage (beAt seg 0 2) (beAt seg 4 4) s = none ∧ beAt seg 8 4 ≠ 0) ∧
    (let s : State := ws [(Reg.pageCtrl 0x40, 1), (Reg.pageCtrl 0x10, 1), (Reg.INTAKE_CTRL, 1)]; let seg : List Byte := [0, 7, 0, 3, 0, 0, 0, 1, 0, 0, 0, 0] ++ List.replicate 2036 0;
    s.enabled 0x40 = true ∧ s.running 0x10 = true ∧ s.rb Reg.INTAKE_CTRL 0 = true ∧ 13 ≤ seg.length ∧ seg.length ≤ 2048 ∧ findPage (beAt seg 0 2) (beAt seg 4 4) s = none ∧ beAt seg 8 4 = 0 ∧ s.intake.fails.length < 64) ∧
    (let s : State := { ws [(Reg.pageCtrl 0x11, 1), (Reg.pageCtrl 0x10, 1)] with intake := { State.reset.intake with seq := [⟨⟨1, 7, 1, 0, 64, 1, 0, 64, 0⟩, .armed, some 0, 1, true, false, 0, 0, none, [⟨0, .stored, true, false, [], 176, 0, some ⟨1, true, false, 0, 64, 64, 1, 64, 0, 0, [64, 0, 0, 0, 0, 0, 0, 0, 0, 0, 0, 0, 0, 0, 0, 0]⟩, some 0, none, false⟩]⟩] } }; let dt : Nat := 5; let t := s.elapse dt; let d : Desc := ⟨1, 7, 1, 0, 64, 1, 0, 64, 0⟩; let b : Band := ⟨0, .stored, true, false, [], 176, 0, some ⟨1, true, false, 0, 64, 64, 1, 64, 0, 0, [64, 0, 0, 0, 0, 0, 0, 0, 0, 0, 0, 0, 0, 0, 0, 0]⟩, some 0, none, false⟩;
    s.running 0x11 = true ∧ s.released 0x10 = true ∧ dispatchBand s.intake.seq = some (d, b) ∧ (handOut 32 t).infl.staging.findIdx? (·.isNone) = some 0 ∧ (s.inForce Reg.INFL_ENGINE_MASK).toNat / 2 ^ 15 % 2 = 1 ∧ engBusy (tget Reset.engine (handOut 32 t).infl.engines 15) = false) := by decide

/-- The hypotheses of BandsArriveInflateAndFallDue can be met. -/
theorem wit_BandsArriveInflateAndFallDue_2 :
    (let s : State := { ws [(Reg.pageCtrl 0x11, 1), (Reg.DRAM_STATUS, 1)] with infl := { State.reset.infl with engines := [(3, ⟨2, 0, some (7, 1, 0), 0⟩)], staging := [some ⟨7, 1, 0, 0, 0xFFFF, 1, [], [], []⟩, none] }, intake := { State.reset.intake with seq := [⟨⟨1, 7, 1, 0, 64, 1, 0, 64, 0⟩, .armed, some 0, 1, true, false, 0, 0, none, [⟨0, .inflating, true, false, [], 176, 0, some ⟨1, true, false, 0, 64, 64, 1, 64, 0, 0, [64, 0, 0, 0, 0, 0, 0, 0, 0, 0, 0, 0, 0, 0, 0, 0]⟩, some 0, none, false⟩]⟩] } }; let dt : Nat := 5; let t := s.elapse dt; let e : Fin 16 := 3; let d : Desc := ⟨1, 7, 1, 0, 64, 1, 0, 64, 0⟩; let h : BandHdr := ⟨1, true, false, 0, 64, 64, 1, 64, 0, 0, [64, 0, 0, 0, 0, 0, 0, 0, 0, 0, 0, 0, 0, 0, 0, 0]⟩; let b : Band := ⟨0, .inflating, true, false, [], 176, 0, some h, some 0, none, false⟩; let g : Staging := ⟨7, 1, 0, 0, 0xFFFF, 1, [], [], []⟩; let x := tget Reset.engine s.infl.engines e;
    engBand e s = some (d, b, h, g) ∧ dramReady s = true ∧ s.released 0x11 = true ∧ (stripRun b h x.strip s).1 = 0 ∧ x.since < t.now) ∧
    (let s : State := { ws [(Reg.pageCtrl 0x11, 1), (Reg.DRAM_STATUS, 1)] with infl := { State.reset.infl with engines := [(3, ⟨2, 0, some (7, 1, 0), 0⟩)], staging := [some ⟨7, 1, 0, 0, 0xFFFF, 1, [], [], []⟩, none] }, intake := { State.reset.intake with seq := [⟨⟨1, 7, 1, 0, 64, 1, 0, 64, 0⟩, .armed, some 0, 1, true, false, 0, 0, none, [⟨0, .inflating, true, false, [], 176, 0, some ⟨1, false, false, 0, 64, 64, 1, 64, 0, 0, [64, 0, 0, 0, 0, 0, 0, 0, 0, 0, 0, 0, 0, 0, 0, 0]⟩, some 0, none, false⟩]⟩] } }; let e : Fin 16 := 3; let d : Desc := ⟨1, 7, 1, 0, 64, 1, 0, 64, 0⟩; let h : BandHdr := ⟨1, false, false, 0, 64, 64, 1, 64, 0, 0, [64, 0, 0, 0, 0, 0, 0, 0, 0, 0, 0, 0, 0, 0, 0, 0]⟩; let b : Band := ⟨0, .inflating, true, false, [], 176, 0, some h, some 0, none, false⟩; let g : Staging := ⟨7, 1, 0, 0, 0xFFFF, 1, [], [], []⟩; let x := tget Reset.engine s.infl.engines e;
    engBand e s = some (d, b, h, g) ∧ dramReady s = true ∧ s.released 0x11 = true ∧ (stripRun b h x.strip s).1 ≠ 0 ∧ s.intake.fails.length < 64) ∧
    (let s : State := { ws [(Reg.pageCtrl 0x10, 1), (Reg.pageCtrl 0x14, 1), (Reg.pageCtrl 0x15, 1)] with web := { State.reset.web with src := .enc }, intake := { State.reset.intake with seq := [⟨⟨1, 7, 1, 0, 640, 2, 0, 64, 0⟩, .printing, some 0, 1, true, false, 1, 64, none, [⟨0, .past, true, false, [], 0, 0, none, none, some (0, 2), false⟩, ⟨1, .verified, true, false, [], 176, 0, some ⟨2, true, false, 2, 64, 64, 1, 64, 0, 0, []⟩, none, none, false⟩]⟩] } }; let dt : Nat := 5; let t := s.elapse dt; let p := s.intake.seq.headD ⟨⟨1, 7, 1, 0, 640, 2, 0, 64, 0⟩, .printing, some 0, 1, true, false, 1, 64, none, []⟩;
    s.enabled 0x10 = true ∧ s.enabled 0x14 = true ∧ s.enabled 0x15 = true ∧ ((seqKnown s).find? fun p => dueLeft p && dueReached p 0 t) = some p ∧ 0 < p.nextBand ∧ (s.intake.seq.find? fun x => x.d.job == p.d.job && x.d.page == p.d.page) = some p ∧ p.sepBad = false ∧ (bandOf p.nextBand p.bands).st = .verified) ∧
    (let s : State := { ws [(Reg.pageCtrl 0x10, 1), (Reg.pageCtrl 0x14, 1), (Reg.pageCtrl 0x15, 1)] with web := { State.reset.web with src := .enc }, intake := { State.reset.intake with seq := [⟨⟨1, 7, 1, 0, 640, 2, 0, 64, 0⟩, .printing, some 0, 1, true, false, 1, 64, none, [⟨0, .past, true, false, [], 0, 0, none, none, some (0, 2), false⟩, ⟨1, .receiving, true, false, [], 112, 0, some ⟨2, true, false, 2, 64, 64, 1, 64, 0, 0, []⟩, none, none, false⟩]⟩] } }; let dt : Nat := 5; let t := s.elapse dt; let p := s.intake.seq.headD ⟨⟨1, 7, 1, 0, 640, 2, 0, 64, 0⟩, .printing, some 0, 1, true, false, 1, 64, none, []⟩;
    s.enabled 0x10 = true ∧ s.enabled 0x14 = true ∧ s.enabled 0x15 = true ∧ ((seqKnown s).find? fun p => dueLeft p && dueReached p 0 t) = some p ∧ 0 < p.nextBand ∧ (s.intake.seq.find? fun x => x.d.job == p.d.job && x.d.page == p.d.page) = some p ∧ p.sepBad = false ∧ (bandOf p.nextBand p.bands).st = .receiving ∧ s.intake.fails.length < 64) := by decide

/-- The hypotheses of BandsArriveInflateAndFallDue can be met. -/
theorem wit_BandsArriveInflateAndFallDue_3 :
    (let s : State := { ws [(Reg.pageCtrl 0x40, 1), (Reg.pageCtrl 0x10, 1), (Reg.INTAKE_CTRL, 1)] with web := { State.reset.web with src := .enc }, intake := { State.reset.intake with seq := [⟨⟨1, 7, 1, 0, 64, 1, 0, 64, 0⟩, .armed, some 0, 1, false, false, 0, 0, none, []⟩] } }; let dt : Nat := 5; let t := s.elapse dt; let seg : List Byte := [0, 7, 0, 0, 0, 0, 0, 1, 0, 0, 0, 0, 0xB1, 1];
    s.enabled 0x40 = true ∧ s.running 0x10 = true ∧ s.rb Reg.INTAKE_CTRL 0 = true ∧ 13 ≤ seg.length ∧ seg.length ≤ 2048 ∧ (findPage (beAt seg 0 2) (beAt seg 4 4) s).isSome = true ∧ dueNow (beAt seg 0 2) (beAt seg 4 4) (beAt seg 2 2) t = true) ∧
    (let s : State := { ws [(Reg.pageCtrl 0x11, 1), (Reg.DRAM_STATUS, 1)] with infl := { State.reset.infl with engines := [(3, ⟨2, 0, some (7, 1, 0), 0⟩), (5, ⟨2, 0, some (7, 1, 0), 0⟩)], staging := [some ⟨7, 1, 0, 0, 0xFFFF, 1, [], [], []⟩, none] }, intake := { State.reset.intake with seq := [⟨⟨1, 7, 1, 0, 64, 1, 0, 64, 0⟩, .armed, some 0, 1, true, false, 0, 0, none, [⟨0, .inflating, true, false, [], 176, 0, some ⟨1, false, false, 0, 64, 64, 1, 64, 0, 0, [64, 0, 0, 0, 0, 0, 0, 0, 0, 0, 0, 0, 0, 0, 0, 0]⟩, some 0, none, false⟩]⟩] } }; let h : BandHdr := ⟨1, false, false, 0, 64, 64, 1, 64, 0, 0, [64, 0, 0, 0, 0, 0, 0, 0, 0, 0, 0, 0, 0, 0, 0, 0]⟩; let b : Band := ⟨0, .inflating, true, false, [], 176, 0, some h, some 0, none, false⟩;
    engBand 3 s = engBand 5 s ∧ (engBand 3 s).isSome = true ∧ dramReady s = true ∧ s.released 0x11 = true ∧ (stripRun b h 0 s).1 ≠ 0 ∧ s.intake.fails.length < 64 ∧ s.rf (Reg.INFL_E_ERR 3) 0 16 < 0xFFFF ∧ s.rf (Reg.INFL_E_ERR 5) 0 16 < 0xFFFF) := by decide

/-- The hypotheses of TablesTakeWordsInTheirInactiveBank can be met. -/
theorem wit_TablesTakeWordsInTheirInactiveBank_1 :
    (let s : State := ws [(Reg.MAP_BANK, 2)]; let w : Word := 131072;
    Takes .qspi 0x14 s ∧ s.enabled 0x16 = false ∧ fld w 0 18 ≠ 0 ∧ fld w 0 18 ≤ 131072) ∧
    (let s : State := ws [(Reg.MAP_BANK, 2)]; let w : Word := 131073;
    Takes .qspi 0x14 s ∧ (s.enabled 0x16 = true ∨ fld w 0 18 = 0 ∨ 131072 < fld w 0 18)) ∧
    (let s : State := ws [(Reg.MAP_BANK, 2)]; let ofs : BitVec 24 := 0x9FFFFC;
    Takes .udp 0x14 s ∧ ofs.toNat % 4 = 0 ∧ ofs.toNat % 0x800000 < 0x200000 ∧ ofs.toNat / 0x800000 ≠ liveBank s ∧ s.shadowPending 0x14 = false ∧ s.cmdBusy Reg.MAP_CMD_STATUS = false) ∧
    (let s : State := ws [(Reg.MAP_BANK, 3)]; let ofs : BitVec 24 := 0x800000;
    Takes .udp 0x14 s ∧ ofs.toNat % 4 = 0 ∧ ofs.toNat % 0x800000 < 0x200000 ∧ ofs.toNat / 0x800000 = liveBank s) := by decide

/-- The hypotheses of TablesTakeWordsInTheirInactiveBank can be met. -/
theorem wit_TablesTakeWordsInTheirInactiveBank_2 :
    (let s : State := ws [(Reg.MAP_TRIM_CTRL, 1), (Reg.MAP_TRIM_ADDR, 0x1FFFF)];
    Takes .qspi 0x14 s ∧ s.rb Reg.MAP_TRIM_CTRL 0 = true ∧ s.rb Reg.MAP_TRIM_ADDR 31 = false) ∧
    (let s : State := ws [(Reg.MAP_TRIM_CTRL, 1), (Reg.MAP_TRIM_ADDR, 0x80000005)];
    Takes .qspi 0x14 s ∧ (s.rb Reg.MAP_TRIM_CTRL 0 = false ∨ s.rb Reg.MAP_TRIM_ADDR 31 = true)) ∧
    (let s : State := { ws [(Reg.MAP_TRIM_ADDR, 0x80000005)] with map := { State.reset.map with trimLive := [(5, 77)] } };
    Reads .qspi 0x14 s) ∧
    (let s : State := State.reset; let ofs : Nat := 0xDFFFC; let a : BitVec 32 := 0x510DFFFC;
    ofs % 4 = 0 ∧ Takes .qspi 0x15 s ∧ ofs < 0x100000 ∧ ofs % 0x80000 < 0x60000 ∧ a.toNat = 0x51000000 + ofs ∧ ofs / 0x80000 ≠ s.rf Reg.SCREEN_BANK 0 1 ∧ s.shadowPending 0x15 = false ∧ s.cmdBusy Reg.SCREEN_CMD_STATUS = false) := by decide

/-- The hypotheses of TablesTakeWordsInTheirInactiveBank can be met. -/
theorem wit_TablesTakeWordsInTheirInactiveBank_3 :
    (let s : State := State.reset; let ofs : Nat := 0x9FFC; let a : BitVec 32 := 0x51109FFC;
    ofs % 4 = 0 ∧ Takes .qspi 0x17 s ∧ ofs < 0x10000 ∧ ofs % 0x8000 < 0x2000 ∧ a.toNat = 0x51100000 + ofs ∧ ofs / 0x8000 ≠ s.rf Reg.FIRE_HIST_BANK 0 1 ∧ s.shadowPending 0x17 = false ∧ s.cmdBusy Reg.FIRE_HIST_CMD_STATUS = false) ∧
    (let s : State := State.reset; let ofs : Nat := 0xFFFC; let a : BitVec 32 := 0x5120FFFC;
    ofs % 4 = 0 ∧ Takes .svc 0x1C s ∧ ofs < 0x10000 ∧ a.toNat = 0x51200000 + ofs) ∧
    (let s : State := State.reset; let ofs : Nat := 0x3C8C0; let a : BitVec 32 := 0x5133C8C0;
    ofs % 4 = 0 ∧ Takes .svc 0x24 s ∧ ofs < 0x40000 ∧ ofs % 0x8000 < 0x48C4 ∧ a.toNat = 0x51300000 + ofs ∧ ofs / 0x8000 % 2 ≠ camBank (ofs / 0x10000) s ∧ s.shadowPending 0x24 = false ∧ s.cmdBusy Reg.ISP_CMD_STATUS = false) ∧
    (let s : State := { State.reset with map := { State.reset.map with trimStaged := [(4, 9), (7, 8)], trimLive := [(1, 1)] } };
    trimsHeld s = []) := by decide

/-- The hypotheses of TablesTakeWordsInTheirInactiveBank can be met. -/
theorem wit_TablesTakeWordsInTheirInactiveBank_4 :
    (let s : State := { State.reset with map := { State.reset.map with trimStaged := [(4, 9), (7, 8)], trimLive := [(1, 1)], held := [(7, 3)], heldAt := 0 } };
    trimsHeld s = [(7, 3)]) := by decide

/-- The hypotheses of TableCommandsCopyAndValidateBanks can be met. -/
theorem wit_TableCommandsCopyAndValidateBanks_1 :
    (let s : State := ws [(Reg.pageCtrl 0x14, 1)];
    Takes .qspi 0x14 s ∧ s.quiescing 0x14 = false ∧ s.cmdBusy Reg.MAP_CMD_STATUS = false ∧ s.shadowPending 0x14 = false) ∧
    (let s : State := ws [(Reg.MAP_BANK, 2)];
    Takes .qspi 0x14 s ∧ s.quiescing 0x14 = false ∧ s.cmdBusy Reg.MAP_CMD_STATUS = false ∧ s.shadowPending 0x14 = false) ∧
    (let s : State := State.reset;
    Takes .qspi 0x15 s ∧ s.quiescing 0x15 = false ∧ s.cmdBusy Reg.SCREEN_CMD_STATUS = false ∧ s.shadowPending 0x15 = false) ∧
    (let s : State := { ws [(Reg.MAP_ENTRY 0 131071 3, 99), (Reg.MAP_ENTRY 1 7 0, 5), (Reg.MAP_CMD_STATUS, 1)] with map := { State.reset.map with op := 1, win0 := [(3, some 4)] } };
    s.released 0x14 = true ∧ s.cmdBusy Reg.MAP_CMD_STATUS = true ∧ s.map.op = 1) := by decide

/-- The hypotheses of TableCommandsCopyAndValidateBanks can be met. -/
theorem wit_TableCommandsCopyAndValidateBanks_2 :
    (let s : State := { ws [(Reg.MAP_NOZZLES, 2), (Reg.MAP_ENTRY 1 1 0, 0x80FF0064), (Reg.MAP_CMD_STATUS, 1)] with map := { State.reset.map with op := 2 } }; let r := validateLoop (bankWords (1 - liveBank s) s) (namings (bankWords (1 - liveBank s) s) (1 - liveBank s) (nozzles s)) (1 - liveBank s) (nozzles s) (List.range (nozzles s)) 0 0 [];
    s.released 0x14 = true ∧ s.cmdBusy Reg.MAP_CMD_STATUS = true ∧ s.map.op = 2 ∧ r = .inr [(0, some 0)]) ∧
    (let s : State := { ws [(Reg.MAP_NOZZLES, 2), (Reg.MAP_ENTRY 1 1 0, 0x81000000), (Reg.MAP_CMD_STATUS, 1)] with map := { State.reset.map with op := 2 } }; let r := validateLoop (bankWords (1 - liveBank s) s) (namings (bankWords (1 - liveBank s) s) (1 - liveBank s) (nozzles s)) (1 - liveBank s) (nozzles s) (List.range (nozzles s)) 0 0 [];
    s.released 0x14 = true ∧ s.cmdBusy Reg.MAP_CMD_STATUS = true ∧ s.map.op = 2 ∧ r = .inl (0x80, 1)) ∧
    (let s : State := ws [(Reg.TILE 0 1 0 0 + 0x5FFFC, 7), (Reg.SCREEN_CMD_STATUS, 1)];
    s.released 0x15 = true ∧ s.cmdBusy Reg.SCREEN_CMD_STATUS = true) := by decide

/-- The hypotheses of LinesAreMappedCheckedAndCounted can be met. -/
theorem wit_LinesAreMappedCheckedAndCounted :
    (let s : State := { ws [(Reg.pageCtrl 0x14, 1), (Reg.pageCtrl 0x15, 1), (Reg.MAP_NOZZLES, 4)] with intake := { State.reset.intake with seq := [⟨⟨1, 7, 1, 0, 640, 2, 0, 64, 0⟩, .printing, some 0, 1, true, false, 1, 0, none, [⟨0, .mapping, true, false, [], 0, 0, none, none, some (0, 2), true⟩]⟩] } }; let b : Band := ⟨0, .mapping, true, false, [], 0, 0, none, none, some (0, 2), true⟩; let p : Page := ⟨⟨1, 7, 1, 0, 640, 2, 0, 64, 0⟩, .printing, some 0, 1, true, false, 1, 0, none, [b]⟩;
    s.running 0x14 = true ∧ s.running 0x15 = true ∧ s.quiescing 0x16 = false ∧ nextLine s = some (p, b, (0, 2)) ∧ b.zero = true) ∧
    (let s : State := { ws [(Reg.pageCtrl 0x14, 1), (Reg.pageCtrl 0x15, 1), (Reg.DRAM_STATUS, 1), (Reg.MAP_NOZZLES, 4)] with infl := { State.reset.infl with staging := [some ⟨7, 1, 0, 0, 0xFFFF, 1, [], [[5, 6]], [crc32c [5, 6]]⟩, none] }, intake := { State.reset.intake with seq := [⟨⟨1, 7, 1, 0, 640, 2, 0, 64, 0⟩, .printing, some 0, 1, true, false, 1, 0, none, [⟨0, .mapping, true, false, [], 0, 0, none, none, some (0, 1), false⟩]⟩] } }; let b : Band := ⟨0, .mapping, true, false, [], 0, 0, none, none, some (0, 1), false⟩; let p : Page := ⟨⟨1, 7, 1, 0, 640, 2, 0, 64, 0⟩, .printing, some 0, 1, true, false, 1, 0, none, [b]⟩; let g : Staging := ⟨7, 1, 0, 0, 0xFFFF, 1, [], [[5, 6]], [crc32c [5, 6]]⟩;
    s.running 0x14 = true ∧ s.running 0x15 = true ∧ s.quiescing 0x16 = false ∧ nextLine s = some (p, b, (0, 1)) ∧ b.zero = false ∧ dramReady s = true ∧ stagingOf p.d.job p.d.page b.no s = some g ∧ crc32c (upsetLine (at' [] g.lines (p.nextLine - 0)) []) = at' 0 g.crcs (p.nextLine - 0)) ∧
    (let s : State := { ws [(Reg.pageCtrl 0x14, 1), (Reg.pageCtrl 0x15, 1), (Reg.DRAM_STATUS, 1), (Reg.MAP_NOZZLES, 4)] with infl := { State.reset.infl with staging := [some ⟨7, 1, 0, 0, 0xFFFF, 1, [], [[5, 6]], [crc32c [5, 6]]⟩, none] }, intake := { State.reset.intake with seq := [⟨⟨1, 7, 1, 0, 640, 2, 0, 64, 0⟩, .printing, some 0, 1, true, false, 1, 0, none, [⟨0, .mapping, true, false, [], 0, 0, none, none, some (0, 1), false⟩]⟩] } }; let b : Band := ⟨0, .mapping, true, false, [], 0, 0, none, none, some (0, 1), false⟩; let p : Page := ⟨⟨1, 7, 1, 0, 640, 2, 0, 64, 0⟩, .printing, some 0, 1, true, false, 1, 0, none, [b]⟩; let g : Staging := ⟨7, 1, 0, 0, 0xFFFF, 1, [], [[5, 6]], [crc32c [5, 6]]⟩;
    s.running 0x14 = true ∧ s.running 0x15 = true ∧ s.quiescing 0x16 = false ∧ nextLine s = some (p, b, (0, 1)) ∧ b.zero = false ∧ dramReady s = true ∧ stagingOf p.d.job p.d.page b.no s = some g ∧ crc32c (upsetLine (at' [] g.lines (p.nextLine - 0)) [(1, 7)]) ≠ at' 0 g.crcs (p.nextLine - 0) ∧ s.intake.fails.length < 64) ∧
    (let s : State := State.reset;
    s.released 0x14 = true ∧ nextLine s = none) := by decide

/-- The hypotheses of FireStartsStopsResumesAndTakesItsPitch can be met. -/
theorem wit_FireStartsStopsResumesAndTakesItsPitch_1 :
    (let s : State := { ws [(Reg.pageCtrl 0x17, 1), (Reg.pageCtrl 0x16, 1)] with fire := { Reset.fire with st := 1, anchored := true }, web := { Reset.web with src := .enc } };
    Takes .qspi 0x17 s ∧ Ready 0x17 Reg.FIRE_CMD_STATUS s ∧ s.fire.st = 1 ∧ s.enabled 0x16 = true) ∧
    (let s : State := { ws [(Reg.pageCtrl 0x17, 1)] with fire := { Reset.fire with st := 1 } };
    Takes .qspi 0x17 s ∧ Ready 0x17 Reg.FIRE_CMD_STATUS s ∧ s.fire.st = 1 ∧ s.enabled 0x16 = false) ∧
    (let s : State := { ws [(Reg.pageCtrl 0x17, 1), (Reg.pageCtrl 0x16, 1)] with fire := { Reset.fire with st := 2, anchored := true, ticks := [⟨0, 0, 0, false, []⟩], reads := [⟨0, 0, 0, none, none, false⟩], trigOn := [(31, some 4)] }, web := { Reset.web with src := .enc } };
    Takes .qspi 0x17 s ∧ Ready 0x17 Reg.FIRE_CMD_STATUS s ∧ 2 ≤ s.fire.st) ∧
    (let s : State := { ws [(Reg.pageCtrl 0x17, 1), (Reg.pageCtrl 0x16, 1)] with fire := { Reset.fire with st := 3, latch := true, posInv := false }, web := { Reset.web with src := .enc } };
    Takes .qspi 0x17 s ∧ Ready 0x17 Reg.FIRE_CMD_STATUS s ∧ s.fire.st = 3 ∧ s.fire.pinLow = false ∧ posValid s = true) := by decide

/-- The hypotheses of FireStartsStopsResumesAndTakesItsPitch can be met. -/
theorem wit_FireStartsStopsResumesAndTakesItsPitch_2 :
    (let s : State := { ws [(Reg.pageCtrl 0x17, 1), (Reg.pageCtrl 0x16, 1)] with fire := { Reset.fire with st := 3, latch := true, pinLow := true } };
    Takes .qspi 0x17 s ∧ Ready 0x17 Reg.FIRE_CMD_STATUS s ∧ s.fire.st = 3 ∧ s.fire.pinLow = true) ∧
    (let s : State := { State.reset with fire := { Reset.fire with st := 2 } };
    Takes .qspi 0x17 s ∧ fld 0x1FFFF 0 16 ≠ 0) ∧
    (let s : State := State.reset;
    Takes .qspi 0x17 s ∧ fld 0x10000 0 16 = 0) ∧
    (let s : State := { State.reset with fire := { Reset.fire with denHeld := some (2, false), bench := 77 } };
    Takes .qspi 0x17 s ∧ s.fire.denHeld = some (2, false) ∧ s.fire.st < 2 ∧ fld 8192 0 16 ≠ 0 ∧ 2 ≤ 16 * fld 8192 0 16 ∧ fld 8192 0 16 ≤ 4096 * 2) := by decide

/-- The hypotheses of FireStartsStopsResumesAndTakesItsPitch can be met. -/
theorem wit_FireStartsStopsResumesAndTakesItsPitch_3 :
    (let s : State := { State.reset with fire := { Reset.fire with denHeld := some (2, false), st := 2 } };
    Takes .qspi 0x17 s ∧ 2 ≤ s.fire.st) ∧
    (let s : State := ws [(Reg.FIRE_WDOG, 0xFFFFFFFF)];
    Takes .qspi 0x17 s) ∧
    (let s : State := State.reset;
    Takes .qspi 0x17 s ∧ s.quiescing 0x17 = false ∧ s.cmdBusy Reg.FIRE_HIST_CMD_STATUS = false ∧ s.shadowPending 0x17 = false) := by decide

/-- The hypotheses of FireReadsTriggersAndInhibits can be met. -/
theorem wit_FireReadsTriggersAndInhibits_1 :
    (let s : State := { ws [(Reg.FIRE_PITCH_DEN, 1), (Reg.FIRE_PITCH_NUM, 10), (Reg.FIRE_CTRL, 0x10), (Reg.pageCtrl 0x18, 1), (Reg.pageCtrl 0x19, 1)] with fire := { Reset.fire with st := 2, anchored := true, segs := [⟨5, 1000, 1, 10⟩], nextRead := 5, nextDec := 5, nextCom := 5, posInv := false }, web := { Reset.web with src := .enc, enc0 := { Reset.enc with cnt := 980 } } }; let dt : Nat := 5; let t := s.elapse dt; let k : Nat := 5;
    s.released 0x17 = true ∧ s.web.src = .enc ∧ 2 ≤ s.fire.st ∧ s.fire.anchored = true ∧ s.quiescing 0x16 = false ∧ s.quiescing 0x17 = false ∧ s.fire.ticks = [] ∧ s.fire.nextRead = k ∧ s.fire.nextDec = k ∧ reached (den s) (moveD (den s) (tickPos k s) (-(((lead s + 1) * num s : Nat) : Int))) t = true ∧ reached (den s) (moveD (den s) (tickPos (k + 1) s) (-(((lead s + 1) * num s : Nat) : Int))) t = false ∧ reached (den s) (moveD (den s) (tickPos k s) (-((lead s * num s : Nat) : Int))) t = false) ∧
    (let s : State := { State.reset with fire := { Reset.fire with ticks := [⟨3, 0, 0, false, []⟩], reads := [⟨3, 31, 7, none, none, false⟩] } }; let h : Fin 32 := 31; let r : Fin 8 := 7; let x : RowRead := ⟨3, 31, 7, none, none, false⟩;
    s.released 0x17 = true ∧ (∀ y ∈ s.fire.ticks, y.st ≠ 1) ∧ (s.fire.reads.find? fun x => x.h == h.val && x.r == r.val && x.levels.isNone) = some x ∧ x.line = none) ∧
    (let s : State := ({ State.reset with fire := { Reset.fire with ticks := [⟨3, 0, 2, false, [⟨31, true, 0, [1, 2, 3], some 40⟩]⟩] } }).setHead 31 { Reset.head with ready := true, nextEdge := 65535 }; let dt : Nat := 10; let t := s.elapse dt; let h : Fin 32 := 31; let x : HeadTick := ⟨31, true, 0, [1, 2, 3], some 40⟩;
    s.released 0x17 = true ∧ ⟨3, 0, 2, false, [x]⟩ ∈ s.fire.ticks ∧ x.h = h.val ∧ x.trig = some 40 ∧ (tapAt 40 t).isSome = true ∧ headUp h s = true) ∧
    (let s : State := { State.reset with fire := { Reset.fire with ticks := [⟨3, 0, 2, false, [⟨31, true, 0, [1, 2, 3], some 43⟩]⟩] } }; let dt : Nat := 10; let t := s.elapse dt; let h : Fin 32 := 31; let x : HeadTick := ⟨31, true, 0, [1, 2, 3], some 43⟩;
    s.released 0x17 = true ∧ ⟨3, 0, 2, false, [x]⟩ ∈ s.fire.ticks ∧ x.h = h.val ∧ x.trig = some 43 ∧ (tapAt 43 t).isSome = true ∧ headUp h s = false) := by decide

/-- The hypotheses of FireReadsTriggersAndInhibits can be met. -/
theorem wit_FireReadsTriggersAndInhibits_2 :
    (let s : State := { State.reset with fire := { Reset.fire with trigOn := [(31, some 3)] } }; let dt : Nat := 200; let t := s.elapse dt; let h : Fin 32 := 31;
    s.released 0x17 = true ∧ tget none s.fire.trigOn h = some 3 ∧ tapAt (3 + 4 * s.rf Reg.FIRE_PULSE 0 12) t = some 3) ∧
    (let s : State := { State.reset with fire := { Reset.fire with taps := [(31, { Reset.tap with mPrev := 40, fails := 15 })] } }; let h : Fin 32 := 31;
    s.released 0x17 = true ∧ tget none s.fire.trigOn h = none) ∧
    (let s : State := { State.reset with fire := { Reset.fire with trigOn := [(31, some 0)] } }; let dt : Nat := 65535; let t := s.elapse dt; let h : Fin 32 := 31;
    s.released 0x17 = true ∧ tget none s.fire.trigOn h = some 0 ∧ (32 * s.rf Reg.FIRE_MAX_WIDTH 0 16 : Nat) ≤ 10 * (nowQ t - 0)) ∧
    (let s : State := { State.reset with fire := { Reset.fire with pinLow := true } };
    s.released 0x17 = true) := by decide

/-- The hypotheses of FireReadsTriggersAndInhibits can be met. -/
theorem wit_FireReadsTriggersAndInhibits_3 :
    (let s : State := { ws [(Reg.MOTION_CFG 0, 4)] with fire := { Reset.fire with st := 2, posInv := false, trigOn := [(31, some 0)] }, web := { Reset.web with src := .enc } };
    s.released 0x17 = true ∧ s.fire.st = 2) := by decide

/-- The hypotheses of HeadLinkServesItsHeads can be met. -/
theorem wit_HeadLinkServesItsHeads_1 :
    (let s : State := ({ ws [(Reg.pageCtrl 0x18, 1), (Reg.pageCtrl 0x19, 1)] with live := [(Reg.HEADS_CFG 31, 1)], lanes := [(0, { Reset.lane with tx := true })] }).setHead 31 { Reset.head with kaAt := some 0, kaSeq := 255, laneFree := 4096001 }; let dt : Nat := 4095; let t := s.elapse dt; let h : Fin 32 := 31;
    s.released 0x18 = true ∧ headInUse h s = true ∧ (s.head h).kaAt = some 0 ∧ 0 + s.rf Reg.HLINK_KA_PERIOD 0 12 ≤ t.now ∧ linkQuiesced s = false ∧ laneWait (headLane h s) t = some 0) ∧
    (let s : State := ({ ws [(Reg.pageCtrl 0x18, 1), (Reg.pageCtrl 0x19, 1)] with live := [(Reg.HEADS_CFG 31, 1)] }).setHead 31 { Reset.head with kaAt := some 0, kaSeq := 255, laneFree := 4096001 }; let dt : Nat := 4095; let t := s.elapse dt; let h : Fin 32 := 31;
    s.released 0x18 = true ∧ headInUse h s = true ∧ (s.head h).kaAt = some 0 ∧ 0 + s.rf Reg.HLINK_KA_PERIOD 0 12 ≤ t.now ∧ linkQuiesced s = false ∧ laneWait (headLane h s) t ≠ some 0) ∧
    (let s : State := ({ ws [(Reg.pageCtrl 0x18, 1), (Reg.pageCtrl 0x19, 1)] with live := [(Reg.HEADS_CFG 31, 1)] }).setHead 31 { Reset.head with run := some ⟨⟨.hcmd, 5, []⟩, 9, 2, 0⟩ }; let dt : Nat := 5; let t := s.elapse dt; let h : Fin 32 := 31; let body : List Byte := [0x82, 9, 0, 0, 0, 1, 7]; let r : HCmdRun := ⟨⟨.hcmd, 5, []⟩, 9, 2, 0⟩;
    s.released 0x18 = true ∧ headInUse h s = true ∧ beAt body 0 1 = 0x82 ∧ frameBroken (headLane h s) (body.length + 6) t = false ∧ (s.head h).run = some r ∧ r.cmd.src = .hcmd ∧ beAt body 1 1 = r.seq ∧ (s.head h).queue = []) ∧
    (let s : State := ({ ws [(Reg.pageCtrl 0x18, 1), (Reg.pageCtrl 0x19, 1), (Reg.HLINK_CMD_TIMEOUT, 1)] with live := [(Reg.HEADS_CFG 31, 1)] }).setHead 31 { Reset.head with run := some ⟨⟨.sub, 5, []⟩, 9, 2, 0⟩, telAt := some 0 }; let dt : Nat := 1000; let t := s.elapse dt; let h : Fin 32 := 31; let r : HCmdRun := ⟨⟨.sub, 5, []⟩, 9, 2, 0⟩;
    s.released 0x18 = true ∧ headInUse h s = true ∧ (s.head h).run = some r ∧ r.sentAt + s.rf Reg.HLINK_CMD_TIMEOUT 0 14 * 1000 ≤ t.now ∧ r.resends < 3 ∧ telOk h t = true) := by decide

/-- The hypotheses of HeadLinkServesItsHeads can be met. -/
theorem wit_HeadLinkServesItsHeads_2 :
    (let s : State := ({ ws [(Reg.pageCtrl 0x18, 1), (Reg.pageCtrl 0x19, 1), (Reg.HLINK_CMD_TIMEOUT, 1)] with live := [(Reg.HEADS_CFG 31, 1)] }).setHead 31 { Reset.head with run := some ⟨⟨.hcmd, 5, []⟩, 9, 3, 0⟩, telAt := some 0 }; let dt : Nat := 1000; let t := s.elapse dt; let h : Fin 32 := 31; let r : HCmdRun := ⟨⟨.hcmd, 5, []⟩, 9, 3, 0⟩;
    s.released 0x18 = true ∧ headInUse h s = true ∧ (s.head h).run = some r ∧ r.sentAt + s.rf Reg.HLINK_CMD_TIMEOUT 0 14 * 1000 ≤ t.now ∧ 3 ≤ r.resends ∧ (s.head h).queue = [] ∧ r.cmd.src = .hcmd) ∧
    (let s : State := { ws [(Reg.pageCtrl 0x18, 1), (Reg.pageCtrl 0x19, 1)] with live := [(Reg.HEADS_CFG 31, 1)] }; let dt : Nat := 5; let t := s.elapse dt; let h : Fin 32 := 31; let b : List Byte := [0x81, 0, 2, 0xA, 0, 0, 1, 2, 3, 4, 0xFF, 0xFF, 0, 0, 0, 0, 0, 9, 0, 2, 0, 0, 0, 50, 1, 2, 3, 4, 5, 6, 7, 8];
    s.released 0x18 = true ∧ headInUse h s = true ∧ beAt b 0 1 = 0x81 ∧ b.length = 32 ∧ frameBroken (headLane h s) 38 t = false ∧ (s.head h).held = true ∧ headUp h s = false) ∧
    (let s : State := ({ ws [(Reg.pageCtrl 0x18, 1), (Reg.pageCtrl 0x19, 1)] with live := [(Reg.HEADS_CFG 31, 1)] }).setHead 31 { Reset.head with telRun := 3 }; let h : Fin 32 := 31;
    s.released 0x18 = true ∧ headInUse h s = true) ∧
    (let s : State := ({ ws [(Reg.pageCtrl 0x18, 1), (Reg.pageCtrl 0x19, 1)] with live := [(Reg.HEADS_CFG 31, 1)] }).setHead 31 { Reset.head with telRun := 3 }; let h : Fin 32 := 31;
    s.released 0x18 = true ∧ beAt [0x83, 0] 0 1 ∉ [0x81, 0x82] ∧ headInUse h s = true) := by decide

/-- The hypotheses of HeadLinkServesItsHeads can be met. -/
theorem wit_HeadLinkServesItsHeads_3 :
    (let s : State := ({ ws [(Reg.pageCtrl 0x18, 1), (Reg.pageCtrl 0x19, 1)] with live := [(Reg.HEADS_CFG 31, 1)], lanes := [(0, { Reset.lane with errAt := some 5 })] }).setHead 31 { Reset.head with telRun := 3 }; let dt : Nat := 5; let t := s.elapse dt; let h : Fin 32 := 31;
    s.released 0x18 = true ∧ frameBroken (headLane h s) (([0x81, 0] : List Byte).length + 6) t = true ∧ headInUse h s = true) ∧
    (let s : State := ({ ws [(Reg.pageCtrl 0x18, 1), (Reg.pageCtrl 0x19, 1)] with live := [(Reg.HEADS_CFG 31, 1)] }).setHead 31 { Reset.head with telAt := some 0, ready := true, hold := false, hstate := 2, port := 10 }; let dt : Nat := 1000000; let t := s.elapse dt; let h : Fin 32 := 31;
    s.released 0x18 = true ∧ headInUse h s = true ∧ (s.head h).telAt ≠ none ∧ telOk h t = false ∧ (s.head h).ready = true) ∧
    (let s : State := ({ ws [(Reg.pageCtrl 0x18, 1), (Reg.pageCtrl 0x19, 1), (Reg.HEADS_HOLD 31, 0)] with live := [(Reg.HEADS_CFG 31, 1)] }).setHead 31 { Reset.head with telAt := some 99000, rejoinAt := some 0 }; let dt : Nat := 100000; let t := s.elapse dt; let h : Fin 32 := 31;
    s.released 0x18 = true ∧ headInUse h s = true ∧ (s.head h).rejoinAt = some 0 ∧ 0 + 100000 ≤ t.now ∧ mayRejoin h t = true) ∧
    (let s : State := ({ ws [(Reg.pageCtrl 0x18, 1), (Reg.pageCtrl 0x19, 1)] with live := [(Reg.HEADS_CFG 31, 1)], lanes := [(0, { Reset.lane with tx := true })] }).setHead 31 { Reset.head with telAt := some 0, cmdSeq := 255 }; let dt : Nat := 5; let t := s.elapse dt; let h : Fin 32 := 31; let w : Word := 0x0400151F;
    Takes .qspi 0x18 s ∧ Ready 0x18 Reg.HLINK_HCMD_STATUS s ∧ fld w 0 5 = h.val ∧ fld w 16 11 ≤ 1024 ∧ headInUse h s = true ∧ s.quiescing 0x19 = false ∧ (s.head h).run = none ∧ (s.head h).queue = [] ∧ telOk h t = true ∧ cmdMayStart h t = true) := by decide

/-- The hypotheses of HeadLinkServesItsHeads can be met. -/
theorem wit_HeadLinkServesItsHeads_4 :
    (let s : State := ({ ws [(Reg.pageCtrl 0x18, 1), (Reg.pageCtrl 0x19, 1)] with live := [(Reg.HEADS_CFG 31, 1)] }).setHead 31 { Reset.head with telAt := some 0, cmdSeq := 255 }; let dt : Nat := 5; let t := s.elapse dt; let h : Fin 32 := 31; let w : Word := 0x0400151F;
    Takes .qspi 0x18 s ∧ Ready 0x18 Reg.HLINK_HCMD_STATUS s ∧ fld w 0 5 = h.val ∧ fld w 16 11 ≤ 1024 ∧ headInUse h s = true ∧ s.quiescing 0x19 = false ∧ (s.head h).run = none ∧ (s.head h).queue = [] ∧ telOk h t = true ∧ cmdMayStart h t = false) ∧
    (let s : State := { ws [(Reg.pageCtrl 0x18, 1), (Reg.pageCtrl 0x19, 1)] with live := [(Reg.HEADS_CFG 31, 1)] }; let dt : Nat := 5; let t := s.elapse dt; let h : Fin 32 := 31; let w : Word := 0x0000151F;
    Takes .qspi 0x18 s ∧ Ready 0x18 Reg.HLINK_HCMD_STATUS s ∧ fld w 0 5 = h.val ∧ fld w 16 11 ≤ 1024 ∧ headInUse h s = true ∧ s.quiescing 0x19 = false ∧ (s.head h).run = none ∧ (s.head h).queue = [] ∧ telOk h t = false) ∧
    (let s : State := { ws [(Reg.pageCtrl 0x18, 1), (Reg.pageCtrl 0x19, 1), (Reg.HEADS_HOLD 31, 0)] with live := [(Reg.HEADS_CFG 31, 1)] }; let h : Fin 32 := 31; let w : Word := 0x80000000;
    Takes .qspi 0x18 s ∧ bit w h = true ∧ headInUse h s = true ∧ holdSet h s = false ∧ headUp h s = false) ∧
    (let s : State := State.reset;
    Takes .qspi 0x19 s) := by decide

/-- The hypotheses of EncodersCountAndPulse can be met. -/
theorem wit_EncodersCountAndPulse_1 :
    (let s : State := { State.reset with web := { Reset.web with enc1 := { Reset.enc with a := true, cnt := 0 } } }; let dt : Nat := 5; let t := s.elapse dt; let e : Fin 2 := 1;
    s.released 0x1C = true ∧ lineOk e false t = true) ∧
    (let s : State := { State.reset with web := { Reset.web with enc0 := { Reset.enc with ills := [0, 0, 0], faulty := false }, src := .enc } }; let dt : Nat := 5; let t := s.elapse dt; let e : Fin 2 := 0; let n := ((t.now :: (s.enc e).ills).filter fun v => t.now - v ≤ s.rf Reg.WEB_FAULT_CFG 16 16 * 1000).length;
    lineOk e false t = true ∧ lineOk e true t = true ∧ s.released 0x1C = true ∧ n = 4 ∧ (s.enc e).faulty = false ∧ s.rf Reg.WEB_FAULT_CFG 0 8 ≤ n ∧ s.web.src = .enc) ∧
    (let s : State := { ws [(Reg.WEB_STANDSTILL, 1)] with web := { Reset.web with enc1 := { Reset.enc with seen := true, valid := true } } }; let dt : Nat := 1001; let t := s.elapse dt; let e : Fin 2 := 1;
    s.released 0x1C = true ∧ (s.enc e).seen = true ∧ (s.enc e).still = false ∧ s.rf Reg.WEB_STANDSTILL 0 14 * 1000 < t.timeNs64 - (s.enc e).te) ∧
    (let s : State := { State.reset with web := { Reset.web with cmp := [(7, { Reset.cmp with pulse := some (5, 9) })] } }; let dt : Nat := 5; let t := s.elapse dt; let c : Fin 8 := 7;
    s.released 0x1C = true ∧ (tget Reset.cmp s.web.cmp c).pulse = some (5, 9) ∧ (tget Reset.cmp s.web.cmp c).active = false ∧ 5 ≤ t.timeNs64) := by decide

/-- The hypotheses of EncodersCountAndPulse can be met. -/
theorem wit_EncodersCountAndPulse_2 :
    (let s : State := { State.reset with web := { Reset.web with cmp := [(7, { Reset.cmp with pulse := some (5, 9), active := true })] } }; let dt : Nat := 9; let t := s.elapse dt; let c : Fin 8 := 7;
    s.released 0x1C = true ∧ (tget Reset.cmp s.web.cmp c).pulse = some (5, 9) ∧ (tget Reset.cmp s.web.cmp c).active = true ∧ 9 ≤ t.timeNs64) ∧
    (let s : State := { ws [(Reg.WEB_ENC_CFG 1, 0x1F00)] with web := { Reset.web with enc1 := { Reset.enc with bAt := some 0 } } }; let dt : Nat := 61; let t := s.elapse dt; let e : Fin 2 := 1;
    s.released 0x1C = true ∧ lineOk e true t = false) ∧
    (let s : State := { ws [(Reg.WEB_ENC_CFG 0, 0x1F00)] with web := { Reset.web with enc0 := { Reset.enc with aAt := some 0 } } }; let dt : Nat := 61; let t := s.elapse dt; let e : Fin 2 := 0;
    s.released 0x1C = true ∧ lineOk e false t = false) ∧
    (let s : State := { State.reset with web := { Reset.web with judged := some 100 } };
    dpos 100 100 ≤ 0 ∧ dpos 0xFFFFFFFF 100 ≤ 0) := by decide

/-- The hypotheses of AnIndexReloadIsWithheldWhileFireRuns can be met. -/
theorem wit_AnIndexReloadIsWithheldWhileFireRuns_1 :
    (let s : State := { ws [(Reg.WEB_ENC_CFG 1, 0xC), (Reg.WEB_IDX_LOAD 1, 0xFFFFFFFF)] with web := { Reset.web with enc1 := { Reset.enc with a := true, b := true, cnt := 77 } } }; let dt : Nat := 5; let t := s.elapse dt; let e : Fin 2 := 1;
    filtered e 2 (s.enc e).iAt t = true ∧ s.released 0x1C = true ∧ (s.rb (Reg.WEB_ENC_CFG e) 2 = false ∨ ((s.enc e).a = true ∧ (s.enc e).b = true)) ∧ s.rf (Reg.WEB_ENC_CFG e) 3 2 = 1) ∧
    (let s : State := { ws [(Reg.WEB_ENC_CFG 0, 0x8)] with fire := { Reset.fire with st := 2 } }; let dt : Nat := 5; let t := s.elapse dt; let e : Fin 2 := 0;
    filtered e 2 (s.enc e).iAt t = true ∧ s.released 0x1C = true ∧ (s.rb (Reg.WEB_ENC_CFG e) 2 = false ∨ ((s.enc e).a = true ∧ (s.enc e).b = true)) ∧ s.rf (Reg.WEB_ENC_CFG e) 3 2 = 1 ∧ 2 ≤ s.fire.st) ∧
    (let s : State := { ws [(Reg.WEB_ENC_CFG 0, 0x10)] with fire := { Reset.fire with st := 3 }, web := { Reset.web with enc0 := { Reset.enc with armed := true, cnt := 9 } } }; let dt : Nat := 5; let t := s.elapse dt; let e : Fin 2 := 0;
    filtered e 2 (s.enc e).iAt t = true ∧ s.released 0x1C = true ∧ s.rb (Reg.WEB_ENC_CFG e) 2 = false ∧ s.rf (Reg.WEB_ENC_CFG e) 3 2 = 2 ∧ (s.enc e).armed = true ∧ 2 ≤ s.fire.st) ∧
    (let s : State := ws [(Reg.WEB_ENC_CFG 0, 0)]; let dt : Nat := 5; let t := s.elapse dt; let e : Fin 2 := 0;
    filtered e 2 (s.enc e).iAt t = true ∧ s.released 0x1C = true ∧ s.rb (Reg.WEB_ENC_CFG e) 2 = false ∧ s.rf (Reg.WEB_ENC_CFG e) 3 2 = 0) := by decide

/-- The hypotheses of AnIndexReloadIsWithheldWhileFireRuns can be met. -/
theorem wit_AnIndexReloadIsWithheldWhileFireRuns_2 :
    (let s : State := { ws [(Reg.WEB_ENC_CFG 1, 0x1F00)] with web := { Reset.web with enc1 := { Reset.enc with iAt := some 0 } } }; let dt : Nat := 123; let t := s.elapse dt; let e : Fin 2 := 1;
    s.released 0x1C = true ∧ filtered e 2 (s.enc e).iAt t = false) := by decide

/-- The hypotheses of WebCommandsSetTheSourceAndTheOutputs can be met. -/
theorem wit_WebCommandsSetTheSourceAndTheOutputs_1 :
    (let s : State := ws [(Reg.pageCtrl 0x1C, 1)];
    Takes .qspi 0x1C s ∧ s.quiescing 0x1C = false ∧ s.cmdBusy Reg.WEB_CMD_STATUS = false) ∧
    (let s : State := ws [(Reg.pageCtrl 0x1C, 1)];
    Takes .qspi 0x1C s ∧ s.quiescing 0x1C = false ∧ s.cmdBusy Reg.WEB_CMD_STATUS = false) ∧
    (let s : State := { ws [(Reg.WEB_LOAD_VAL, 0xFFFFFFFF)] with fire := { Reset.fire with st := 2 } }; let e : Fin 2 := 1;
    Takes .qspi 0x1C s ∧ s.quiescing 0x1C = false ∧ s.cmdBusy Reg.WEB_CMD_STATUS = false ∧ (e = 1 ∨ s.fire.st < 2)) ∧
    (let s : State := { ws [(Reg.WEB_LOAD_VAL, 0xFFFFFFFF)] with fire := { Reset.fire with st := 2 } };
    Takes .qspi 0x1C s ∧ s.quiescing 0x1C = false ∧ s.cmdBusy Reg.WEB_CMD_STATUS = false ∧ 2 ≤ s.fire.st) := by decide

/-- The hypotheses of WebCommandsSetTheSourceAndTheOutputs can be met. -/
theorem wit_WebCommandsSetTheSourceAndTheOutputs_2 :
    (let s : State := State.reset;
    Takes .qspi 0x1C s ∧ s.quiescing 0x1C = false ∧ s.cmdBusy Reg.WEB_CMD_STATUS = false ∧ s.web.enc0.faulty = false) ∧
    (let s : State := { State.reset with web := { Reset.web with enc0 := { Reset.enc with faulty := true } } };
    Takes .qspi 0x1C s ∧ s.quiescing 0x1C = false ∧ s.cmdBusy Reg.WEB_CMD_STATUS = false ∧ s.web.enc0.faulty = true) ∧
    (let s : State := { State.reset with web := { Reset.web with enc0 := { Reset.enc with faulty := true, ills := [1], cnt := 9 }, src := .none_ } };
    Takes .qspi 0x1C s ∧ s.quiescing 0x1C = false ∧ s.cmdBusy Reg.WEB_CMD_STATUS = false ∧ s.web.src = .none_) ∧
    (let s : State := { State.reset with web := { Reset.web with enc0 := { Reset.enc with faulty := true, ills := [1], cnt := 9 }, src := .stakeFb, stake := { Reset.web.stake with xe := 1234 } } };
    Takes .qspi 0x1C s ∧ s.quiescing 0x1C = false ∧ s.cmdBusy Reg.WEB_CMD_STATUS = false ∧ s.web.src = .stakeFb) := by decide

/-- The hypotheses of WebCommandsSetTheSourceAndTheOutputs can be met. -/
theorem wit_WebCommandsSetTheSourceAndTheOutputs_3 :
    (let s : State := ws [(Reg.WEB_CMP_CFG 7, 0x1FF01), (Reg.CMP_ENTRY 7 511 3, 0x10000), (Reg.CMP_ENTRY 7 511 0, 0xFFFFFFFF), (Reg.WEB_CMP_CFG 0, 0x101)];
    Takes .qspi 0x1C s ∧ s.quiescing 0x1C = false ∧ s.cmdBusy Reg.WEB_CMD_STATUS = false) ∧
    (let s : State := State.reset; let w : Word := 0xFFFFFFFF;
    Takes .qspi 0x1C s ∧ s.fire.st < 2 ∧ bit w 0 = true ∧ s.rb Reg.WEB_CTRL 0 = false) ∧
    (let s : State := { ws [(Reg.WEB_CTRL, 1)] with web := { Reset.web with src := .noneS } }; let w : Word := 0;
    Takes .qspi 0x1C s ∧ s.fire.st < 2 ∧ bit w 0 = false ∧ s.rb Reg.WEB_CTRL 0 = true ∧ s.web.enc0.faulty = false) ∧
    (let s : State := { ws [(Reg.WEB_CTRL, 1)] with web := { Reset.web with src := .noneS }, fire := { Reset.fire with st := 3 } }; let w : Word := 0;
    Takes .qspi 0x1C s ∧ 2 ≤ s.fire.st ∧ fld w 0 2 ≠ s.rf Reg.WEB_CTRL 0 2) := by decide

/-- The hypotheses of StakeWordsAreSentTakenAndAge can be met. -/
theorem wit_StakeWordsAreSentTakenAndAge_1 :
    (let s : State := { ws [(Reg.pageCtrl 0x1C, 1), (Reg.WEB_CTRL, 8), (Reg.pageCtrl 0x40, 1)] with web := { Reset.web with stake := { Reset.web.stake with txSeq := 255 } } }; let dt : Nat := 127000; let t := s.elapse dt;
    s.enabled 0x1C = true ∧ chainOn s = true ∧ s.rb Reg.WEB_CTRL 3 = true ∧ s.web.stake.txAt + s.rf Reg.WEB_STAKE_PERIOD 0 7 * 1000 ≤ t.now) ∧
    (let s : State := ws [(Reg.pageCtrl 0x1C, 1), (Reg.WEB_CTRL, 4), (Reg.pageCtrl 0x40, 1)]; let w : List Byte := List.replicate 18 1;
    s.enabled 0x1C = true ∧ s.enabled 0x40 = true ∧ s.rb Reg.WEB_CTRL 2 = true ∧ w.length = 18 ∧ stakeWordOk w s = false) ∧
    (let s : State := { ws [(Reg.pageCtrl 0x1C, 1), (Reg.WEB_CTRL, 4), (Reg.pageCtrl 0x40, 1), (Reg.WEB_STAKE_OFS, 7)] with web := { Reset.web with stake := { Reset.web.stake with seq := some 129 } } }; let b : List Byte := [1, 6, 0, 0, 0xFF, 0xFF, 0xFF, 0xFE, 0, 0, 0, 1, 0, 0, 1, 0]; let w : List Byte := b ++ beBytes 2 (crc16 b);
    s.enabled 0x1C = true ∧ s.enabled 0x40 = true ∧ s.rb Reg.WEB_CTRL 2 = true ∧ w.length = 18 ∧ stakeWordOk w s = true ∧ bit (W (beAt w 1 1)) 0 = false ∧ s.web.stake.learn = none) ∧
    (let s : State := { ws [(Reg.pageCtrl 0x1C, 1), (Reg.WEB_CTRL, 4), (Reg.pageCtrl 0x40, 1), (Reg.WEB_STAKE_OFS, 7)] with web := { Reset.web with src := .enc, enc0 := { Reset.enc with cnt := 500 }, stake := { Reset.web.stake with learn := some 0 } } }; let dt : Nat := 5; let t := s.elapse dt; let b : List Byte := [1, 6, 0, 0, 0xFF, 0xFF, 0xFF, 0xFE, 0, 0, 0, 1, 0, 0, 1, 0]; let w : List Byte := b ++ beBytes 2 (crc16 b);
    s.enabled 0x1C = true ∧ s.enabled 0x40 = true ∧ s.rb Reg.WEB_CTRL 2 = true ∧ w.length = 18 ∧ stakeWordOk w s = true ∧ bit (W (beAt w 1 1)) 0 = false ∧ s.web.stake.learn = some 0 ∧ t.now ≤ s.rf Reg.WEB_STAKE_FRESH 0 10 * 1000 + 0 ∧ s.web.enc0.faulty = false) := by decide

/-- The hypotheses of StakeWordsAreSentTakenAndAge can be met. -/
theorem wit_StakeWordsAreSentTakenAndAge_2 :
    (let s : State := { ws [(Reg.pageCtrl 0x1C, 1), (Reg.WEB_CTRL, 4), (Reg.pageCtrl 0x40, 1), (Reg.WEB_STAKE_OFS, 7), (Reg.WEB_STAKE_FRESH, 1)] with web := { Reset.web with src := .enc, enc0 := { Reset.enc with cnt := 500 }, stake := { Reset.web.stake with learn := some 0 } } }; let dt : Nat := 1001; let t := s.elapse dt; let b : List Byte := [1, 6, 0, 0, 0xFF, 0xFF, 0xFF, 0xFE, 0, 0, 7, 1, 0, 0, 1, 0]; let w : List Byte := b ++ beBytes 2 (crc16 b);
    s.enabled 0x1C = true ∧ s.enabled 0x40 = true ∧ s.rb Reg.WEB_CTRL 2 = true ∧ w.length = 18 ∧ stakeWordOk w s = true ∧ bit (W (beAt w 1 1)) 0 = false ∧ s.web.stake.learn = some 0 ∧ s.rf Reg.WEB_STAKE_FRESH 0 10 * 1000 + 0 < t.now) ∧
    (let s : State := { ws [(Reg.pageCtrl 0x1C, 1), (Reg.WEB_STAKE_FRESH, 1)] with web := { Reset.web with src := .stake, stake := { Reset.web.stake with at_ := some 0 } } }; let dt : Nat := 1001; let t := s.elapse dt;
    s.enabled 0x1C = true ∧ s.web.stake.at_ = some 0 ∧ s.web.stake.stale = false ∧ 0 + s.rf Reg.WEB_STAKE_FRESH 0 10 * 1000 < t.now ∧ s.web.src = .stake) ∧
    (let s : State := { ws [(Reg.pageCtrl 0x1C, 1), (Reg.WEB_STAKE_FRESH, 1)] with web := { Reset.web with src := .stakeFb, stake := { Reset.web.stake with at_ := some 0 } } };
    s.enabled 0x1C = true ∧ s.web.src = .stakeFb) := by decide

/-- The hypotheses of CameraFramesAreAcceptedSkippedOrMissing can be met. -/
theorem wit_CameraFramesAreAcceptedSkippedOrMissing_1 :
    (let s : State := ({ ws [(Reg.pageCtrl 0x23, 1)] with live := [(Reg.CAM_CTRL 3, 1)] }).setCam 3 { Reset.cam with win := some ⟨7, 8, 0, 5, 0⟩, lost := true, bad := 9, skipping := true }; let dt : Nat := 5; let t := s.elapse dt; let p : Fin 4 := 3; let w : CamWin := ⟨7, 8, 0, 5, 0⟩;
    camOn p s = true ∧ camHeld p s = false ∧ s.shadowPending (camPage p) = false ∧ s.shadowPending 0x24 = false ∧ s.shadowPending 0x25 = false ∧ (∀ e ∈ s.cams, ∀ w ∈ e.2.hits, t.now ≤ w.at_) ∧ (s.cam p).cur = none ∧ (s.cam p).win = some w ∧ w.opens ≤ t.now ∧ t.now ≤ w.closes) ∧
    (let s : State := ({ ws [(Reg.pageCtrl 0x23, 1)] with live := [(Reg.CAM_CTRL 3, 1)] }).setCam 3 { Reset.cam with bad := 3 }; let dt : Nat := 5; let t := s.elapse dt; let p : Fin 4 := 3;
    camOn p s = true ∧ camHeld p s = false ∧ s.shadowPending (camPage p) = false ∧ s.shadowPending 0x24 = false ∧ s.shadowPending 0x25 = false ∧ (∀ e ∈ s.cams, ∀ w ∈ e.2.hits, t.now ≤ w.at_) ∧ (s.cam p).cur = none ∧ (s.cam p).win = none) ∧
    (let s : State := { ws [(Reg.pageCtrl 0x23, 1)] with live := [(Reg.CAM_CTRL 3, 1)] }; let dt : Nat := 5; let t := s.elapse dt; let p : Fin 4 := 3;
    camOn p s = true ∧ camHeld p s = false ∧ s.shadowPending (camPage p) = false ∧ s.shadowPending 0x24 = false ∧ s.shadowPending 0x25 = false ∧ (∀ e ∈ s.cams, ∀ w ∈ e.2.hits, t.now ≤ w.at_)) ∧
    (let s : State := { ws [(Reg.pageCtrl 0x23, 1)] with live := [(Reg.CAM_CTRL 3, 1)] }; let p : Fin 4 := 3;
    (0x2B : Nat) ≠ fmtType (s.lf (Reg.CAM_CTRL p) 8 2)) := by decide

/-- The hypotheses of CameraFramesAreAcceptedSkippedOrMissing can be met. -/
theorem wit_CameraFramesAreAcceptedSkippedOrMissing_2 :
    (let s : State := ({ ws [(Reg.pageCtrl 0x23, 1), (Reg.pageCtrl 0x24, 1)] with live := [(Reg.CAM_CTRL 3, 1)] }).setCam 3 { Reset.cam with cur := some { (default : CamFrame) with width := 4, height := 1, idx := 3 } }; let p : Fin 4 := 3; let f : CamFrame := { (default : CamFrame) with width := 4, height := 1, idx := 3 };
    camOn p s = true ∧ (0 : Nat) = s.lf (Reg.CAM_CTRL p) 4 4 ∧ (0x2A : Nat) = fmtType (s.lf (Reg.CAM_CTRL p) 8 2) ∧ (s.cam p).cur = some f ∧ f.rows.length < f.height) ∧
    (let s : State := ({ ws [(Reg.pageCtrl 0x23, 1)] with live := [(Reg.CAM_CTRL 3, 1)] }).setCam 3 { Reset.cam with cur := some { (default : CamFrame) with width := 4, height := 1, idx := 3, trig := 6, dyn := 2 } }; let p : Fin 4 := 3; let f : CamFrame := { (default : CamFrame) with width := 4, height := 1, idx := 3, trig := 6, dyn := 2 };
    camOn p s = true ∧ (s.cam p).cur = some f) ∧
    (let s : State := ({ ws [(Reg.pageCtrl 0x23, 1)] with live := [(Reg.CAM_CTRL 3, 1)] }).setCam 3 { Reset.cam with win := some ⟨7, 8, 0, 4, 0⟩, bad := 3 }; let dt : Nat := 5; let t := s.elapse dt; let p : Fin 4 := 3;
    camOn p s = true ∧ camHeld p s = false ∧ (s.cam p).win = some ⟨7, 8, 0, 4, 0⟩ ∧ 4 < t.now) ∧
    (let s : State := ({ ws [(Reg.pageCtrl 0x23, 1)] with live := [(Reg.CAM_CTRL 3, 1)] }).setCam 3 { Reset.cam with hits := [⟨7, 8, 0, 9, 4⟩] }; let dt : Nat := 5; let t := s.elapse dt; let p : Fin 4 := 3;
    camOn p s = true ∧ camHeld p s = false ∧ s.shadowPending (camPage p) = false ∧ (s.cam p).win = none ∧ (s.cam p).hits = [⟨7, 8, 0, 9, 4⟩] ∧ 4 < t.now) := by decide

/-- The hypotheses of CameraFramesAreAcceptedSkippedOrMissing can be met. -/
theorem wit_CameraFramesAreAcceptedSkippedOrMissing_3 :
    (let s : State := ({ ws [(Reg.pageCtrl 0x23, 1)] with live := [(Reg.CAM_CTRL 3, 1)] }).setCam 3 { Reset.cam with hits := [⟨7, 8, 0, 9, 5⟩] }; let dt : Nat := 5; let t := s.elapse dt; let p : Fin 4 := 3;
    camOn p s = true ∧ camHeld p s = false ∧ s.shadowPending (camPage p) = false ∧ (s.cam p).win = none ∧ (s.cam p).hits = [⟨7, 8, 0, 9, 5⟩] ∧ t.now ≤ 5) := by decide

/-- The hypotheses of CciListsCopiesAndInspectionReads can be met. -/
theorem wit_CciListsCopiesAndInspectionReads_1 :
    (let s : State := ws [(Reg.pageCtrl 0x23, 1)]; let p : Fin 4 := 3;
    Takes .qspi (camPage p) s ∧ Ready (camPage p) (Reg.CAM_CCI_STATUS p) s) ∧
    (let s : State := ws [(Reg.pageCtrl 0x23, 1)]; let p : Fin 4 := 3;
    Takes .qspi (camPage p) s ∧ Ready (camPage p) (Reg.CAM_CCI_STATUS p) s) ∧
    (let s : State := State.reset.setCam 3 { Reset.cam with cci := some ⟨3, 5, true, 0⟩ }; let p : Fin 4 := 3;
    s.released (camPage p) = true ∧ (s.cam p).cci = some ⟨3, 5, true, 0⟩) ∧
    (let s : State := State.reset.setCam 3 { Reset.cam with cci := some ⟨1, 5, true, 0⟩ }; let p : Fin 4 := 3;
    s.released (camPage p) = true ∧ (s.cam p).cci = some ⟨1, 5, true, 0⟩) := by decide

/-- The hypotheses of CciListsCopiesAndInspectionReads can be met. -/
theorem wit_CciListsCopiesAndInspectionReads_2 :
    (let s : State := State.reset;
    Takes .qspi 0x24 s ∧ s.quiescing 0x24 = false ∧ s.cmdBusy Reg.ISP_CMD_STATUS = false ∧ s.shadowPending 0x24 = false) ∧
    (let s : State := ({ ws [(Reg.pageCtrl 0x23, 1), (Reg.pageCtrl 0x25, 1)] with live := [(Reg.CAM_CTRL 3, 1)], fire := { Reset.fire with nextRead := 1 } }).setCam 3 { Reset.cam with frames := [{ (default : CamFrame) with width := 4, height := 10, step := 256, rows := [⟨4, false, [0, 0, 0, 0]⟩], done := true }] };
    inspOn s = true ∧ camPorts s ≠ [] ∧ s.insp.next = 0 ∧ 0 < s.fire.nextRead ∧ (∀ r ∈ camPorts s, sight r 0 s ≠ .wait) ∧ (∃ r ∈ camPorts s, sight r 0 s ≠ .skip)) ∧
    (let s : State := ({ ws [(Reg.pageCtrl 0x23, 1), (Reg.pageCtrl 0x25, 1), (Reg.DRAM_STATUS, 1)] with live := [(Reg.CAM_CTRL 3, 1)], fire := { Reset.fire with nextRead := 1 }, insp := { Reset.insp with reads := [0, 1] } }).setCam 3 { Reset.cam with frames := [{ (default : CamFrame) with width := 4, height := 10, step := 256, rows := [⟨4, false, [0, 0, 0, 0]⟩], done := true }] };
    s.insp.reads = [0, 1] ∧ dramReady s = true ∧ (∃ r ∈ camPorts s, sight r 0 s ≠ .skip) ∧ tagOf 0 s = none) ∧
    (let s : State := ({ ws [(Reg.pageCtrl 0x23, 1), (Reg.pageCtrl 0x25, 1), (Reg.DRAM_STATUS, 1)] with live := [(Reg.CAM_CTRL 3, 1)], fire := { Reset.fire with nextRead := 1 }, insp := { Reset.insp with reads := [0, 1] }, delay := { State.reset.delay with tags := [(0, some ⟨0, true, false, false, 0⟩)] } }).setCam 3 { Reset.cam with frames := [{ (default : CamFrame) with width := 4, height := 10, step := 256, rows := [⟨4, false, [0, 0, 0, 0]⟩], done := true }] };
    s.insp.reads = [0, 1] ∧ dramReady s = true ∧ (∃ r ∈ camPorts s, sight r 0 s ≠ .skip) ∧ tagOf 0 s = some ⟨0, true, false, false, 0⟩ ∧ (0 : Word) = mapStamp s) := by decide

/-- The hypotheses of CciListsCopiesAndInspectionReads can be met. -/
theorem wit_CciListsCopiesAndInspectionReads_3 :
    (let s : State := ({ ws [(Reg.pageCtrl 0x23, 1), (Reg.pageCtrl 0x25, 1), (Reg.DRAM_STATUS, 1)] with live := [(Reg.CAM_CTRL 3, 1)], fire := { Reset.fire with nextRead := 1 }, insp := { Reset.insp with reads := [0, 1] }, delay := { State.reset.delay with tags := [(0, some ⟨0, false, false, false, 0⟩)] } }).setCam 3 { Reset.cam with frames := [{ (default : CamFrame) with width := 4, height := 10, step := 256, rows := [⟨4, false, [0, 0, 0, 0]⟩], done := true }] };
    s.insp.reads = [0, 1] ∧ dramReady s = true ∧ (∃ r ∈ camPorts s, sight r 0 s ≠ .skip) ∧ tagOf 0 s = some ⟨0, false, false, false, 0⟩ ∧ (0 : Word) = mapStamp s ∧ s.dramBad (lineAddr 0 s) (lineBytes s) = false) ∧
    (let s : State := ({ ws [(Reg.pageCtrl 0x23, 1), (Reg.pageCtrl 0x25, 1), (Reg.DRAM_STATUS, 1)] with live := [(Reg.CAM_CTRL 3, 1)], fire := { Reset.fire with nextRead := 1 }, insp := { Reset.insp with reads := [0, 1] }, delay := { State.reset.delay with tags := [(0, some ⟨0, true, false, false, 0⟩)] } }).setCam 3 { Reset.cam with misses := [⟨0, 0, 256, 10⟩] };
    s.insp.reads = [0, 1] ∧ dramReady s = true ∧ (∀ r ∈ camPorts s, sight r 0 s = .skip)) ∧
    (let s : State := { State.reset with insp := { Reset.insp with reads := [0, 1] } };
    dramReady s = false) ∧
    (let s : State := ws [(Reg.CAM_CCI_LIST 3 7, 0x80000000)] |>.setCam 3 { Reset.cam with cci := some ⟨1, 5, true, 0⟩, failed := true }; let p : Fin 4 := 3; let r : CciRun := ⟨1, 5, true, 0⟩;
    s.released (camPage p) = true ∧ (s.cam p).cci = some r ∧ r.started = true ∧ r.op ≠ 3 ∧ cciLen p s = 8) := by decide

/-- The hypotheses of CciListsCopiesAndInspectionReads can be met. -/
theorem wit_CciListsCopiesAndInspectionReads_4 :
    (let s : State := { State.reset with insp := { Reset.insp with reports := [[1], [2]] } };
    Takes .qspi 0x25 s ∧ bit 1 0 = true) := by decide

/-- The hypotheses of TraverseClosesWindowsAndTakesCommands can be met. -/
theorem wit_TraverseClosesWindowsAndTakesCommands_1 :
    (let s : State := { ws [(Reg.pageCtrl 0x28, 1), (Reg.MAP_NOZZLES, 4)] with live := [(Reg.TRAV_CTRL, 1)], trav := { Reset.trav with win := some 0, next := 4096, winNo := 65535 } };
    estOn s = true ∧ s.quiescing 0x28 = false ∧ s.shadowPending 0x28 = false ∧ s.trav.win = some 0 ∧ 0 + winLines s ≤ s.trav.next) ∧
    (let s : State := { ws [(Reg.TRAV_LEASE_TIME, 1)] with trav := { Reset.trav with lease := true } }; let dt : Nat := 1000000; let t := s.elapse dt;
    s.released 0x28 = true ∧ s.trav.lease = true ∧ s.trav.leaseAt + s.rf Reg.TRAV_LEASE_TIME 0 10 * 1000000 ≤ t.now) ∧
    (let s : State := State.reset;
    Takes .svc 0x28 s) ∧
    (let s : State := ws [(Reg.pageCtrl 0x28, 1)];
    Takes .svc 0x28 s ∧ Ready 0x28 Reg.TRAV_CMD_STATUS s) := by decide

/-- The hypotheses of TraverseClosesWindowsAndTakesCommands can be met. -/
theorem wit_TraverseClosesWindowsAndTakesCommands_2 :
    (let s : State := { ws [(Reg.pageCtrl 0x28, 1)] with trav := { Reset.trav with frozen := true } };
    Takes .svc 0x28 s ∧ Ready 0x28 Reg.TRAV_CMD_STATUS s) ∧
    (let s : State := ({ ws [(Reg.pageCtrl 0x28, 1), (Reg.pageCtrl 0x20, 1), (Reg.TRAV_CMD_FIRST, 131071), (Reg.TRAV_CMD_COUNT, 1)] with live := [(Reg.TRAV_CTRL, 0x10001), (Reg.CAM_CTRL 0, 1), (Reg.CAM_SIZE 0, 0x1000004), (Reg.CAM_GEOM_CSTEP 0, 65536)] }).setNoz 131071 { nozReset 0 with st := 4, fail := 3 };
    Takes .svc 0x28 s ∧ Ready 0x28 Reg.TRAV_CMD_STATUS s ∧ s.rf Reg.TRAV_CMD_FIRST 0 17 + s.rf Reg.TRAV_CMD_COUNT 0 18 ≤ 131072 ∧ noCal 131071 s = false) ∧
    (let s : State := ({ ws [(Reg.pageCtrl 0x28, 1), (Reg.pageCtrl 0x20, 1), (Reg.TRAV_CMD_FIRST, 131071), (Reg.TRAV_CMD_COUNT, 1), (Reg.MAP_TRIM_CTRL, 0)] with live := [(Reg.TRAV_CTRL, 0x10001), (Reg.CAM_CTRL 0, 1), (Reg.CAM_SIZE 0, 0x1000004), (Reg.CAM_GEOM_CSTEP 0, 65536)], map := { Reset.map with trimStaged := [(131071, 0x10005)] } }).setNoz 131071 { nozReset 0 with st := 4, fail := 3, mark := true };
    Takes .svc 0x28 s ∧ Ready 0x28 Reg.TRAV_CMD_STATUS s ∧ s.rf Reg.TRAV_CMD_FIRST 0 17 + s.rf Reg.TRAV_CMD_COUNT 0 18 ≤ 131072 ∧ noCal 131071 s = false ∧ s.rb Reg.MAP_TRIM_CTRL 0 = false ∧ (s.noz 131071).st = 4) ∧
    (let s : State := ws [(Reg.pageCtrl 0x28, 1), (Reg.TRAV_CMD_FIRST, 131071), (Reg.TRAV_CMD_COUNT, 2)];
    Takes .svc 0x28 s ∧ Ready 0x28 Reg.TRAV_CMD_STATUS s ∧ 131072 < s.rf Reg.TRAV_CMD_FIRST 0 17 + s.rf Reg.TRAV_CMD_COUNT 0 18) := by decide

/-- The hypotheses of TraverseClosesWindowsAndTakesCommands can be met. -/
theorem wit_TraverseClosesWindowsAndTakesCommands_3 :
    (let s : State := ws [(Reg.pageCtrl 0x28, 1), (Reg.TRAV_SPLICE_OFS, 0xFFFFFFF0), (Reg.TRAV_SPLICE_SPAN, 0x0020FFFF)];
    Takes .svc 0x28 s ∧ Ready 0x28 Reg.TRAV_CMD_STATUS s ∧ s.trav.splices = []) ∧
    (let s : State := (ws [(Reg.pageCtrl 0x28, 1)]).setHead 31 { Reset.head with ready := true }; let h : Fin 32 := 31;
    Takes .svc 0x28 s ∧ Ready 0x28 Reg.TRAV_CMD_STATUS s ∧ (s.head h).ready = true ∧ mayApply true s = false) ∧
    (let s : State := ({ ws [(Reg.pageCtrl 0x28, 1), (Reg.pageCtrl 0x18, 1), (Reg.pageCtrl 0x19, 1)] with live := [(Reg.HEADS_CFG 31, 1), (Reg.TRAV_CTRL, 4)], trav := { Reset.trav with lease := true }, lanes := [(0, { Reset.lane with tx := true })] }).setHead 31 { Reset.head with ready := true, telAt := some 0 }; let h : Fin 32 := 31;
    Takes .svc 0x28 s ∧ Ready 0x28 Reg.TRAV_CMD_STATUS s ∧ (s.head h).ready = true ∧ mayApply true s = true) ∧
    (let s : State := ws [(Reg.pageCtrl 0x28, 1)]; let h : Fin 32 := 31;
    Takes .svc 0x28 s ∧ Ready 0x28 Reg.TRAV_CMD_STATUS s ∧ (s.head h).ready = false) := by decide

/-- The hypotheses of TraverseClosesWindowsAndTakesCommands can be met. -/
theorem wit_TraverseClosesWindowsAndTakesCommands_4 :
    (let s : State := { ws [(Reg.TRAV_NOZ_ADDR, 0x1FFFF), (Reg.TRAV_SUBSYNC, 0xFFFFFFFF)] with live := [(Reg.HEADS_CFG 31, 1), (Reg.HEADS_RANGE 31, 131071)] }; let n := s.rf Reg.TRAV_NOZ_ADDR 0 17;
    Takes .svc 0x28 s ∧ s.lb Reg.TRAV_CTRL 2 = false ∧ headOf n s = some 31) ∧
    (let s : State := ws [(Reg.pageCtrl 0x28, 1)]; let dt : Nat := 5; let t := s.elapse dt;
    s.enabled 0x28 = true ∧ s.lb Reg.TRAV_CTRL 4 = false ∧ filtered 0 2 s.web.spliceAt t = true) ∧
    (let s : State := { ws [(Reg.pageCtrl 0x28, 1), (Reg.WEB_ENC_CFG 0, 0x1F00)] with live := [(Reg.TRAV_CTRL, 16)], web := { Reset.web with spliceAt := some 0 } }; let dt : Nat := 123; let t := s.elapse dt;
    filtered 0 2 s.web.spliceAt t = false) ∧
    (let s : State := { ws [(Reg.pageCtrl 0x28, 1), (Reg.WEB_ENC_CFG 0, 0x1F00), (Reg.TRAV_SPLICE_SPAN, 0x20010)] with live := [(Reg.TRAV_CTRL, 16)], web := { Reset.web with spliceAt := some 0 } }; let dt : Nat := 124; let t := s.elapse dt;
    s.enabled 0x28 = true ∧ filtered 0 2 s.web.spliceAt t = true ∧ s.lb Reg.TRAV_CTRL 4 = true ∧ s.trav.splices = []) := by decide

/-- The hypotheses of TraverseClosesWindowsAndTakesCommands can be met. -/
theorem wit_TraverseClosesWindowsAndTakesCommands_5 :
    (let s : State := (ws [(Reg.TRAV_NOZ_ADDR, 0x1FFFF)]).setNoz 131071 { nozReset 0 with sub := 3, lastG := 70000, lastD := -1 };
    Reads .svc 0x28 s) := by decide

/-- The hypotheses of LaneQuadsAndTransmittersFollowTheirControls can be met. -/
theorem wit_LaneQuadsAndTransmittersFollowTheirControls_1 :
    (let s : State := ws [(Reg.LANEQ_PLL 11 1, 1), (Reg.LANEQ_STATUS 11, 3), (Reg.LANE_CFG 47, 0xD)]; let q : Fin 12 := 11; let j : Fin 2 := 1;
    s.released (0x30 + q.val) = true ∧ s.rb (Reg.LANEQ_PLL q j) 0 = true ∧ s.rb (Reg.LANEQ_STATUS q) 0 = true ∧ s.rb (Reg.LANEQ_STATUS q) (1 + j) = false) ∧
    (let s : State := (ws [(Reg.LANEQ_PLL 11 1, 1), (Reg.LANEQ_STATUS 11, 7), (Reg.LANE_CFG 47, 0xD), (Reg.LANE_CFG 44, 0xC)]).setLane 47 { Reset.lane with rx := 3 }; let q : Fin 12 := 11; let j : Fin 2 := 1;
    s.released (0x30 + q.val) = true ∧ s.rb (Reg.LANEQ_STATUS q) (1 + j) = true ∧ laneRole 47 s ≠ 0 ∧ s.rf (Reg.LANE_CFG 47) 3 1 = j.val) ∧
    (let s : State := ws [(Reg.LANEQ_STATUS 11, 7)]; let q : Fin 12 := 11;
    s.released (0x30 + q.val) = true ∧ s.rb (Reg.LANEQ_STATUS q) 0 = true) ∧
    (let s : State := State.reset; let q : Fin 12 := 11;
    s.released (0x30 + q.val) = true) := by decide

/-- The hypotheses of LaneQuadsAndTransmittersFollowTheirControls can be met. -/
theorem wit_LaneQuadsAndTransmittersFollowTheirControls_2 :
    (let s : State := ws [(Reg.LANEQ_PLL 11 0, 3), (Reg.LANE_CTRL 47, 0x1FF)]; let l : Fin 48 := 47; let w : Word := 0x33;
    Takes .qspi (lanePage l) s ∧ fld w 0 3 ≤ 5 ∧ laneCfgOk l (w &&& 0x333F) s = true) ∧
    (let s : State := (ws [(Reg.LANEQ_PLL 11 0, 3), (Reg.LANE_CFG 47, 0x33)]).setLane 47 { Reset.lane with rx := 3 }; let l : Fin 48 := 47; let w : Word := 0x30;
    Takes .qspi (lanePage l) s ∧ fld w 0 3 ≤ 5 ∧ laneCfgOk l (w &&& 0x333F) s = true ∧ fld w 0 3 = 0) ∧
    (let s : State := ws [(Reg.LANEQ_PLL 11 0, 3)]; let l : Fin 48 := 47; let w : Word := 0x37; let v : Word := put (w &&& 0x333F) 0 3 (laneRole l s);
    Takes .qspi (lanePage l) s ∧ 5 < fld w 0 3 ∧ laneCfgOk l v s = true) ∧
    (let s : State := State.reset; let l : Fin 48 := 47;
    Takes .qspi (lanePage l) s ∧ s.rf (Reg.LANE_CTRL l) 1 5 = 0) := by decide

/-- The hypotheses of LaneQuadsAndTransmittersFollowTheirControls can be met. -/
theorem wit_LaneQuadsAndTransmittersFollowTheirControls_3 :
    (let s : State := ws [(Reg.LANE_CFG 47, 1)]; let l : Fin 48 := 47;
    Takes .qspi (lanePage l) s ∧ (laneRole l s = 1 ∨ laneRole l s = 4) ∧ s.rf (Reg.LANE_CTRL l) 1 5 = 0) ∧
    (let s : State := ws [(Reg.LANEQ_PLL 11 0, 0)]; let l : Fin 48 := 47; let w : Word := 0x35;
    Takes .qspi (lanePage l) s ∧ fld w 0 3 ≤ 5 ∧ laneCfgOk l (w &&& 0x333F) s = false) ∧
    (let s : State := (ws [(Reg.LANEQ_STATUS 11, 7), (Reg.LANE_CFG 47, 3)]).setLane 47 { Reset.lane with rx := 3 }; let l : Fin 48 := 47;
    Takes .qspi (lanePage l) s ∧ (laneRole l s = 5 ∨ ((laneRole l s = 2 ∨ laneRole l s = 3) ∧ s.rf (Reg.LANE_CTRL l) 1 5 = 0))) ∧
    (let s : State := ws [(Reg.LANEQ_STATUS 11, 7), (Reg.LANE_CFG 47, 3), (Reg.LANE_CTRL 47, 1)]; let l : Fin 48 := 47;
    Takes .qspi (lanePage l) s ∧ (laneRole l s = 2 ∨ laneRole l s = 3) ∧ s.rf (Reg.LANE_CTRL l) 1 5 = 0) := by decide

/-- The hypotheses of LaneQuadsAndTransmittersFollowTheirControls can be met. -/
theorem wit_LaneQuadsAndTransmittersFollowTheirControls_4 :
    (let s : State := ws [(Reg.LANEQ_STATUS 11, 7), (Reg.LANE_CFG 47, 5), (Reg.LANE_CTRL 47, 0xFF)]; let l : Fin 48 := 47;
    Takes .qspi (lanePage l) s ∧ laneRole l s = 5) ∧
    (let s : State := ws [(Reg.LANEQ_STATUS 11, 7), (Reg.LANE_CFG 47, 5)]; let l : Fin 48 := 47;
    Takes .qspi (lanePage l) s ∧ laneRole l s = 5) ∧
    (let s : State := ws [(Reg.LANEQ_STATUS 11, 7), (Reg.LANE_CFG 47, 4)]; let l : Fin 48 := 47;
    Takes .qspi (lanePage l) s ∧ laneRole l s ≠ 5) := by decide

/-- The hypotheses of LaneReceiversHuntLockAndCount can be met. -/
theorem wit_LaneReceiversHuntLockAndCount_1 :
    (let s : State := (ws [(Reg.LANE_CFG 47, 3)]).setLane 47 { Reset.lane with rx := 1 }; let l : Fin 48 := 47;
    s.released (lanePage l) = true ∧ laneRole l s ≠ 0 ∧ (s.lane l).rx = 1) ∧
    (let s : State := State.reset.setLane 47 { Reset.lane with rx := 2, signal := true }; let l : Fin 48 := 47;
    s.released (lanePage l) = true ∧ (s.lane l).rx ≠ 3) ∧
    (let s : State := (ws [(Reg.LANE_CFG 47, 3), (Reg.pageCtrl 0x40, 1)]).setLane 47 { Reset.lane with rx := 2, signal := true }; let l : Fin 48 := 47;
    s.released (lanePage l) = true ∧ (s.lane l).rx = 2) ∧
    (let s : State := (ws [(Reg.LANE_LOCKLOSS 47, 0xFFFE), (Reg.LANE_CFG 47, 3), (Reg.pageCtrl 0x40, 1)]).setLane 47 { Reset.lane with rx := 3, signal := true }; let l : Fin 48 := 47;
    s.released (lanePage l) = true ∧ (s.lane l).rx = 3 ∧ s.rf (Reg.LANE_LOCKLOSS l) 0 16 < 0xFFFF ∧ s.rf (Reg.LANE_SYMERR l) 0 16 + 4 < 0xFFFF) := by decide

/-- The hypotheses of LaneReceiversHuntLockAndCount can be met. -/
theorem wit_LaneReceiversHuntLockAndCount_2 :
    (let s : State := State.reset.setLane 47 { Reset.lane with rx := 3, signal := true }; let l : Fin 48 := 47;
    s.released (lanePage l) = true ∧ (s.lane l).rx = 3) ∧
    (let s : State := (ws [(Reg.LANE_SKIP_INS 47, 0xFFFFFFFF)]).setLane 47 { Reset.lane with rx := 3, signal := true }; let l : Fin 48 := 47;
    s.released (lanePage l) = true ∧ (s.lane l).rx = 3) ∧
    (let s : State := (ws [(Reg.LANE_SKIP_INS 47, 0xFFFFFFFF)]).setLane 47 { Reset.lane with rx := 3, signal := true };
    (((State.reset.lane 47).fill : Int) + 8 ≤ 16) ∧ 0 ≤ ((s.lane 47).fill : Int) - 8) ∧
    (let s : State := (ws [(Reg.LANE_RXEQ 47, 0x70)]).setLane 47 { Reset.lane with rx := 3, prev := some 0, fail := 9 }; let dt : Nat := 1000000; let t := s.elapse dt; let l : Fin 48 := 47; let pass : BitVec 64 := 0xF00000000000000F;
    s.released (lanePage l) = true ∧ laneLock l s = true ∧ s.rb (Reg.LANE_RXEQ l) 6 = true ∧ (s.lane l).eyeAt + s.rf Reg.LANE_EYE_CFG 0 10 * 1000 ≤ t.now ∧ circularRuns (toBits 64 pass.toNat) = [(60, 8)] ∧ (s.lane l).prev = some 0 ∧ (circ 7 127 0).natAbs ≤ 2 * s.rf Reg.LANE_EYE_CFG 16 4) := by decide

/-- The hypotheses of LaneReceiversHuntLockAndCount can be met. -/
theorem wit_LaneReceiversHuntLockAndCount_3 :
    (let s : State := (ws [(Reg.LANE_RXEQ 47, 0x70)]).setLane 47 { Reset.lane with rx := 3, prev := some 0, fail := 15 }; let dt : Nat := 1000000; let t := s.elapse dt; let l : Fin 48 := 47;
    s.released (lanePage l) = true ∧ laneLock l s = true ∧ s.rb (Reg.LANE_RXEQ l) 6 = true ∧ (s.lane l).eyeAt + s.rf Reg.LANE_EYE_CFG 0 10 * 1000 ≤ t.now) ∧
    (let s : State := (ws [(Reg.LANE_RXEQ 47, 0x30)]).setLane 47 { Reset.lane with rx := 3, prev := some 0, fail := 15 }; let l : Fin 48 := 47;
    s.released (lanePage l) = true ∧ laneLock l s = true ∧ s.rb (Reg.LANE_RXEQ l) 6 = false ∧ s.rb (Reg.LANE_RXEQ l) 4 = true ∧ s.rb (Reg.LANE_RXEQ l) 5 = true) ∧
    (let s : State := ws [(Reg.LANE_CFG 47, 5), (Reg.LANE_CTRL 47, 0x90)]; let l : Fin 48 := 47;
    s.released (lanePage l) = true ∧ prbsChecks l s = true ∧ (s.lane l).prbs = false) ∧
    (let s : State := (ws [(Reg.LANE_CFG 47, 5), (Reg.LANE_CTRL 47, 0x90), (Reg.LANE_PRBS_ERR 47, 0xFFFFFFFF)]).setLane 47 { Reset.lane with prbs := true }; let l : Fin 48 := 47;
    s.released (lanePage l) = true ∧ prbsChecks l s = true ∧ (s.lane l).prbs = true) := by decide

/-- The hypotheses of LaneReceiversHuntLockAndCount can be met. -/
theorem wit_LaneReceiversHuntLockAndCount_4 :
    (let s : State := (ws [(Reg.LANE_CFG 47, 5), (Reg.LANE_CTRL 47, 0x90)]).setLane 47 { Reset.lane with prbs := true }; let l : Fin 48 := 47;
    s.released (lanePage l) = true ∧ prbsChecks l s = true ∧ (s.lane l).prbs = true) := by decide

/-- The hypotheses of ChainFramesAreCheckedDeliveredAndKept can be met. -/
theorem wit_ChainFramesAreCheckedDeliveredAndKept_1 :
    (let s : State := State.reset; let fr := frame ([0x60, 5, 63] ++ beBytes 1 0 ++ beBytes 2 20 ++ beBytes 2 0xFFFF ++ List.replicate 20 1); let lanes : List LaneStream := (stripe 3 fr).map fun b => ⟨64, b⟩;
    fr.length = 12 + beAt fr 4 2 ∧ lanes.map (·.body) = stripe 3 fr ∧ (∀ x ∈ lanes, x.skew ≤ 64)) ∧
    (let s : State := { ws [(Reg.pageCtrl 0x40, 1), (Reg.CHAIN_CTRL, 0x105), (Reg.LANE_CFG 0, 0x2), (Reg.LANE_CFG 1, 0x102), (Reg.LANEQ_STATUS 0, 3)] with chain := { Reset.chain with up := [1] } }; let dt : Nat := 5; let t := s.elapse dt; let port : Fin 64 := 1; let p : List Byte := List.replicate 20 1; let fr := frame ([0x60, 5, 63] ++ beBytes 1 0 ++ beBytes 2 p.length ++ beBytes 2 0xFFFF ++ p); let lanes : List LaneStream := (stripe (portLanes port s).length fr).map fun b => ⟨3, b⟩;
    s.enabled 0x40 = true ∧ s.chain.up.contains port.val = true ∧ realign (portLanes port s).length lanes = some fr ∧ (∀ l ∈ portLanes port s, frameBroken l ((lanes.map fun x => x.body.length).foldl max 0 + 2) t = false) ∧ (5 : Byte).toNat = nodeId s ∧ (63 : Byte).toNat < 64 ∧ (63 : Byte).toNat ≠ nodeId s ∧ p.length ≤ 2048 ∧ lenOk 0x60 p.length p = some true) ∧
    (let s : State := { ws [(Reg.pageCtrl 0x40, 1), (Reg.CHAIN_CTRL, 0x105), (Reg.LANE_CFG 0, 0x2), (Reg.LANE_CFG 1, 0x102), (Reg.LANEQ_STATUS 0, 3)] with chain := { Reset.chain with up := [1] } }; let dt : Nat := 5; let t := s.elapse dt; let port : Fin 64 := 1; let p : List Byte := List.replicate 20 1; let fr := frame ([0x60, 7, 63] ++ beBytes 1 15 ++ beBytes 2 p.length ++ beBytes 2 0xFFFF ++ p); let lanes : List LaneStream := (stripe (portLanes port s).length fr).map fun b => ⟨3, b⟩;
    s.enabled 0x40 = true ∧ s.chain.up.contains port.val = true ∧ realign (portLanes port s).length lanes = some fr ∧ (∀ l ∈ portLanes port s, frameBroken l ((lanes.map fun x => x.body.length).foldl max 0 + 2) t = false) ∧ (7 : Byte).toNat ≠ nodeId s ∧ (63 : Byte).toNat ≠ nodeId s ∧ lenOk 0x60 p.length p = some true ∧ isTime 0x60 = false ∧ 15 % 16 ≠ 0) ∧
    (let s : State := { ws [(Reg.pageCtrl 0x40, 1), (Reg.CHAIN_CTRL, 0x105), (Reg.LANE_CFG 0, 0x2), (Reg.LANE_CFG 1, 0x102), (Reg.LANEQ_STATUS 0, 3)] with chain := { Reset.chain with up := [1] } }; let dt : Nat := 5; let t := s.elapse dt; let port : Fin 64 := 1; let fr : List Byte := [0x60, 5, 63, 0]; let lanes : List LaneStream := (stripe (portLanes port s).length fr).map fun b => ⟨3, b⟩;
    s.enabled 0x40 = true ∧ s.chain.up.contains port.val = true ∧ realign (portLanes port s).length lanes = some fr ∧ (∀ l ∈ portLanes port s, frameBroken l ((lanes.map fun x => x.body.length).foldl max 0 + 2) t = false) ∧ crc32 (fr.take (8 + beAt fr 4 2)) ≠ beAt fr (8 + beAt fr 4 2) 4) := by decide

/-- The hypotheses of ChainFramesAreCheckedDeliveredAndKept can be met. -/
theorem wit_ChainFramesAreCheckedDeliveredAndKept_2 :
    (let s : State := { ws [(Reg.pageCtrl 0x40, 1), (Reg.CHAIN_CTRL, 0x105), (Reg.LANE_CFG 0, 0x2), (Reg.LANE_CFG 1, 0x102), (Reg.LANEQ_STATUS 0, 3)] with chain := { Reset.chain with up := [1] } }; let port : Fin 64 := 1; let lanes : List LaneStream := [⟨65, [1]⟩];
    s.enabled 0x40 = true ∧ s.chain.up.contains port.val = true ∧ realign (portLanes port s).length lanes = none) ∧
    (let s : State := { { ws [(Reg.pageCtrl 0x40, 1), (Reg.CHAIN_CTRL, 0x105), (Reg.LANE_CFG 0, 0x2), (Reg.LANE_CFG 1, 0x102), (Reg.LANEQ_STATUS 0, 3)] with chain := { Reset.chain with up := [1] } } with chain := { Reset.chain with up := [1], busy := [1, 2] } };
    s.enabled 0x40 = true) ∧
    (let s : State := { (({ ws [(Reg.pageCtrl 0x40, 1), (Reg.CHAIN_CTRL, 0x105), (Reg.LANE_CFG 0, 0x2), (Reg.LANE_CFG 1, 0x102), (Reg.LANEQ_STATUS 0, 3)] with chain := { Reset.chain with up := [1] } }).setLane 0 { Reset.lane with tx := true, idle := false }).setLane 1 { Reset.lane with tx := true, idle := false } with chain := { Reset.chain with up := [1], queue := [⟨1, 4, false, 0x60, 255, 5, 1, 7, .keep, none⟩] } }; let port : Nat := 1; let f : TxFrame := ⟨1, 4, false, 0x60, 255, 5, 1, 7, .keep, none⟩;
    port ∉ s.chain.busy ∧ port ∈ s.chain.up ∧ s.quiescing 0x40 = false ∧ portReady port s = true ∧ launchHold port s = false ∧ (s.chain.queue.filter fun g => g.port == port) = [f] ∧ f.level < 9 ∧ f.stamp = none) ∧
    (let s : State := { ws [(Reg.pageCtrl 0x40, 1), (Reg.CHAIN_CTRL, 0x1105)] with chain := { Reset.chain with keepAt := some 0, seq := 65535 } }; let dt : Nat := 1023000; let t := s.elapse dt;
    s.enabled 0x40 = true ∧ s.quiescing 0x40 = false ∧ s.rb Reg.CHAIN_CTRL 12 = true ∧ s.chain.keepAt = some 0 ∧ 0 + s.rf Reg.CHAIN_KEEP_PERIOD 0 10 * 1000 ≤ t.now) := by decide

/-- The hypotheses of ChainFramesAreCheckedDeliveredAndKept can be met. -/
theorem wit_ChainFramesAreCheckedDeliveredAndKept_3 :
    (let s : State := { ws [(Reg.pageCtrl 0x40, 1), (Reg.CHAIN_CTRL, 0x105)] with chain := { Reset.chain with lost := [63] } }; let n : Fin 64 := 63; let p : List Byte := List.replicate 20 1;
    s.enabled 0x40 = true ∧ n.val ≠ nodeId s ∧ p.length = 20 ∧ beAt p 0 1 = 1 ∧ n.val ∈ s.chain.lost) ∧
    (let s : State := ws [(Reg.pageCtrl 0x40, 1), (Reg.CHAIN_WATCH 1, 0x80000000), (Reg.CHAIN_SEEN 1, 0x80000000)]; let dt : Nat := 65535000; let t := s.elapse dt; let n : Fin 64 := 63;
    s.enabled 0x40 = true ∧ s.rb (Reg.CHAIN_WATCH (n.val / 32)) (n.val % 32) = true ∧ s.chain.lost.contains n.val = false ∧ mget (fun _ => 0) s.chain.seenAt n.val = 0 ∧ s.chain.since + s.rf Reg.CHAIN_KEEP_TIMEOUT 0 16 * 1000 ≤ t.now) ∧
    (let s : State := ws [(Reg.pageCtrl 0x40, 1), (Reg.CHAIN_CTRL, 0x105), (Reg.SVC_CORE_STATE, 0x55)]; let n : Fin 64 := 63; let p : List Byte := List.replicate 12 7;
    s.enabled 0x40 = true ∧ n.val ≠ nodeId s ∧ p.length = 12 ∧ svcRuns 10 s = true) ∧
    (let s : State := ws [(Reg.pageCtrl 0x40, 1)]; let p : List Byte := List.replicate 264 7;
    s.enabled 0x40 = true ∧ 8 ≤ p.length ∧ p.length ≤ 264) := by decide

/-- The hypotheses of RegisterRequestsAndLaunchesAreAnswered can be met. -/
theorem wit_RegisterRequestsAndLaunchesAreAnswered_1 :
    (let s : State := ws [(Reg.pageCtrl 0x40, 1), (Reg.CHAIN_CTRL, 0x105), (Reg.CHAIN_REGMASK 1, 0)]; let n : Fin 64 := 63; let p : List Byte := List.replicate 8 1;
    s.enabled 0x40 = true ∧ n.val ≠ nodeId s ∧ p.length = 8 ∧ regNode n s = false) ∧
    (let s : State := ws [(Reg.pageCtrl 0x40, 1), (Reg.CHAIN_CTRL, 0x105), (Reg.CHAIN_REGMASK 1, 0x80000000)]; let dt : Nat := 5; let t := s.elapse dt; let n : Fin 64 := 63; let p : List Byte := [0, 1, 63, 0, 0x40, 0x04, 0, 0x40];
    s.enabled 0x40 = true ∧ n.val ≠ nodeId s ∧ p.length = 8 ∧ regNode n s = true ∧ beAt p 2 1 ≤ 63) ∧
    (let s : State := ws [(Reg.pageCtrl 0x40, 1), (Reg.CHAIN_CTRL, 0x105), (Reg.CHAIN_REGMASK 1, 0x80000000)]; let dt : Nat := 5; let t := s.elapse dt; let n : Fin 64 := 63; let p : List Byte := [0, 1, 0, 0, 0x40, 0, 0x40, 0x40, 1, 2, 3, 4];
    s.enabled 0x40 = true ∧ n.val ≠ nodeId s ∧ regNode n s = true ∧ beAt p 2 1 ≤ 63 ∧ p.length = 8 + 4 * (beAt p 2 1 + 1)) ∧
    (let s : State := ws [(Reg.pageCtrl 0x41, 1), (Reg.ETH_CTRL, 1), (Reg.ETH_STATUS, 4)];
    ethOn s = true) := by decide

/-- The hypotheses of RegisterRequestsAndLaunchesAreAnswered can be met. -/
theorem wit_RegisterRequestsAndLaunchesAreAnswered_2 :
    (let s : State := ws [(Reg.pageCtrl 0x41, 1), (Reg.ETH_CTRL, 1), (Reg.ETH_STATUS, 4), (Reg.ETH_IP, 0x0A000001)]; let dt : Nat := 5; let t := s.elapse dt; let fr : List Byte := List.replicate 6 0xFF ++ [2, 0, 0, 0, 0, 9, 8, 6, 0, 1, 8, 0, 6, 4, 0, 1, 2, 0, 0, 0, 0, 9, 10, 0, 0, 2, 0, 0, 0, 0, 0, 0] ++ beBytes 4 (ethIp s) ++ List.replicate 18 0;
    ethOn s = true ∧ 60 ≤ fr.length ∧ fr.length ≤ 1514 ∧ fr.take 6 = List.replicate 6 0xFF ∧ beAt fr 12 2 = 0x0806 ∧ beAt fr 14 4 = 0x00010800 ∧ beAt fr 18 4 = 0x06040001 ∧ beAt fr 38 4 = ethIp s ∧ s.eth.txq = [] ∧ ethHold t = false) ∧
    (let s : State := { ws [(Reg.pageCtrl 0x41, 1), (Reg.ETH_CTRL, 1), (Reg.ETH_STATUS, 4), (Reg.ETH_ALLOW_IP, 0x0A000001), (Reg.ETH_ALLOW_MASK, 0xFFFFFF00)] with eth := { Reset.eth with replies := [⟨0x0A0000FF, 65535, 7, [1, 2, 3]⟩] } }; let b : List Byte := [0x53, 0x4B, 1, 2, 0, 7, 9, 9, 0, 0, 0, 0]; let p := b ++ beBytes 4 (crc32c b); let k : UdpReply := ⟨0x0A0000FF, 65535, 7, [1, 2, 3]⟩;
    ethOn s = true ∧ s.eth.txq = [] ∧ ethHold s = false ∧ 16 ≤ p.length ∧ beAt p 0 2 = 0x534B ∧ beAt p 2 1 = 1 ∧ (beAt p 3 1 = 1 ∨ beAt p 3 1 = 2) ∧ (W 0x0A0000FF &&& s.reg Reg.ETH_ALLOW_MASK) = (s.reg Reg.ETH_ALLOW_IP &&& s.reg Reg.ETH_ALLOW_MASK) ∧ crc32c (p.take (p.length - 4)) = beAt p (p.length - 4) 4 ∧ (s.eth.replies.find? fun k => k.ip == 0x0A0000FF && k.port == 65535 && k.tag == beAt p 4 2) = some k) ∧
    (let s : State := ws [(Reg.pageCtrl 0x41, 1), (Reg.ETH_CTRL, 3), (Reg.LANE_CFG 44, 4)];
    s.enabled 0x41 = true ∧ s.rb Reg.ETH_CTRL 0 = true ∧ laneRole 44 s = 4 ∧ s.rb Reg.ETH_STATUS 2 = false) ∧
    (let s : State := ws [(Reg.pageCtrl 0x41, 1), (Reg.ETH_CTRL, 3), (Reg.ETH_STATUS, 7)];
    s.enabled 0x41 = true ∧ s.rb Reg.ETH_CTRL 0 = true ∧ s.rb Reg.ETH_STATUS 2 = true) := by decide

/-- The hypotheses of RegisterRequestsAndLaunchesAreAnswered can be met. -/
theorem wit_RegisterRequestsAndLaunchesAreAnswered_3 :
    (let s : State := { ws [(Reg.LQ 0x41 0, 0xFFFFFFFF), (Reg.LQ 0x41 1, 0x01FF05EA), (Reg.LQ 0x41 2, 0xFFFFFFFF)] with eth := { Reset.eth with lq := { Reset.lq with q := List.replicate 7 ⟨0, 60, 0, false, 0, false, none⟩ } } }; let eth : Bool := true;
    Takes .qspi (lqPage eth) s ∧ (s.lq eth).q.length < 8 ∧ 60 ≤ s.rf (Reg.LQ (lqPage eth) 1) 0 12 ∧ s.rf (Reg.LQ (lqPage eth) 1) 0 12 ≤ 1514) ∧
    (let s : State := { ws [(Reg.LQ 0x40 1, 8)] with chain := { Reset.chain with lq := { Reset.chain.lq with q := List.replicate 8 ⟨0, 60, 0, false, 0, false, none⟩ } } }; let eth : Bool := false;
    Takes .qspi (lqPage eth) s ∧ 8 ≤ (s.lq eth).q.length) ∧
    (let s : State := { State.reset with chain := { Reset.chain with lq := { Reset.chain.lq with stamps := [⟨1, true, false, 4⟩, ⟨2, true, false, 4⟩], lost := true } } }; let eth : Bool := false;
    Takes .qspi (lqPage eth) s) ∧
    (let s : State := { ws [(Reg.pageCtrl 0x41, 1)] with eth := { Reset.eth with lq := { Reset.lq with q := [⟨5, 60, 9, false, 0, false, none⟩] } } };
    s.running 0x41 = true ∧ s.eth.lq.q = [⟨5, 60, 9, false, 0, false, none⟩]) := by decide

/-- The hypotheses of RegisterRequestsAndLaunchesAreAnswered can be met. -/
theorem wit_RegisterRequestsAndLaunchesAreAnswered_4 :
    (let s : State := { ws [(Reg.pageCtrl 0x41, 1), (Reg.DRAM_STATUS, 1), (Reg.ETH_STATUS, 4)] with eth := { Reset.eth with lq := { Reset.lq with q := [⟨5, 60, 9, false, 0, false, some [1, 2]⟩, ⟨5, 60, 10, true, 0, false, none⟩] } } };
    s.running 0x41 = true ∧ s.eth.lq.q = [⟨5, 60, 9, false, 0, false, some [1, 2]⟩, ⟨5, 60, 10, true, 0, false, none⟩] ∧ s.eth.lq.stamps.length < 8) ∧
    (let s : State := { (({ ws [(Reg.pageCtrl 0x40, 1), (Reg.CHAIN_CTRL, 0x105), (Reg.CHAIN_BCAST 0, 2), (Reg.LANE_CFG 0, 0x2), (Reg.LANE_CFG 1, 0x102), (Reg.LANEQ_STATUS 0, 3)] with chain := { Reset.chain with up := [1] } }).setLane 0 { Reset.lane with tx := true, idle := false }).setLane 1 { Reset.lane with tx := true, idle := false } with chain := { Reset.chain with up := [1], lq := { Reset.chain.lq with q := [⟨5, 60, 9, false, 0, false, some [0x60, 255, 0, 0, 0, 0, 0, 0]⟩] } } }; let dt : Nat := 0; let t := s.elapse dt; let b : List Byte := [0x60, 255, 0, 0, 0, 0, 0, 0]; let port : Nat := 1;
    s.running 0x40 = true ∧ s.chain.lq.q = [⟨5, 60, 9, false, 0, false, some b⟩] ∧ 2 ≤ b.length ∧ isTime (beAt b 0 1) = false ∧ (lenOk (beAt b 0 1) 0 []).isSome = true ∧ ((dstPorts (beAt b 1 1) s).filter fun p => p ∈ s.chain.up) = [port] ∧ port ∉ s.chain.busy ∧ portReady port t = true ∧ s.chain.queue = [] ∧ s.chain.lq.stamps.length < 8) ∧
    (let s : State := { ws [(Reg.pageCtrl 0x40, 1), (Reg.DRAM_STATUS, 1)] with chain := { Reset.chain with lq := { Reset.chain.lq with q := [⟨5, 60, 9, false, 0, false, some [1, 2]⟩] } } };
    s.running 0x40 = true ∧ s.chain.lq.q = [⟨5, 60, 9, false, 0, false, some [1, 2]⟩] ∧ s.chain.up = [] ∧ s.chain.lq.stamps.length < 8) := by decide

/-- The hypotheses of PressTimeIsExchangedSteppedAndWrapped can be met. -/
theorem wit_PressTimeIsExchangedSteppedAndWrapped_1 :
    (let s : State := { ws [(Reg.pageCtrl 0x42, 1), (Reg.TIME_MPORT, 1)] with time := { Reset.time with syncAt := some 0, syncSeq := 65535 } }; let dt : Nat := 1048575000; let t := s.elapse dt;
    s.running 0x42 = true ∧ masterPorts s ≠ [] ∧ s.time.syncAt = some 0 ∧ 0 + s.rf Reg.TIME_SYNC_PERIOD 0 20 * 1000 ≤ t.now) ∧
    (let s : State := { ws [(Reg.pageCtrl 0x42, 1), (Reg.pageCtrl 0x40, 1), (Reg.TIME_CTRL, 0x3F01)] with chain := { Reset.chain with up := [63] } }; let port : Fin 64 := 63; let p : List Byte := [1, 0, 1, 2, 3, 4, 5, 6] ++ List.replicate 12 0;
    s.enabled 0x40 = true ∧ s.enabled 0x42 = true ∧ s.chain.up.contains port.val = true ∧ beAt p 0 1 = 1 ∧ p.length = 20 ∧ s.rf Reg.TIME_CTRL 0 2 = 1 ∧ s.rf Reg.TIME_CTRL 8 7 = port.val) ∧
    (let s : State := { ws [(Reg.pageCtrl 0x42, 1), (Reg.pageCtrl 0x40, 1)] with chain := { Reset.chain with up := [63], seq := 65535 } }; let port : Fin 64 := 63; let p : List Byte := [1, 0, 1, 2, 3, 4, 5, 6];
    s.enabled 0x40 = true ∧ s.enabled 0x42 = true ∧ s.chain.up.contains port.val = true ∧ beAt p 0 1 = 1 ∧ p.length = 8) ∧
    (let s : State := { ws [(Reg.pageCtrl 0x42, 1), (Reg.pageCtrl 0x40, 1), (Reg.TIME_CTRL, 0x3F01)] with chain := { Reset.chain with up := [63], seq := 65535 }, time := { Reset.time with exch := some ⟨258, 10, 4294967290, 30, some 5⟩ } }; let port : Fin 64 := 63; let p : List Byte := [1, 0, 1, 2, 0, 0, 0, 77]; let e : Exch := ⟨258, 10, 4294967290, 30, some 5⟩;
    s.enabled 0x40 = true ∧ s.enabled 0x42 = true ∧ s.chain.up.contains port.val = true ∧ beAt p 0 1 = 1 ∧ p.length = 8 ∧ s.time.exch = some e ∧ s.rf Reg.TIME_CTRL 0 2 = 1 ∧ s.rf Reg.TIME_CTRL 8 7 = port.val ∧ e.seq = beAt p 2 2) := by decide

/-- The hypotheses of PressTimeIsExchangedSteppedAndWrapped can be met. -/
theorem wit_PressTimeIsExchangedSteppedAndWrapped_2 :
    (let s : State := ws [(Reg.TIME_CTRL, 2), (Reg.TIME_JUMP_LIMIT, 5)];
    Takes .svc 0x42 s ∧ s.rf Reg.TIME_CTRL 0 2 = 2 ∧ s.rf Reg.TIME_JUMP_LIMIT 0 20 < (sgn 32 (0xFFFFFFFA : Word).toNat).natAbs) ∧
    (let s : State := { ws [(Reg.TIME_CTRL, 2), (Reg.TIME_JUMP_LIMIT, 6)] with time := { Reset.time with hold := true } };
    Takes .svc 0x42 s ∧ s.rf Reg.TIME_CTRL 0 2 = 2 ∧ (sgn 32 (0xFFFFFFFA : Word).toNat).natAbs ≤ s.rf Reg.TIME_JUMP_LIMIT 0 20 ∧ s.rb Reg.TIME_CTRL 2 = false) ∧
    (let s : State := ws [(Reg.TIME_CTRL, 1)];
    Takes .svc 0x42 s ∧ s.rf Reg.TIME_CTRL 0 2 ≠ 2) ∧
    (let s : State := ws [(Reg.pageCtrl 0x42, 1), (Reg.TIME_STEP_VAL, 0x80000000)];
    Takes .svc 0x42 s ∧ Ready 0x42 Reg.TIME_CMD_STATUS s ∧ s.fire.st < 2) := by decide

/-- The hypotheses of PressTimeIsExchangedSteppedAndWrapped can be met. -/
theorem wit_PressTimeIsExchangedSteppedAndWrapped_3 :
    (let s : State := { ws [(Reg.pageCtrl 0x42, 1), (Reg.TIME_STEP_VAL, 0x80000000)] with fire := { Reset.fire with st := 2 } };
    Takes .svc 0x42 s ∧ Ready 0x42 Reg.TIME_CMD_STATUS s ∧ 2 ≤ s.fire.st) ∧
    (let s : State := ws [(Reg.TIME_EPOCH_NS, 1), (Reg.TIME_EPOCH_SEC_LO, 2), (Reg.TIME_EPOCH_SEC_HI, 3)];
    Takes .svc 0x42 s) ∧
    (let s : State := { ws [(Reg.pageCtrl 0x42, 1)] with time := { Reset.time with acc := 2 ^ 64 - 1 } }; let dt : Nat := 5; let t := s.elapse dt;
    s.enabled 0x42 = true ∧ t.time.acc / 2 ^ 64 ≠ s.time.wraps ∧ svcRuns 1 s = false) ∧
    (let s : State := { ws [(Reg.pageCtrl 0x42, 1), (Reg.SVC_CORE_STATE, 0x55)] with time := { Reset.time with acc := 2 ^ 64 - 1, ref := some (7, 5000000000000) } }; let dt : Nat := 5; let t := s.elapse dt;
    s.enabled 0x42 = true ∧ t.time.acc / 2 ^ 64 ≠ s.time.wraps ∧ svcRuns 1 s = true) := by decide

/-- The hypotheses of DramServesBlocksTokensAndRefreshes can be met. -/
theorem wit_DramServesBlocksTokensAndRefreshes_1 :
    (let s : State := { ws [(Reg.DRAM_STATUS, 1), (Reg.DRAM_SIZE, 16)] with dramc := { Reset.dramc with queue := [⟨7, 11, false, 0, 64, 0, [0], 0, false, false, false⟩, ⟨8, 1, true, 200, 100, 0, [3, 4], 1, false, false, false⟩], nextId := 9 } }; let dt : Nat := 5; let t := s.elapse dt; let ch : Fin 4 := 0; let r : DReq := ⟨8, 1, true, 200, 100, 0, [3, 4], 1, false, false, false⟩; let b : Nat := 3; let lv : Nat := 0;
    s.released 0x48 = true ∧ dramReady s = true ∧ s.quiescing 0x48 = false ∧ s.quiescing 0x49 = false ∧ s.quiescing 0x4A = false ∧ (∀ k ∈ s.dramc.forced, k / 2 ≠ ch.val) ∧ (∀ x ∈ s.dramc.issued, x.ch ≠ ch.val) ∧ lv < 9 ∧ (∀ x ∈ s.dramc.queue, (x.left.any fun y => blockFree ch x y t) = true → lv ≤ reqLevel x s) ∧ (s.dramc.queue.find? fun x => (x.left.any fun y => blockFree ch x y t) && reqLevel x s == lv) = some r ∧ (r.left.find? fun y => blockFree ch r y t) = some b) ∧
    (let s : State := { ws [(Reg.DRAM_STATUS, 1), (Reg.DRAM_SIZE, 16), (Reg.DRAMQOS_REG 11, 0x1000)] with dramc := { Reset.dramc with queue := [⟨7, 11, false, 0, 64, 0, [0], 0, true, false, false⟩, ⟨8, 10, true, 0, 64, 0, [0], 1, true, true, false⟩], nextId := 9, forced := [2] } }; let dt : Nat := 5; let t := s.elapse dt; let ch : Fin 4 := 0; let r : DReq := ⟨7, 11, false, 0, 64, 0, [0], 0, true, false, false⟩; let b : Nat := 0; let lv : Nat := 5;
    s.released 0x48 = true ∧ dramReady s = true ∧ s.quiescing 0x48 = false ∧ s.quiescing 0x49 = false ∧ s.quiescing 0x4A = false ∧ (∀ k ∈ s.dramc.forced, k / 2 ≠ ch.val) ∧ (∀ x ∈ s.dramc.issued, x.ch ≠ ch.val) ∧ lv < 9 ∧ (∀ x ∈ s.dramc.queue, (x.left.any fun y => blockFree ch x y t) = true → lv ≤ reqLevel x s) ∧ (s.dramc.queue.find? fun x => (x.left.any fun y => blockFree ch x y t) && reqLevel x s == lv) = some r ∧ (r.left.find? fun y => blockFree ch r y t) = some b) ∧
    (let s : State := { ws [(Reg.DRAM_STATUS, 1), (Reg.DRAM_SIZE, 16), (Reg.DRAM_CTRL, 4), (Reg.DRAM_RD, 0xFFFFFFC0), (Reg.DRAM_RD + 4, 0xFFFF)] with dramc := { Reset.dramc with queue := [⟨7, 11, false, 64, 64, 0, [], 1, false, false, false⟩, ⟨8, 11, false, 64, 64, 0, [1], 0, false, false, false⟩], nextId := 9, issued := [⟨0, 7, 11, 268435455, false, true⟩] } }; let ch : Fin 4 := 0; let b : DBlock := ⟨0, 7, 11, 268435455, false, true⟩; let r : DReq := ⟨7, 11, false, 64, 64, 0, [], 1, false, false, false⟩;
    s.released 0x48 = true ∧ b.port < 12 ∧ (s.dramc.issued.find? fun b => b.ch == ch.val) = some b ∧ b.write = false ∧ eccOf b.block .bad s = .bad ∧ s.rb Reg.DRAM_CTRL 2 = true ∧ (s.dramc.queue.find? fun q => q.port == b.port) = some r ∧ r.id = b.id ∧ r.left = [] ∧ r.out ≤ 1) ∧
    (let s : State := { ws [(Reg.DRAM_STATUS, 1), (Reg.DRAM_SIZE, 16), (Reg.DRAM_CTRL, 4)] with dramc := { Reset.dramc with queue := [⟨7, 0, true, 60, 64, 0, [], 1, false, false, false⟩], nextId := 9, issued := [⟨0, 7, 0, 1, true, false⟩] }, badBlocks := [1] }; let ch : Fin 4 := 0; let b : DBlock := ⟨0, 7, 0, 1, true, false⟩;
    s.released 0x48 = true ∧ b.port < 12 ∧ (s.dramc.issued.find? fun b => b.ch == ch.val) = some b ∧ b.write = true ∧ b.whole = false ∧ eccOf b.block .clean s = .bad ∧ s.rb Reg.DRAM_CTRL 2 = true) := by decide

/-- The hypotheses of DramServesBlocksTokensAndRefreshes can be met. -/
theorem wit_DramServesBlocksTokensAndRefreshes_2 :
    (let s : State := { ws [(Reg.DRAM_CTRL, 0x100), (Reg.DRAM_REF, 3), (Reg.DRAM_REF_CNT, 0x20000000)] with dramc := { Reset.dramc with issued := [⟨3, 7, 0, 1, true, false⟩], refAt := [(7, some 10)] } }; let dt : Nat := 3916; let t := s.elapse dt; let k : Fin 8 := 7;
    s.released 0x48 = true ∧ (k.val % 2 = 0 ∨ s.rb Reg.DRAM_CTRL 8 = true) ∧ tget none s.dramc.refAt k = some 10 ∧ refiPs (k / 2) s ≤ (t.now - 10) * 1000 ∧ k.val ∉ s.dramc.forced ∧ c0OnCh (k / 2) s = true ∧ refCnt k s < s.rf Reg.DRAM_REF 0 4 ∧ refCnt k s + 1 = s.rf Reg.DRAM_REF 0 4) ∧
    (let s : State := { ws [(Reg.DRAM_CTRL, 0x100), (Reg.DRAM_REF, 3), (Reg.DRAM_REF_CNT, 0x20000000)] with dramc := { Reset.dramc with issued := [⟨3, 7, 0, 1, true, false⟩], refAt := [(7, some 10)] } }; let dt : Nat := 3915; let t := s.elapse dt; let k : Fin 8 := 7;
    s.released 0x48 = true ∧ (k.val % 2 = 0 ∨ s.rb Reg.DRAM_CTRL 8 = true) ∧ tget none s.dramc.refAt k = some 10 ∧ (t.now - 10) * 1000 < refiPs (k / 2) s) ∧
    (let s : State := { ws [(Reg.DRAM_CTRL, 0x100), (Reg.DRAM_REF, 8), (Reg.DRAM_REF_CNT, 0x2)] with dramc := { Reset.dramc with issued := [⟨0, 7, 0, 1, true, false⟩] } }; let k : Fin 8 := 0;
    s.released 0x48 = true ∧ (k.val % 2 = 0 ∨ s.rb Reg.DRAM_CTRL 8 = true) ∧ tget none s.dramc.refAt k = none ∧ k.val ∉ s.dramc.forced ∧ c0OnCh (k / 2) s = true ∧ refCnt k s + 1 < s.rf Reg.DRAM_REF 0 4) ∧
    (let s : State := { ws [(Reg.DRAM_REF, 8), (Reg.DRAM_REF_CNT, 0xE)] with dramc := { Reset.dramc with forced := [0] } }; let k : Fin 8 := 0;
    s.released 0x48 = true ∧ (k.val % 2 = 0 ∨ s.rb Reg.DRAM_CTRL 8 = true) ∧ tget none s.dramc.refAt k = none ∧ k.val ∈ s.dramc.forced) := by decide

/-- The hypotheses of DramServesBlocksTokensAndRefreshes can be met. -/
theorem wit_DramServesBlocksTokensAndRefreshes_3 :
    (let s : State := ws [(Reg.DRAM_REF, 8), (Reg.DRAM_CTRL, 0x3000)]; let k : Fin 8 := 0;
    s.released 0x48 = true ∧ (k.val % 2 = 0 ∨ s.rb Reg.DRAM_CTRL 8 = true) ∧ tget none s.dramc.refAt k = none ∧ k.val ∉ s.dramc.forced ∧ c0OnCh (k / 2) s = false) ∧
    (let s : State := { ws [(Reg.DRAM_REF, 8), (Reg.DRAM_REF_CNT, 0x1)] with dramc := { Reset.dramc with refBusy := [(0, 5)] } }; let dt : Nat := 5; let t := s.elapse dt; let k : Fin 8 := 0;
    s.released 0x48 = true ∧ rankBusy k t = false ∧ k.val ∉ s.dramc.forced ∧ c0Queued (k / 2) s = false ∧ 0 < refCnt k s) ∧
    (let s : State := { ws [(Reg.DRAM_REF, 8), (Reg.DRAM_REF_CNT, 0x1)] with dramc := { Reset.dramc with refBusy := [(0, 6)] } }; let dt : Nat := 5; let t := s.elapse dt; let k : Fin 8 := 0;
    s.released 0x48 = true ∧ rankBusy k t = true) ∧
    (let s : State := { ws [(Reg.DRAM_REF, 8), (Reg.DRAM_REF_CNT, 0x1)] with dramc := { Reset.dramc with queue := [⟨7, 0, false, 0, 64, 0, [0], 0, false, false, false⟩] } }; let dt : Nat := 5; let t := s.elapse dt; let k : Fin 8 := 0;
    s.released 0x48 = true ∧ rankBusy k t = false ∧ k.val ∉ s.dramc.forced ∧ c0Queued (k / 2) s = true) := by decide

/-- The hypotheses of DramServesBlocksTokensAndRefreshes can be met. -/
theorem wit_DramServesBlocksTokensAndRefreshes_4 :
    (let s : State := { ws [(Reg.DRAM_REF, 8), (Reg.DRAM_REF_CNT, 0x10)] with dramc := { Reset.dramc with forced := [0, 1] } }; let dt : Nat := 5; let t := s.elapse dt; let k : Fin 8 := 1;
    s.released 0x48 = true ∧ rankBusy k t = false ∧ k.val ∈ s.dramc.forced ∧ refCnt k s ≤ 1) ∧
    (let s : State := { ws [(Reg.DRAM_REF, 8), (Reg.DRAM_REF_CNT, 0x20)] with dramc := { Reset.dramc with forced := [0, 1] } }; let dt : Nat := 5; let t := s.elapse dt; let k : Fin 8 := 1;
    s.released 0x48 = true ∧ rankBusy k t = false ∧ k.val ∈ s.dramc.forced ∧ 1 < refCnt k s) ∧
    (let s : State := { ws [(Reg.DRAM_TEMP, 0xF000), (Reg.DRAM_CTRL, 0x100)] with dramc := { Reset.dramc with mr4Want := true } };
    s.released 0x48 = true ∧ s.dramc.mr4Want = true ∧ s.rb Reg.DRAM_CTRL 8 = true) ∧
    (let s : State := ws [(Reg.DRAM_TEMP, 0xF000), (Reg.DRAM_CTRL, 0), (Reg.DRAM_REF, 0x20000)]; let dt : Nat := 2000000; let t := s.elapse dt;
    s.released 0x48 = true ∧ s.dramc.mr4At + s.rf Reg.DRAM_REF 16 8 * 1000000 ≤ t.now ∧ s.rb Reg.DRAM_CTRL 8 = false) := by decide

/-- The hypotheses of DramServesBlocksTokensAndRefreshes can be met. -/
theorem wit_DramServesBlocksTokensAndRefreshes_5 :
    (let s : State := ws [(Reg.DRAM_REF, 0x20000)]; let dt : Nat := 1999999; let t := s.elapse dt;
    s.released 0x48 = true ∧ s.dramc.mr4Want = false ∧ t.now < s.dramc.mr4At + s.rf Reg.DRAM_REF 16 8 * 1000000) ∧
    (let s : State := ws [(Reg.DRAM_STATUS, 1), (Reg.DRAM_SIZE, 16), (Reg.DRAM_CTRL, 0xC), (Reg.DRAM_SCRUB_POS, 262143)]; let dt : Nat := 5; let t := s.elapse dt; let b : Nat := s.rf Reg.DRAM_SCRUB_POS 0 28;
    s.released 0x48 = true ∧ dramReady s = true ∧ s.rb Reg.DRAM_CTRL 3 = true ∧ s.rb Reg.DRAM_CTRL 2 = true ∧ scrubDue t = true ∧ (b + 1) * 64 ≤ dramBytes s) ∧
    (let s : State := ws [(Reg.DRAM_STATUS, 1), (Reg.DRAM_SIZE, 16), (Reg.DRAM_CTRL, 0xC), (Reg.DRAM_SCRUB_POS, 262142)]; let dt : Nat := 5; let t := s.elapse dt; let b : Nat := s.rf Reg.DRAM_SCRUB_POS 0 28;
    s.released 0x48 = true ∧ dramReady s = true ∧ s.rb Reg.DRAM_CTRL 3 = true ∧ s.rb Reg.DRAM_CTRL 2 = true ∧ scrubDue t = true ∧ (b + 1) * 64 ≤ dramBytes s) ∧
    (let s : State := { ws [(Reg.DRAMQOS_REG 11, 0x00010010)] with dramc := { Reset.dramc with tokens := [(0, -64000), (11, 63000)] } }; let dt : Nat := 128; let t := s.elapse dt; let n : Nat := 2;
    s.released 0x4A = true ∧ n = (t.now - s.dramc.tokAt) / 64 ∧ 0 < n ∧ (∀ r ∈ s.dramc.queue, r.held = false ∨ r.excess = true)) := by decide

/-- The hypotheses of DramServesBlocksTokensAndRefreshes can be met. -/
theorem wit_DramServesBlocksTokensAndRefreshes_6 :
    (let s : State := { ws [(Reg.DRAMQOS_REG 11, 0x00010010)] with dramc := { Reset.dramc with tokens := [(0, -64000), (11, 63000)], queue := [⟨7, 11, false, 64, 64, 0, [1], 0, true, false, false⟩] } }; let dt : Nat := 127; let t := s.elapse dt; let r : DReq := ⟨7, 11, false, 64, 64, 0, [1], 0, true, false, false⟩; let n : Nat := 1;
    s.released 0x4A = true ∧ n = (t.now - s.dramc.tokAt) / 64 ∧ 0 < n ∧ s.dramc.queue = [r] ∧ r.held = true ∧ r.excess = false ∧ r.port < 12 ∧ ((r.bytes * 1000 : Nat) : Int) ≤ clampI (-(qosBurst r.port s * 64000 : Nat)) (qosBurst r.port s * 64000 : Nat) (tokensOf r.port s + (n * qosRate r.port s * 1024 : Nat))) ∧
    (let s : State := ws []; let dt : Nat := 63; let t := s.elapse dt;
    s.released 0x4A = true ∧ t.now < s.dramc.tokAt + 64) ∧
    (let s : State := { ws [(Reg.DRAM_STATUS, 1), (Reg.DRAM_SIZE, 16), (Reg.DRAM_CTRL, 0xC), (Reg.DRAM_SCRUB, 0x10000)] with dramc := { Reset.dramc with scrubAt := some 0 } }; let dt : Nat := 5; let t := s.elapse dt;
    s.released 0x48 = true ∧ dramReady s = true ∧ s.rb Reg.DRAM_CTRL 3 = true ∧ scrubDue t = false) ∧
    (let s : State := { ws [(Reg.DRAM_STATUS, 1), (Reg.DRAM_SIZE, 16)] with dramc := { Reset.dramc with queue := [⟨7, 11, false, 0, 64, 0, [0], 0, false, false, false⟩], issued := [⟨0, 7, 0, 1, true, false⟩] } }; let ch : Fin 4 := 0;
    s.released 0x48 = true ∧ (∃ x ∈ s.dramc.issued, x.ch = ch.val)) := by decide

/-- The hypotheses of DramServesBlocksTokensAndRefreshes can be met. -/
theorem wit_DramServesBlocksTokensAndRefreshes_7 :
    (let s : State := { ws [(Reg.DRAMQOS_AGE, 0x010203)] with dramc := { Reset.dramc with queue := [⟨7, 11, false, 64, 64, 0, [1], 0, false, false, false⟩, ⟨8, 2, false, 64, 64, 0, [1], 0, false, false, false⟩] } }; let dt : Nat := 64; let t := s.elapse dt;
    s.released 0x4A = true ∧ (s.dramc.queue.any fun r => portClass r.port != 0 && !r.held && !r.promoted && !r.left.isEmpty && decide (s.rf Reg.DRAMQOS_AGE (8 * (portClass r.port - 1)) 8 ≤ (t.now - r.at_) / 64)) = true) ∧
    (let s : State := { ws [(Reg.DRAMQOS_REG 11, 0x00100020)] with dramc := { Reset.dramc with tokens := [(11, 1024000)] } }; let p : Fin 12 := 10; let w : Word := 0x0000FFFF;
    Takes .svc 0x4A s ∧ (fld w 16 12 * 64 < portMax p ∨ (qosRate p s < fld w 0 12 ∧ qosCap s < qosResv fun x => if x = p.val then fld w 0 12 else qosRate x s))) ∧
    (let s : State := ws []; let p : Fin 12 := 11; let w : Word := 0x0FFF0FFF;
    Takes .svc 0x4A s ∧ (qosRate p s < fld w 0 12 ∧ qosCap s < qosResv fun x => if x = p.val then fld w 0 12 else qosRate x s)) ∧
    (let s : State := { ws [(Reg.DRAMQOS_REG 11, 0x01000020)] with dramc := { Reset.dramc with tokens := [(11, 9024000)] } }; let p : Fin 12 := 11; let w : Word := 0xF010F001;
    Takes .svc 0x4A s ∧ portMax p ≤ fld w 16 12 * 64 ∧ (fld w 0 12 ≤ qosRate p s ∨ (qosResv fun x => if x = p.val then fld w 0 12 else qosRate x s) ≤ qosCap s)) := by decide

/-- The hypotheses of DramTrainsByItsCommands can be met. -/
theorem wit_DramTrainsByItsCommands_1 :
    (let s : State := State.reset; let a : Nat := 100; let l : Nat := 28;
    0 < l ∧ a + l ≤ 128) ∧
    (let s : State := { ws [(Reg.DRAM_STATUS, 1), (Reg.DRAM_CTRL, 0x110), (Reg.DRAM_EYE_CFG, 0x30001)] with dramc := { Reset.dramc with eyes := (List.range 16).map fun i => (i, { Reset.eye with prev := some 220, delay := 55, fail := 3, on := true, at_ := 0 }) } }; let dt : Nat := 1000; let t := s.elapse dt; let k : Fin 8 := 7; let lane : Fin 2 := 1; let low : BitVec 64 := 5; let high : BitVec 64 := 0x3FC0000000000; let pass : BitVec 128 := high ++ low; let i : Nat := 2 * k.val + lane.val; let x : RdEye := tget Reset.eye s.dramc.eyes i; let r : List (Nat × Nat) := tapRuns (toBits 128 pass.toNat);
    s.released 0x48 = true ∧ eyeTracked k s = true ∧ x.at_ + s.rf Reg.DRAM_EYE_CFG 0 10 * 1000 ≤ t.now ∧ (∀ z ∈ r, z.2 ≤ 8) ∧ (r.filter fun z => z.2 == 8) = [(106, 8)] ∧ x.prev = some 220 ∧ max 219 220 - min 219 220 ≤ 2 * s.rf Reg.DRAM_EYE_CFG 16 4) ∧
    (let s : State := { ws [(Reg.DRAM_STATUS, 1), (Reg.DRAM_CTRL, 0x110), (Reg.DRAM_EYE_CFG, 0x30001)] with dramc := { Reset.dramc with eyes := (List.range 16).map fun i => (i, { Reset.eye with prev := some 200, delay := 55, fail := 15, on := true, at_ := 0 }) } }; let dt : Nat := 1000; let t := s.elapse dt; let k : Fin 8 := 7; let lane : Fin 2 := 1; let low : BitVec 64 := 5; let high : BitVec 64 := 0x3FC0000000000; let pass : BitVec 128 := high ++ low; let i : Nat := 2 * k.val + lane.val; let x : RdEye := tget Reset.eye s.dramc.eyes i; let r : List (Nat × Nat) := tapRuns (toBits 128 pass.toNat);
    s.released 0x48 = true ∧ eyeTracked k s = true ∧ x.at_ + s.rf Reg.DRAM_EYE_CFG 0 10 * 1000 ≤ t.now ∧ (∀ z ∈ r, z.2 ≤ 8) ∧ (r.filter fun z => z.2 == 8) = [(106, 8)] ∧ x.prev = some 200 ∧ 2 * s.rf Reg.DRAM_EYE_CFG 16 4 < max 219 200 - min 219 200) ∧
    (let s : State := { ws [(Reg.DRAM_STATUS, 1), (Reg.DRAM_CTRL, 0x10), (Reg.DRAM_EYE_CFG, 0x30001)] with dramc := { Reset.dramc with eyes := (List.range 16).map fun i => (i, { Reset.eye with prev := some 124, delay := 126, fail := 15, on := true, at_ := 0 }) } }; let dt : Nat := 1000; let t := s.elapse dt; let k : Fin 8 := 0; let lane : Fin 2 := 0; let low : BitVec 64 := 0; let high : BitVec 64 := 0; let pass : BitVec 128 := high ++ low; let i : Nat := 2 * k.val + lane.val; let x : RdEye := tget Reset.eye s.dramc.eyes i;
    s.released 0x48 = true ∧ eyeTracked k s = true ∧ x.at_ + s.rf Reg.DRAM_EYE_CFG 0 10 * 1000 ≤ t.now ∧ pass = 0) := by decide

/-- The hypotheses of DramTrainsByItsCommands can be met. -/
theorem wit_DramTrainsByItsCommands_2 :
    (let s : State := { ws [(Reg.DRAM_STATUS, 1), (Reg.DRAM_CTRL, 0x10), (Reg.DRAM_EYE_CFG, 0x30001)] with dramc := { Reset.dramc with eyes := (List.range 16).map fun i => (i, { Reset.eye with prev := some 124, delay := 126, fail := 15, on := true, at_ := 0 }) } }; let dt : Nat := 999; let t := s.elapse dt; let k : Fin 8 := 0; let lane : Fin 2 := 0; let i : Nat := 2 * k.val + lane.val; let x : RdEye := tget Reset.eye s.dramc.eyes i;
    s.released 0x48 = true ∧ eyeTracked k s = true ∧ t.now < x.at_ + s.rf Reg.DRAM_EYE_CFG 0 10 * 1000) ∧
    (let s : State := ws [(Reg.DRAM_STATUS, 1), (Reg.pageCtrl 0x49, 1)];
    Takes .svc 0x49 s ∧ Ready 0x49 Reg.DRAMTRN_CMD_STATUS s ∧ dramReady s = true) ∧
    (let s : State := ws [(Reg.DRAM_CTRL, 4), (Reg.pageCtrl 0x49, 1)]; let w : Word := 0xFFFF_C4F2;
    Takes .svc 0x49 s ∧ Ready 0x49 Reg.DRAMTRN_CMD_STATUS s ∧ dramReady s = false ∧ sweepPair (fld w 12 3) (fld w 8 4) = true ∧ (fld w 12 3 ≠ 4 ∨ s.rb Reg.DRAM_CTRL 2 = true)) ∧
    (let s : State := ws [(Reg.DRAM_CTRL, 4), (Reg.pageCtrl 0x49, 1)]; let w : Word := 0x0200;
    Takes .svc 0x49 s ∧ Ready 0x49 Reg.DRAMTRN_CMD_STATUS s ∧ dramReady s = false ∧ sweepPair (fld w 12 3) (fld w 8 4) = false) := by decide

/-- The hypotheses of DramTrainsByItsCommands can be met. -/
theorem wit_DramTrainsByItsCommands_3 :
    (let s : State := ws [(Reg.DRAMTRN_MR, 0xFFFF), (Reg.pageCtrl 0x49, 1)];
    Takes .svc 0x49 s ∧ Ready 0x49 Reg.DRAMTRN_CMD_STATUS s ∧ dramReady s = false) ∧
    (let s : State := ws [(Reg.DRAMTRN_DLY_RD 7, 0x7F01), (Reg.DRAM_CTRL, 0x3104), (Reg.pageCtrl 0x49, 1)];
    Takes .svc 0x49 s ∧ Ready 0x49 Reg.DRAMTRN_CMD_STATUS s ∧ dramReady s = false) ∧
    (let s : State := ws [(Reg.DRAM_STATUS, 1), (Reg.DRAM_CTRL, 0x3104), (Reg.pageCtrl 0x49, 1)];
    Takes .svc 0x49 s ∧ Ready 0x49 Reg.DRAMTRN_CMD_STATUS s ∧ dramReady s = true ∧ s.fab = []) ∧
    (let s : State := { ws [(Reg.pageCtrl 0x49, 1), (Reg.DRAMTRN_CMD_STATUS, 1), (Reg.DRAMTRN_CMD, 0x301)] with dramc := { Reset.dramc with sweep := (1, 127) } };
    s.released 0x49 = true ∧ s.cmdBusy Reg.DRAMTRN_CMD_STATUS = true) := by decide

/-- The hypotheses of DeflateJobsStartResumeAndEnd can be met. -/
theorem wit_DeflateJobsStartResumeAndEnd_1 :
    (let s : State := ws [(Reg.DRAM_STATUS, 1), (Reg.DRAM_SIZE, 0x3000), (Reg.pageCtrl 0x50, 1), (Reg.DEFL_E_MODE 1, 0x404), (Reg.DEFL_E_SRC_LO 1, 0xFFFFF000), (Reg.DEFL_E_SRC_LEN 1, 0x1000), (Reg.DEFL_E_ADDR_HI 1, 0x201), (Reg.DEFL_E_DST_LO 1, 0), (Reg.DEFL_E_DST_LEN 1, 0x0FFFFFFF)]; let e : Fin 2 := 1;
    Takes .svc 0x50 s ∧ Ready 0x50 (Reg.DEFL_E_STATUS e) s ∧ startRefused true e s = none) ∧
    (let s : State := ws [(Reg.DRAM_STATUS, 1), (Reg.DRAM_SIZE, 0x3000), (Reg.pageCtrl 0x50, 1), (Reg.DEFL_OWN, 2)]; let e : Fin 2 := 1; let q : Path := .chain;
    Takes q 0x50 s ∧ Ready 0x50 (Reg.DEFL_E_STATUS e) s ∧ s.rb Reg.DEFL_OWN e = true ∧ q ≠ .svc) ∧
    (let s : State := ws [(Reg.DRAM_STATUS, 1), (Reg.DRAM_SIZE, 0x3000), (Reg.pageCtrl 0x50, 1), (Reg.DEFL_OWN, 3), (Reg.DEFL_E_SRC_LEN 0, 1)]; let e : Fin 2 := 0;
    Takes .svc 0x50 s ∧ Ready 0x50 (Reg.DEFL_E_STATUS e) s ∧ (s.rf (Reg.DEFL_E_SRC_LEN e) 0 28 = 0 ∨ s.rf (Reg.DEFL_E_DST_LEN e) 0 28 = 0)) ∧
    (let s : State := (ws [(Reg.DRAM_STATUS, 1), (Reg.DRAM_SIZE, 0x3000), (Reg.pageCtrl 0x50, 1), (Reg.DEFL_E_DST_LO 0, 116), (Reg.DEFL_E_DST_LEN 0, 2), (Reg.DEFL_E_STATUS 0, cmdWord 2 0x80 0)]).setDefl 0 ⟨some ⟨4, 100, 16, 0, 8, [1, 2, 3], 3, 5, [4]⟩, true, none⟩; let e : Fin 2 := 0; let j : DeflJob := ⟨4, 100, 16, 0, 8, [1, 2, 3], 3, 5, [4]⟩; let dst : Nat := 116; let m : Nat := 2;
    Takes .svc 0x50 s ∧ Ready 0x50 (Reg.DEFL_E_STATUS e) s ∧ (s.defl e).job = some j ∧ (s.defl e).stopped = true ∧ dst = s.rf (Reg.DEFL_E_ADDR_HI e) 8 2 * 2 ^ 32 + (s.reg (Reg.DEFL_E_DST_LO e)).toNat ∧ m = s.rf (Reg.DEFL_E_DST_LEN e) 0 28 ∧ 0 < m ∧ overlap j.src j.srcLen dst m = false ∧ dst + m ≤ dramBytes s) := by decide

/-- The hypotheses of DeflateJobsStartResumeAndEnd can be met. -/
theorem wit_DeflateJobsStartResumeAndEnd_2 :
    (let s : State := (ws [(Reg.DRAM_STATUS, 1), (Reg.DRAM_SIZE, 0x3000), (Reg.pageCtrl 0x50, 1), (Reg.DEFL_E_STATUS 1, cmdWord 1 0 0)]).setDefl 1 ⟨some ⟨4, 100, 16, 0, 8, [1, 2, 3], 3, 5, [4]⟩, false, none⟩; let e : Fin 2 := 1; let j : DeflJob := ⟨4, 100, 16, 0, 8, [1, 2, 3], 3, 5, [4]⟩;
    Takes .svc 0x50 s ∧ (s.defl e).job = some j ∧ s.cmdBusy (Reg.DEFL_E_STATUS e) = true ∧ bit j.mode 0 = false ∧ 15 < j.srcLen) ∧
    (let s : State := { ((ws [(Reg.DRAM_STATUS, 1), (Reg.DRAM_SIZE, 0x3000), (Reg.pageCtrl 0x50, 1), (Reg.DEFL_E_STATUS 1, cmdWord 1 0 0)]).setDefl 1 ⟨some ⟨4, 100, 16, 0, 8, [1, 2, 3], 3, 5, [4]⟩, false, none⟩) with badBlocks := [1] }; let e : Fin 2 := 1; let j : DeflJob := ⟨4, 100, 16, 0, 8, [1, 2, 3], 3, 5, [4]⟩;
    s.released 0x50 = true ∧ Untraced s ∧ (s.defl e).job = some j ∧ s.cmdBusy (Reg.DEFL_E_STATUS e) = true ∧ dramReady s = true ∧ s.dramBad (j.src + j.inDone) (deflReads j [1] 3 s - j.inDone) = true) ∧
    (let s : State := (((ws [(Reg.DRAM_STATUS, 1), (Reg.DRAM_SIZE, 0x3000), (Reg.pageCtrl 0x50, 1), (Reg.DEFL_E_STATUS 0, cmdWord 1 0 0)]).setDefl 0 ⟨some ⟨1, 100, 8, 0, 2, [], 0, 0, []⟩, false, none⟩)).dramWrite 100 [1, 2, 0, 0xFD, 0xFF, 0x41, 0x42, 0x99]; let e : Fin 2 := 0; let j : DeflJob := ⟨1, 100, 8, 0, 2, [], 0, 0, []⟩; let due : List Byte := [0x41, 0x42];
    s.released 0x50 = true ∧ Untraced s ∧ (s.defl e).job = some j ∧ s.cmdBusy (Reg.DEFL_E_STATUS e) = true ∧ dramReady s = true ∧ s.dramBad (j.src + j.inDone) (deflReads j [] 0 s - j.inDone) = false ∧ bit j.mode 0 = true ∧ (inflateRaw (2 ^ 32 - 1) (s.dramRead j.src j.srcLen)).1 = 0 ∧ (inflateRaw (2 ^ 32 - 1) (s.dramRead j.src j.srcLen)).2.2 = due ∧ due.length ≤ j.dstLen - j.bufOut ∧ j.dst + j.bufOut + due.length ≤ dramBytes s) ∧
    (let s : State := (((ws [(Reg.DRAM_STATUS, 1), (Reg.DRAM_SIZE, 0x3000), (Reg.pageCtrl 0x50, 1), (Reg.DEFL_E_STATUS 0, cmdWord 1 0 0)]).setDefl 0 ⟨some ⟨1, 100, 8, 0, 1, [], 0, 0, []⟩, false, none⟩)).dramWrite 100 [1, 2, 0, 0xFD, 0xFF, 0x41, 0x42, 0x99]; let e : Fin 2 := 0; let j : DeflJob := ⟨1, 100, 8, 0, 1, [], 0, 0, []⟩; let due : List Byte := [0x41, 0x42];
    s.released 0x50 = true ∧ Untraced s ∧ (s.defl e).job = some j ∧ s.cmdBusy (Reg.DEFL_E_STATUS e) = true ∧ dramReady s = true ∧ s.dramBad (j.src + j.inDone) (deflReads j [] 0 s - j.inDone) = false ∧ bit j.mode 0 = true ∧ (inflateRaw (2 ^ 32 - 1) (s.dramRead j.src j.srcLen)).1 = 0 ∧ (inflateRaw (2 ^ 32 - 1) (s.dramRead j.src j.srcLen)).2.2 = due ∧ j.dstLen - j.bufOut < due.length ∧ j.dst + j.bufOut + (j.dstLen - j.bufOut) ≤ dramBytes s) := by decide

/-- The hypotheses of LoopGroupsTickUpdateAndDrive can be met. -/
theorem wit_LoopGroupsTickUpdateAndDrive_1 :
    (let s : State := { ws [(Reg.pageCtrl 0x58, 1), (Reg.pageCtrl 0x59, 1), (Reg.LOOP_G_PERIOD 7, 1000), (Reg.LOOP_S_CFG 127, 0xF), (Reg.LOOP_S_CFG 126, 0xF), (Reg.LOOPCAP_G_STATE 7, 0x50001)] with live := [(Reg.LOOP_SAFE 63, 0x80000000)], loop := { Reset.loop with groups := [(7, { Reset.group with tickAt := some 0 })], slots := [(127, { Reset.slot with fresh := true, held := some (some 3), record := [true], y := 9 }), (126, { Reset.slot with held := some none })] } }; let dt : Nat := 1000000; let t := s.elapse dt; let g : Fin 8 := 7;
    s.running 0x58 = true ∧ (s.group g).due = false ∧ (s.group g).tickAt = some 0 ∧ 0 + s.rf (Reg.LOOP_G_PERIOD g) 0 20 * 1000 ≤ t.now ∧ s.shadowPending 0x58 = false ∧ s.enabled 0x59 = true ∧ capState g s = 1 ∧ 127 ∈ groupSlots g s ∧ (s.slot 127).fresh = true ∧ 126 ∈ groupSlots g s ∧ (s.slot 126).fresh = false ∧ 125 ∉ groupSlots g s) ∧
    (let s : State := { ws [(Reg.pageCtrl 0x58, 1), (Reg.LOOP_S_CFG 127, 0xF)] with loop := { Reset.loop with groups := [(7, { Reset.group with due := true })] } }; let g : Fin 8 := 7;
    s.enabled 0x58 = true ∧ (s.group g).due = true) ∧
    (let s : State := { ws [(Reg.pageCtrl 0x58, 1), (Reg.LOOP_S_CFG 127, 0xF), (Reg.LOOP_S_CFG 127, 0x8100910F), (Reg.LOOP_SPI_CFG 0, 0x03E0F0F9 + 0x38000000), (Reg.LOOP_SAFE_ACT 3, 0x80000000)] with live := [(Reg.LOOP_S_SP 127, 1000), (Reg.LOOP_S_KPI 127, 0x00030004), (Reg.LOOP_S_KDF 127, 0x00028001), (Reg.LOOP_S_SHIFT 127, 0x01020304), (Reg.LOOP_S_LIM 127, 0x7FFF8000)], loop := { Reset.loop with groups := [(7, { Reset.group with due := true })], slots := [(127, { Reset.slot with i := 655360, yPrev := some 5 }), (1, { Reset.slot with u := -77 }), (17, { Reset.slot with u := 900 })] } }; let dt : Nat := 5; let t := s.elapse dt; let g : Fin 8 := 7; let i : Nat := 127; let v : State := takeFrames g [] (t.setGroup g { s.group g with due := false }); let y : Int := 900;
    s.enabled 0x58 = true ∧ (s.group g).due = true ∧ groupSlots g s = [i] ∧ (s.slot i).fresh = false ∧ capState g s ≠ 2 ∧ s.inForce (Reg.LOOP_G_HYST g) = 0 ∧ loopSource g (s.rf (Reg.LOOP_S_CFG i) 8 8) v = some y ∧ (s.slot i).held = none) ∧
    (let s : State := { ws [(Reg.pageCtrl 0x58, 1), (Reg.LOOP_S_CFG 0, 0x10003), (Reg.LOOP_S_CFG 0, 0x1F03), (Reg.LOOP_SPI_CFG 3, 0)] with live := [(Reg.LOOP_SAFE 0, 0x00057FFF)], loop := { Reset.loop with groups := [(1, { Reset.group with due := true })], slots := [(0, { Reset.slot with i := 655360, yPrev := some 5, held := some (some 2) })] } }; let dt : Nat := 5; let t := s.elapse dt; let g : Fin 8 := 1; let i : Nat := 0; let v : State := takeFrames g [] (t.setGroup g { s.group g with due := false });
    s.enabled 0x58 = true ∧ (s.group g).due = true ∧ groupSlots g s = [i] ∧ (s.slot i).fresh = false ∧ capState g s ≠ 2 ∧ s.inForce (Reg.LOOP_G_HYST g) = 0 ∧ loopSource g (s.rf (Reg.LOOP_S_CFG i) 8 8) v = none ∧ safeAct i s = false) := by decide

/-- The hypotheses of LoopGroupsTickUpdateAndDrive can be met. -/
theorem wit_LoopGroupsTickUpdateAndDrive_2 :
    (let s : State := { ws [(Reg.pageCtrl 0x58, 1), (Reg.LOOP_S_CFG 127, 0xF)] with loop := { Reset.loop with groups := [(7, { Reset.group with due := true })], slots := [(127, { Reset.slot with fresh := true })] } }; let g : Fin 8 := 7;
    s.enabled 0x58 = true ∧ (s.group g).due = true ∧ groupSlots g s = [127] ∧ (s.slot 127).fresh = true) ∧
    (let s : State := { ws [(Reg.pageCtrl 0x58, 1), (Reg.pageCtrl 0x59, 1), (Reg.LOOPCAP_G_STATE 7, 0x50001), (Reg.LOOPCAP_G_CFG 7, 1), (Reg.LOOPCAP_G_REGION 7, 0x10000)] with loop := Reset.loop }; let g : Fin 8 := 7;
    s.running 0x58 = true ∧ (s.group g).due = false ∧ (s.group g).tickAt = none ∧ s.shadowPending 0x58 = false ∧ s.enabled 0x59 = true ∧ capState g s = 1 ∧ capMode g s = 1 ∧ (capRegion g s).2 < 2) ∧
    (let s : State := { ws [(Reg.pageCtrl 0x58, 1), (Reg.LOOP_PWM 15, 0xFFFFF001)] with loop := { Reset.loop with pwm := [(15, 7)], pwmAt := [(15, some 0)] } }; let dt : Nat := 10485749; let t := s.elapse dt; let n : Fin 16 := 15;
    tget none s.loop.pwmAt n = some 0 ∧ t.now < 0 + s.rf (Reg.LOOP_PWM n) 12 20 * 10) ∧
    (let s : State := { ws [(Reg.pageCtrl 0x58, 1), (Reg.LOOP_S_CFG 127, 0x10000F), (Reg.LOOP_PWM 15, 0xFFFFF001)] with loop := { Reset.loop with slots := [(127, { Reset.slot with u := 32767 })], pwmAt := [(15, some 0)] } }; let dt : Nat := 10485750; let t := s.elapse dt; let n : Fin 16 := 15; let i : Nat := 127;
    s.enabled 0x58 = true ∧ s.rb (Reg.LOOP_PWM n) 0 = true ∧ tget none s.loop.pwmAt n = some 0 ∧ 0 + s.rf (Reg.LOOP_PWM n) 12 20 * 10 ≤ t.now ∧ sinksOn s = true ∧ (slots128.find? fun i => slotOn i s && s.rf (Reg.LOOP_S_CFG i) 16 8 == n.val + 1) = some i) := by decide

/-- The hypotheses of LoopGroupsTickUpdateAndDrive can be met. -/
theorem wit_LoopGroupsTickUpdateAndDrive_3 :
    (let s : State := { ws [(Reg.pageCtrl 0x58, 1), (Reg.LOOP_S_CFG 127, 0x10000F), (Reg.LOOP_PWM 15, 0xFFFFF001)] with loop := { Reset.loop with slots := [(127, { Reset.slot with u := 32767 })], pwm := [(15, 7)] }, pair := { Reset.pair with role := 2 } }; let n : Fin 16 := 15;
    s.enabled 0x58 = true ∧ s.rb (Reg.LOOP_PWM n) 0 = true ∧ sinksOn s = false) ∧
    (let s : State := { ws [(Reg.pageCtrl 0x58, 1), (Reg.LOOP_S_CFG 127, 0x20000F), (Reg.LOOP_PWM 0, 0xFFFFF001)] with loop := { Reset.loop with slots := [(127, { Reset.slot with u := 32767 })], pwm := [(0, 7)] } }; let n : Fin 16 := 0;
    s.enabled 0x58 = true ∧ s.rb (Reg.LOOP_PWM n) 0 = true ∧ ((List.range 128).all fun i => !slotOn i s || s.rf (Reg.LOOP_S_CFG i) 16 8 != n.val + 1) = true) := by decide

/-- The hypotheses of LoopSlotsAndCapturesObeyTheirCommands can be met. -/
theorem wit_LoopSlotsAndCapturesObeyTheirCommands_1 :
    (let s : State := { ws [(Reg.LOOP_G_PERIOD 7, 1000), (Reg.LOOP_S_CFG 0, 0x110001)] with loop := { Reset.loop with slots := [(127, { Reset.slot with upd := 5 })] } }; let i : Fin 128 := 127; let d : Word := 0xFF4FFF1E; let w : Word := putBit d 0 true &&& 0xFFFFFFEF;
    Takes .svc 0x58 s ∧ slotOn i s = false ∧ slotCfgOk i w s = true) ∧
    (let s : State := ws [(Reg.LOOP_G_PERIOD 7, 1000), (Reg.LOOP_S_CFG 127, 0xF)]; let i : Fin 128 := 127; let d : Word := 0x010E; let w : Word := putBit d 0 true &&& 0xFFFFFFEF;
    Takes .svc 0x58 s ∧ slotOn i s = true ∧ w ≠ s.reg (Reg.LOOP_S_CFG i)) ∧
    (let s : State := { ws [(Reg.LOOP_G_PERIOD 7, 1000), (Reg.LOOP_S_CFG 127, 0x10000F)] with loop := { Reset.loop with pwm := [(15, 9)] } }; let i : Fin 128 := 127; let d : Word := 0x10001F; let w : Word := putBit d 0 false &&& 0xFFFFFFEF;
    Takes .svc 0x58 s ∧ slotOn i s = true ∧ w = putBit (s.reg (Reg.LOOP_S_CFG i)) 0 false ∧ fld w 16 8 = 16) ∧
    (let s : State := ws []; let i : Fin 128 := 0; let w : Word := putBit 0x8001100F 0 false &&& 0xFFFFFFEF;
    Takes .svc 0x58 s ∧ slotOn i s = false ∧ slotCfgOk i w s = true) := by decide

/-- The hypotheses of LoopSlotsAndCapturesObeyTheirCommands can be met. -/
theorem wit_LoopSlotsAndCapturesObeyTheirCommands_2 :
    (let s : State := { ws [(Reg.LOOP_OSC_ACT 3, 0xFFFFFFFF)] with loop := { Reset.loop with slots := (List.range 128).map fun i => (i, { Reset.slot with held := some none, side := 1, record := [true, false] }) } };
    Takes .svc 0x58 s) ∧
    (let s : State := ws [(Reg.pageCtrl 0x59, 1), (Reg.LOOPCAP_G_CFG 7, 1), (Reg.LOOPCAP_G_REGION 7, 0x00013FFF), (Reg.LOOPCAP_G_INJ 7, 127), (Reg.LOOP_S_CFG 127, 0xE)]; let g : Fin 8 := 7;
    Takes .svc 0x59 s ∧ Ready 0x59 Reg.LOOPCAP_CMD_STATUS s ∧ armOk g s = true) ∧
    (let s : State := ws [(Reg.pageCtrl 0x59, 1), (Reg.LOOPCAP_G_CFG 7, 1), (Reg.LOOPCAP_G_REGION 7, 0x00023FFF), (Reg.LOOPCAP_G_INJ 7, 127), (Reg.LOOP_S_CFG 127, 0xE)]; let g : Fin 8 := 7;
    Takes .svc 0x59 s ∧ Ready 0x59 Reg.LOOPCAP_CMD_STATUS s ∧ armOk g s = false) ∧
    (let s : State := ws [(Reg.pageCtrl 0x59, 1), (Reg.LOOPCAP_G_CFG 0, 2), (Reg.LOOPCAP_G_STATE 0, 1)]; let g : Fin 8 := 0;
    Takes .svc 0x59 s ∧ Ready 0x59 Reg.LOOPCAP_CMD_STATUS s ∧ capMode g s = 2 ∧ (capState g s = 1 ∨ capState g s = 2)) := by decide

/-- The hypotheses of LoopSlotsAndCapturesObeyTheirCommands can be met. -/
theorem wit_LoopSlotsAndCapturesObeyTheirCommands_3 :
    (let s : State := ws [(Reg.pageCtrl 0x59, 1), (Reg.LOOPCAP_G_CFG 0, 2), (Reg.LOOPCAP_G_STATE 0, 3)]; let g : Fin 8 := 0;
    Takes .svc 0x59 s ∧ Ready 0x59 Reg.LOOPCAP_CMD_STATUS s ∧ (capMode g s ≠ 2 ∨ capState g s = 0 ∨ capState g s = 3)) ∧
    (let s : State := { ws [(Reg.pageCtrl 0x59, 1), (Reg.LOOPCAP_G_CFG 7, 2), (Reg.LOOPCAP_G_STATE 7, 0x30002)] with loop := { Reset.loop with caps := [(7, ⟨4, 1, false, none, 77⟩)] } }; let g : Fin 8 := 7;
    Takes .svc 0x59 s ∧ Ready 0x59 Reg.LOOPCAP_CMD_STATUS s ∧ (capState g s = 1 ∨ capState g s = 2)) := by decide

/-- The hypotheses of MotionAxesMoveStopAndHome can be met. -/
theorem wit_MotionAxesMoveStopAndHome_1 :
    (let s : State := { ws [(Reg.pageCtrl 0x60, 1), (Reg.MOTION_TARGET 3, 5)] with axes := [(3, { Reset.axis with st := 1 })] }; let a : Fin 4 := 3; let x : AxisSt := s.axis a;
    Takes .svc 0x60 s ∧ Ready 0x60 (Reg.MOTION_CMD_STATUS a) s ∧ x.st < 2) ∧
    (let s : State := { ws [(Reg.pageCtrl 0x60, 1), (Reg.MOTION_TARGET 3, 0x80000000), (Reg.MOTION_VSTART 3, 77)] with axes := [(3, { Reset.axis with st := 2, pos := 2147483647, limP := true, phaseAt := 1 })] }; let a : Fin 4 := 3; let x : AxisSt := s.axis a; let tgt : Int := -2147483648;
    Takes .svc 0x60 s ∧ Ready 0x60 (Reg.MOTION_CMD_STATUS a) s ∧ x.st = 2 ∧ x.v = 0 ∧ s.fire.pinLow = false ∧ tgt = sgn 32 (s.reg (Reg.MOTION_TARGET a)).toNat ∧ x.lost = false ∧ x.pos ≠ tgt ∧ limitAhead x (decide (x.pos < tgt)) = false) ∧
    (let s : State := { ws [(Reg.pageCtrl 0x60, 1), (Reg.MOTION_TARGET 0, 0)] with axes := [(0, { Reset.axis with st := 2, lost := true })] }; let a : Fin 4 := 0; let x : AxisSt := s.axis a;
    Takes .svc 0x60 s ∧ Ready 0x60 (Reg.MOTION_CMD_STATUS a) s ∧ x.st = 2 ∧ x.v = 0 ∧ s.fire.pinLow = false ∧ x.lost = true) ∧
    (let s : State := { ws [(Reg.pageCtrl 0x60, 1), (Reg.MOTION_TARGET 0, 0)] with axes := [(0, { Reset.axis with st := 2, lost := false, pos := 0 })] }; let a : Fin 4 := 0; let x : AxisSt := s.axis a;
    Takes .svc 0x60 s ∧ Ready 0x60 (Reg.MOTION_CMD_STATUS a) s ∧ x.st = 2 ∧ x.v = 0 ∧ s.fire.pinLow = false ∧ x.lost = false ∧ x.pos = sgn 32 (s.reg (Reg.MOTION_TARGET a)).toNat) := by decide

/-- The hypotheses of MotionAxesMoveStopAndHome can be met. -/
theorem wit_MotionAxesMoveStopAndHome_2 :
    (let s : State := { ws [(Reg.pageCtrl 0x60, 1), (Reg.MOTION_TARGET 0, W (2 ^ 32 - vLimit))] with axes := [(0, { Reset.axis with st := 2, lost := true, limP := true })] }; let a : Fin 4 := 0; let x : AxisSt := s.axis a; let tgt : Int := sgn 32 (s.reg (Reg.MOTION_TARGET a)).toNat;
    Takes .svc 0x60 s ∧ Ready 0x60 (Reg.MOTION_CMD_STATUS a) s ∧ x.st = 2 ∧ x.v = 0 ∧ s.fire.pinLow = false ∧ tgt ≠ 0 ∧ tgt.natAbs ≤ vLimit ∧ limitAhead x (decide (0 < tgt)) = false) ∧
    (let s : State := { ws [(Reg.pageCtrl 0x60, 1), (Reg.MOTION_TARGET 0, W (vLimit + 1))] with axes := [(0, { Reset.axis with st := 2, lost := true, limP := true })] }; let a : Fin 4 := 0; let x : AxisSt := s.axis a; let tgt : Int := sgn 32 (s.reg (Reg.MOTION_TARGET a)).toNat;
    Takes .svc 0x60 s ∧ Ready 0x60 (Reg.MOTION_CMD_STATUS a) s ∧ x.st = 2 ∧ x.v = 0 ∧ s.fire.pinLow = false ∧ vLimit < tgt.natAbs) ∧
    (let s : State := { ws [(Reg.pageCtrl 0x60, 1), (Reg.MOTION_CFG 0, 0x05000000)] with axes := [(0, { Reset.axis with st := 2, limN := true })] }; let a : Fin 4 := 0; let x : AxisSt := s.axis a;
    Takes .svc 0x60 s ∧ Ready 0x60 (Reg.MOTION_CMD_STATUS a) s ∧ x.st = 2 ∧ x.v = 0 ∧ s.fire.pinLow = false ∧ wrongLimit a s = false) ∧
    (let s : State := { ws [(Reg.pageCtrl 0x60, 1), (Reg.MOTION_CFG 0, 0x02000000), (Reg.MOTION_VSTART 0, 10)] with axes := [(0, { Reset.axis with st := 2, limN := true })] }; let a : Fin 4 := 0; let x : AxisSt := s.axis a;
    Takes .svc 0x60 s ∧ Ready 0x60 (Reg.MOTION_CMD_STATUS a) s ∧ x.st = 2 ∧ x.v = 0 ∧ s.fire.pinLow = false ∧ wrongLimit a s = true) := by decide

/-- The hypotheses of MotionAxesMoveStopAndHome can be met. -/
theorem wit_MotionAxesMoveStopAndHome_3 :
    (let s : State := { ws [(Reg.pageCtrl 0x60, 1), (Reg.MOTION_PULLIN 0, 9), (Reg.MOTION_CMD_STATUS 0, 1)] with axes := [(0, { Reset.axis with st := 5, v := 10, homed := true })] }; let dt : Nat := 5; let t := s.elapse dt; let a : Fin 4 := 0; let x : AxisSt := s.axis a;
    Takes .svc 0x60 s ∧ s.enabled 0x60 = true ∧ 3 ≤ x.st ∧ (x.cmdAt ≠ some t.now ∨ x.v = 0) ∧ s.rf (Reg.MOTION_PULLIN a) 0 27 < x.v ∧ s.cmdBusy (Reg.MOTION_CMD_STATUS a) = true) ∧
    (let s : State := { ws [(Reg.pageCtrl 0x60, 1), (Reg.MOTION_PULLIN 0, 10)] with axes := [(0, { Reset.axis with st := 3, v := 10, homed := true, lost := false })] }; let dt : Nat := 5; let t := s.elapse dt; let a : Fin 4 := 0; let x : AxisSt := s.axis a;
    Takes .svc 0x60 s ∧ s.enabled 0x60 = true ∧ 3 ≤ x.st ∧ (x.cmdAt ≠ some t.now ∨ x.v = 0) ∧ 0 < x.v ∧ x.v ≤ s.rf (Reg.MOTION_PULLIN a) 0 27) ∧
    (let s : State := { ws [(Reg.pageCtrl 0x60, 1), (Reg.MOTION_PULLIN 0, 9), (Reg.MOTION_VSTART 0, 10), (Reg.MOTION_CMD_STATUS 0, 1)] with axes := [(0, { Reset.axis with st := 3, mode := 1, v := 10, target := 5, cmdAt := some 5, lost := false })] }; let dt : Nat := 5; let t := s.elapse dt; let a : Fin 4 := 0; let x : AxisSt := s.axis a;
    Takes .svc 0x60 s ∧ s.enabled 0x60 = true ∧ 3 ≤ x.st ∧ x.cmdAt = some t.now ∧ 0 < x.v ∧ x.mode = 1 ∧ s.rf (Reg.MOTION_PULLIN a) 0 27 < x.v) ∧
    (let s : State := { ws [(Reg.pageCtrl 0x60, 1), (Reg.MOTION_PULLIN 0, 10), (Reg.MOTION_VSTART 0, 9), (Reg.MOTION_CMD_STATUS 0, 1)] with axes := [(0, { Reset.axis with st := 3, mode := 1, v := 10, target := 5, cmdAt := some 5, lost := false })] }; let dt : Nat := 5; let t := s.elapse dt; let a : Fin 4 := 0; let x : AxisSt := s.axis a;
    Takes .svc 0x60 s ∧ s.enabled 0x60 = true ∧ 3 ≤ x.st ∧ x.cmdAt = some t.now ∧ 0 < x.v ∧ x.mode = 1 ∧ x.lost = false ∧ x.v ≤ s.rf (Reg.MOTION_PULLIN a) 0 27) := by decide

/-- The hypotheses of MotionAxesMoveStopAndHome can be met. -/
theorem wit_MotionAxesMoveStopAndHome_4 :
    (let s : State := { ws [(Reg.pageCtrl 0x60, 1), (Reg.MOTION_CMD_STATUS 0, 1)] with axes := [(0, { Reset.axis with st := 3, mode := 1, v := 0, restart := some 9, lost := false })] }; let a : Fin 4 := 0; let x : AxisSt := s.axis a;
    Takes .svc 0x60 s ∧ s.enabled 0x60 = true ∧ 3 ≤ x.st ∧ x.v = 0 ∧ s.cmdBusy (Reg.MOTION_CMD_STATUS a) = true) ∧
    (let s : State := { ws [(Reg.pageCtrl 0x60, 1), (Reg.MOTION_CFG 1, 2)] with axes := [(1, { Reset.axis with lost := false })] }; let a : Fin 4 := 1; let x : AxisSt := s.axis a;
    Takes .svc 0x60 s ∧ s.enabled 0x60 = true ∧ x.drvEn = false ∧ s.pair.role ≠ 2) ∧
    (let s : State := { ws [(Reg.pageCtrl 0x60, 1), (Reg.MOTION_CFG 1, 0)] with axes := [(1, { Reset.axis with lost := false, drvEn := true, st := 2, pos := 44 })] }; let a : Fin 4 := 1; let x : AxisSt := s.axis a;
    Takes .svc 0x60 s ∧ s.enabled 0x60 = true ∧ x.drvEn = true ∧ x.st = 2 ∧ x.v = 0) ∧
    (let s : State := { ws [(Reg.pageCtrl 0x60, 1), (Reg.MOTION_CFG 1, 2)] with axes := [(1, { Reset.axis with lost := false, drvEn := true, st := 2, pos := 44 })] }; let a : Fin 4 := 1; let x : AxisSt := s.axis a;
    Takes .svc 0x60 s ∧ s.enabled 0x60 = true ∧ x.drvEn = true ∧ x.st = 2 ∧ x.v = 0) := by decide

/-- The hypotheses of MotionAxesMoveStopAndHome can be met. -/
theorem wit_MotionAxesMoveStopAndHome_5 :
    (let s : State := { ws [(Reg.pageCtrl 0x60, 1), (Reg.MOTION_CYCLE 1, 0xFFFF0000)] with axes := [(1, { Reset.axis with drvEn := true, st := 0, waitAt := some 0 })] }; let dt : Nat := 65535000; let t := s.elapse dt; let a : Fin 4 := 1; let x : AxisSt := s.axis a;
    s.released 0x60 = true ∧ x.waitAt = some 0 ∧ 0 + s.rf (Reg.MOTION_CYCLE a) 16 16 * 1000 ≤ t.now ∧ x.st = 0) ∧
    (let s : State := { ws [(Reg.pageCtrl 0x60, 1), (Reg.MOTION_ACC 1, 0xFFFFFF), (Reg.MOTION_VSTART 1, 100)] with axes := [(1, { Reset.axis with st := 3, mode := 2, fwd := false, target := -16777316, v := 100 })] }; let dt : Nat := 1000; let t := s.elapse dt; let a : Fin 4 := 1; let x : AxisSt := s.axis a;
    s.released 0x60 = true ∧ x.st = 3 ∧ x.restart = none ∧ x.updAt + 1000 ≤ t.now ∧ x.mode = 2 ∧ x.halting = false ∧ x.confirmed = false ∧ (0 < x.target ∧ x.fwd = true ∨ x.target < 0 ∧ x.fwd = false) ∧ s.rf (Reg.MOTION_VSTART a) 0 27 ≤ x.v ∧ s.rf (Reg.MOTION_JERK a) 0 24 = 0 ∧ x.v + s.rf (Reg.MOTION_ACC a) 0 24 < x.target.natAbs) ∧
    (let s : State := { ws [(Reg.pageCtrl 0x60, 1)] with axes := [(1, { Reset.axis with st := 3, mode := 2, fwd := false, pos := -2147483648, v := 2 ^ 31 })] }; let dt : Nat := 20; let t := s.elapse dt; let a : Fin 4 := 1; let x : AxisSt := s.axis a;
    s.released 0x60 = true ∧ 3 ≤ x.st ∧ x.mode ≠ 1 ∧ 2 ^ 32 ≤ (axisSync t x).phase) ∧
    (let s : State := { ws [(Reg.pageCtrl 0x60, 1)] with axes := [(1, { Reset.axis with st := 1, reSteps := 2, v := 2 ^ 31 })] }; let dt : Nat := 20; let t := s.elapse dt; let a : Fin 4 := 1; let x : AxisSt := s.axis a;
    s.released 0x60 = true ∧ x.st = 1 ∧ 1 < x.reSteps ∧ 2 ^ 32 ≤ (axisSync t x).phase) := by decide

/-- The hypotheses of MotionAxesMoveStopAndHome can be met. -/
theorem wit_MotionAxesMoveStopAndHome_6 :
    (let s : State := { ws [(Reg.pageCtrl 0x60, 1)] with axes := [(1, { Reset.axis with st := 4, v := 5, fwd := false })] }; let a : Fin 4 := 1; let x : AxisSt := s.axis a; let p : Bool := false;
    s.released 0x60 = true ∧ 0 < x.v ∧ (x.st = 3 ∨ x.st = 4) ∧ x.fwd = p) ∧
    (let s : State := { ws [(Reg.pageCtrl 0x60, 1)] with axes := [(1, { Reset.axis with st := 5, v := 5, pos := -7 })] }; let a : Fin 4 := 1; let x : AxisSt := s.axis a;
    s.released 0x60 = true ∧ x.st = 5 ∧ x.confirmed = false ∧ x.latched = none) ∧
    (let s : State := { ws [(Reg.pageCtrl 0x60, 1), (Reg.MOTION_PULLIN 1, 5), (Reg.MOTION_HOME_POS 1, 0x7FFFFFFF)] with axes := [(1, { Reset.axis with st := 5, v := 5, pos := 2, latched := some (-7), lost := true })] }; let a : Fin 4 := 1; let x : AxisSt := s.axis a;
    s.released 0x60 = true ∧ x.st = 5 ∧ x.confirmed = false ∧ x.latched = some (-7) ∧ x.v ≤ s.rf (Reg.MOTION_PULLIN a) 0 27) := by decide

/-- The hypotheses of ThePairBeatsTakesOverAndMirrors can be met. -/
theorem wit_ThePairBeatsTakesOverAndMirrors_1 :
    (let s : State := { ws [(Reg.pageCtrl 0x68, 1), (Reg.PAIR_CTRL, 1)] with pair := { Reset.pair with role := 1, outAt := 0 } }; let dt : Nat := 500; let t := s.elapse dt;
    s.released 0x68 = true ∧ s.enabled 0x68 = true ∧ pairEn s = true ∧ s.pair.role ≠ 0 ∧ s.pair.yielding = false ∧ s.pair.outAt + 500 ≤ t.now) ∧
    (let s : State := { ws [(Reg.pageCtrl 0x68, 1)] with pair := { Reset.pair with peerAlive := false } };
    s.released 0x68 = true ∧ s.enabled 0x68 = true ∧ s.pair.peerAlive = false) ∧
    (let s : State := { ws [(Reg.pageCtrl 0x68, 1), (Reg.PAIR_CFG, 0xFFFF)] with pair := { Reset.pair with peerAlive := true, edgeAt := some 0 } }; let dt : Nat := 65535; let t := s.elapse dt;
    s.released 0x68 = true ∧ s.enabled 0x68 = true ∧ s.pair.peerAlive = true ∧ s.pair.edgeAt = some 0 ∧ t.now ≤ 0 + s.rf Reg.PAIR_CFG 0 16) ∧
    (let s : State := { ws [(Reg.pageCtrl 0x68, 1), (Reg.PAIR_CFG, 0xFFFF)] with pair := { Reset.pair with peerAlive := true, edgeAt := some 0 } }; let dt : Nat := 65536; let t := s.elapse dt;
    s.released 0x68 = true ∧ s.enabled 0x68 = true ∧ s.pair.peerAlive = true ∧ s.pair.edgeAt = some 0 ∧ 0 + s.rf Reg.PAIR_CFG 0 16 < t.now ∧ s.pair.role ≠ 2) := by decide

/-- The hypotheses of ThePairBeatsTakesOverAndMirrors can be met. -/
theorem wit_ThePairBeatsTakesOverAndMirrors_2 :
    (let s : State := { ws [(Reg.pageCtrl 0x68, 1), (Reg.PAIR_CTRL, 1), (Reg.PAIR_CFG, 0xFFFFF)] with pair := { Reset.pair with role := 1, peerAlive := true, edgeAt := some 0, outAt := 65000, sentFlags := 1 } }; let dt : Nat := 65536; let t := s.elapse dt;
    s.released 0x68 = true ∧ s.enabled 0x68 = true ∧ s.pair.edgeAt = some 0 ∧ s.pair.peerAlive = true ∧ 0 + s.rf Reg.PAIR_CFG 0 16 < t.now ∧ s.pair.role ≠ 2) ∧
    (let s : State := { ws [(Reg.pageCtrl 0x68, 1), (Reg.PAIR_CTRL, 1)] with pair := { Reset.pair with role := 2, peerAlive := true, edgeAt := some 0, aliveSince := 0 } }; let dt : Nat := 1000000; let t := s.elapse dt;
    s.released 0x68 = true ∧ s.enabled 0x68 = true ∧ pairEn s = true ∧ s.pair.role = 2 ∧ s.pair.peerAlive = true ∧ s.pair.aliveSince + 1000000 ≤ t.now) ∧
    (let s : State := { ws [(Reg.pageCtrl 0x68, 1), (Reg.PAIR_CTRL, 1)] with pair := { Reset.pair with role := 2, mseq := 65535 } }; let dt : Nat := 20000; let t := s.elapse dt;
    s.released 0x68 = true ∧ s.enabled 0x68 = true ∧ pairEn s = true ∧ (s.pair.role = 1 ∨ s.pair.role = 2) ∧ s.pair.sentAt + 20000 ≤ t.now ∧ s.quiescing 0x40 = false) ∧
    (let s : State := { ws [(Reg.pageCtrl 0x68, 1), (Reg.PAIR_CTRL, 1), (Reg.PAIR_MIRROR_TMO, 100)] with pair := { Reset.pair with role := 2, mirrorOk := true, aligned := true } }; let dt : Nat := 100001; let t := s.elapse dt;
    s.released 0x68 = true ∧ s.enabled 0x68 = true ∧ s.pair.mirrorOk = true ∧ s.pair.mirrorAt + s.rf Reg.PAIR_MIRROR_TMO 0 14 * 1000 < t.now) := by decide

/-- The hypotheses of ThePairBeatsTakesOverAndMirrors can be met. -/
theorem wit_ThePairBeatsTakesOverAndMirrors_3 :
    (let s : State := { ws [(Reg.pageCtrl 0x68, 1), (Reg.pageCtrl 0x40, 1)] with pair := { Reset.pair with mirrorOk := false, held := false } }; let p : List Byte := [1, 1, 0x12, 0x31, 0, 0, 0, 125] ++ List.replicate 2040 0;
    s.enabled 0x40 = true ∧ s.enabled 0x68 = true ∧ 48 ≤ p.length ∧ p.length ≤ 2048 ∧ (p.length - 48) % 16 = 0 ∧ beAt p 0 1 = 1 ∧ p.length = 48 + 16 * beAt p 6 2 ∧ beAt p 2 2 % 16 ≠ s.chip.straps ∧ s.pair.role ≠ 2 ∧ s.pair.mirrorOk = false) ∧
    (let s : State := { ws [(Reg.pageCtrl 0x68, 1), (Reg.pageCtrl 0x40, 1), (Reg.PAIR_MIRROR_TMO, 100)] with pair := { Reset.pair with mirrorOk := true, held := false } }; let dt : Nat := 100001; let t := s.elapse dt; let p : List Byte := [1, 1, 0x12, 0x31, 0, 0, 0, 0] ++ List.replicate 40 0;
    s.enabled 0x40 = true ∧ s.enabled 0x68 = true ∧ 48 ≤ p.length ∧ p.length ≤ 2048 ∧ (p.length - 48) % 16 = 0 ∧ beAt p 0 1 = 1 ∧ p.length = 48 + 16 * beAt p 6 2 ∧ beAt p 2 2 % 16 ≠ s.chip.straps ∧ s.pair.role ≠ 2 ∧ s.pair.mirrorOk = true ∧ s.pair.mirrorAt + s.rf Reg.PAIR_MIRROR_TMO 0 14 * 1000 < t.now) ∧
    (let s : State := ws [(Reg.pageCtrl 0x68, 1), (Reg.pageCtrl 0x40, 1), (Reg.errCount 0x68 2, 0xFFFE)]; let p : List Byte := [2, 1, 0x12, 0x31, 0, 0, 0, 0] ++ List.replicate 40 0;
    s.enabled 0x40 = true ∧ s.enabled 0x68 = true ∧ 48 ≤ p.length ∧ p.length ≤ 2048 ∧ (p.length - 48) % 16 = 0 ∧ (beAt p 0 1 ≠ 1 ∨ p.length ≠ 48 + 16 * beAt p 6 2 ∨ beAt p 2 2 % 16 = s.chip.straps) ∧ s.rf (Reg.errCount 0x68 2) 0 16 < 0xFFFF) ∧
    (let s : State := { ws [(Reg.pageCtrl 0x68, 1)] with pair := { Reset.pair with takeArmed := true, aligned := true } }; let w : Word := 0xFFFFFFFF;
    Takes .svc 0x68 s ∧ s.enabled 0x68 = true ∧ bit w 0 = true ∧ s.pair.role = 0) := by decide

/-- The hypotheses of ThePairBeatsTakesOverAndMirrors can be met. -/
theorem wit_ThePairBeatsTakesOverAndMirrors_4 :
    (let s : State := { ws [(Reg.pageCtrl 0x68, 1), (Reg.PAIR_CTRL, 0x3)] with pair := { Reset.pair with role := 1, joining := true } }; let w : Word := 0x702;
    Takes .svc 0x68 s ∧ bit w 0 = false ∧ s.pair.role ≠ 0 ∧ s.pair.joining = true) ∧
    (let s : State := { ws [(Reg.pageCtrl 0x68, 1), (Reg.PAIR_CTRL, 0x3)] with pair := { Reset.pair with role := 2 }, fire := { Reset.fire with st := 1 } };
    Takes .svc 0x68 s ∧ Ready 0x68 Reg.PAIR_CMD_STATUS s ∧ s.pair.role = 2 ∧ s.fire.st = 1) ∧
    (let s : State := { ws [(Reg.pageCtrl 0x68, 1), (Reg.PAIR_CTRL, 0x1), (Reg.PAIR_CLAIM, 0x0030), (Reg.PAIR_PEER_CLAIM, 0xFFE1), (Reg.LOOP_S_CFG 5, 1), (Reg.HEADS_CFG 3, 1)] with pair := { Reset.pair with role := 2 }, live := [(Reg.HEADS_CFG 3, 1)] }; let e : Nat := 4095;
    Takes .svc 0x68 s ∧ Ready 0x68 Reg.PAIR_CMD_STATUS s ∧ s.pair.role = 2 ∧ raisedEpoch s = some e) ∧
    (let s : State := { ws [(Reg.pageCtrl 0x68, 1), (Reg.PAIR_CTRL, 0x1), (Reg.PAIR_PEER_CLAIM, 0xFFF1)] with pair := { Reset.pair with role := 2, aligned := true, mirrorOk := true, joined := some 0, checksOk := true } };
    Takes .svc 0x68 s ∧ Ready 0x68 Reg.PAIR_CMD_STATUS s ∧ s.pair.role = 2 ∧ raisedEpoch s = none ∧ s.pair.aligned = true) := by decide

/-- The hypotheses of ThePairBeatsTakesOverAndMirrors can be met. -/
theorem wit_ThePairBeatsTakesOverAndMirrors_5 :
    (let s : State := { ws [(Reg.pageCtrl 0x68, 1), (Reg.PAIR_CTRL, 0x1)] with pair := { Reset.pair with role := 2, aligned := false } };
    Takes .svc 0x68 s ∧ Ready 0x68 Reg.PAIR_CMD_STATUS s ∧ s.pair.role = 2 ∧ s.pair.aligned = false) ∧
    (let s : State := { ws [(Reg.pageCtrl 0x68, 1), (Reg.PAIR_CTRL, 0x1)] with pair := { Reset.pair with role := 1, out := true, sentFlags := 5 } };
    Takes .svc 0x68 s ∧ Ready 0x68 Reg.PAIR_CMD_STATUS s ∧ s.pair.role = 1) ∧
    (let s : State := { ws [(Reg.pageCtrl 0x68, 1)] with pair := { Reset.pair with role := 0 } };
    Takes .svc 0x68 s ∧ Ready 0x68 Reg.PAIR_CMD_STATUS s ∧ s.pair.role = 0) := by decide

/-- The hypotheses of TallyCountsAnswersAndBurns can be met. -/
theorem wit_TallyCountsAnswersAndBurns_1 :
    (let s : State := { ws [] with tally := { Reset.tally with a := true, aAt := some 0, bAt := some 0, ill := 2 ^ 32 - 1 } }; let dt : Nat := 8; let t := s.elapse dt;
    s.chip.island = false ∧ s.tally.romOk = true ∧ s.tally.live = true ∧ tallyHeld s.tally.aAt t.now s.tally = true ∧ tallyHeld s.tally.bAt t.now s.tally = true ∧ false ≠ s.tally.a ∧ true ≠ s.tally.b) ∧
    (let s : State := { ws [] with tally := { Reset.tally with a := true, b := false, cnt := -1, high := -1, lenRem := 999, params := ⟨1001, 1, 1, false⟩, life := [(0, 2 ^ 64 - 1), (4, 9)] } }; let dt : Nat := 5; let t := s.elapse dt; let fwd : Bool := true;
    s.chip.island = false ∧ s.tally.romOk = true ∧ s.tally.live = true ∧ tallyHeld s.tally.aAt t.now s.tally = true ∧ tallyHeld s.tally.bAt t.now s.tally = true ∧ true = s.tally.a ∧ true ≠ s.tally.b ∧ fwd = ((if true ≠ s.tally.b then true == true else true != true) != s.tally.params.invert) ∧ s.tally.high < s.tally.cnt + 1) ∧
    (let s : State := { ws [] with tally := { Reset.tally with a := false, b := false, cnt := 3, high := 4, params := ⟨1001, 1, 1, true⟩ } }; let dt : Nat := 5; let t := s.elapse dt; let fwd : Bool := true;
    s.chip.island = false ∧ s.tally.romOk = true ∧ s.tally.live = true ∧ tallyHeld s.tally.aAt t.now s.tally = true ∧ tallyHeld s.tally.bAt t.now s.tally = true ∧ false = s.tally.a ∧ true ≠ s.tally.b ∧ fwd = ((if true ≠ s.tally.b then true == false else false != true) != s.tally.params.invert) ∧ s.tally.cnt + 1 ≤ s.tally.high) ∧
    (let s : State := { ws [] with tally := { Reset.tally with a := false, b := false, cnt := 3, high := 3 } }; let dt : Nat := 5; let t := s.elapse dt; let fwd : Bool := false;
    s.chip.island = false ∧ s.tally.romOk = true ∧ s.tally.live = true ∧ tallyHeld s.tally.aAt t.now s.tally = true ∧ tallyHeld s.tally.bAt t.now s.tally = true ∧ false = s.tally.a ∧ true ≠ s.tally.b ∧ fwd = ((if true ≠ s.tally.b then true == false else false != true) != s.tally.params.invert)) := by decide

/-- The hypotheses of TallyCountsAnswersAndBurns can be met. -/
theorem wit_TallyCountsAnswersAndBurns_2 :
    (let s : State := { ws [] with tally := { Reset.tally with a := true, aAt := some 0 } }; let dt : Nat := 7; let t := s.elapse dt;
    s.chip.island = false ∧ false ≠ s.tally.a ∧ tallyHeld s.tally.aAt t.now s.tally = false) ∧
    (let s : State := { ws [] with tally := { Reset.tally with burn := some ([7], false) } }; let p : List Byte := List.replicate 20 0;
    s.chip.island = false ∧ s.tally.romOk = true ∧ s.tally.burn = some ([7], false) ∧ p.length = 20) ∧
    (let s : State := ws [];
    s.chip.island = false ∧ s.tally.romOk = true ∧ s.tally.burn = none) ∧
    (let s : State := { ws [] with tally := { Reset.tally with hist := List.replicate 15 emptyJob ++ [⟨65535, true, [(4, 2 ^ 64 - 1)]⟩] } }; let k : Byte := 16; let j : TallyJob := ⟨65535, true, [(4, 2 ^ 64 - 1)]⟩;
    s.chip.island = false ∧ s.tally.romOk = true ∧ s.tally.burn = none ∧ j = (if k = 0 then s.tally.open_ else at' emptyJob s.tally.hist (k.toNat - 1)) ∧ k.toNat ≤ 16) := by decide

/-- The hypotheses of TallyCountsAnswersAndBurns can be met. -/
theorem wit_TallyCountsAnswersAndBurns_3 :
    (let s : State := { ws [] with tally := { Reset.tally with audit := List.replicate 64 Reset.audit0 } }; let p : List Byte := List.replicate 20 0;
    s.chip.island = false ∧ s.tally.romOk = true ∧ s.tally.burn = none ∧ p.length = 20 ∧ 64 ≤ s.tally.audit.length) ∧
    (let s : State := { ws [] with tally := { Reset.tally with sealOpen := true } }; let p : List Byte := [0, 0, 0x03, 0xE7, 0, 0, 0, 1, 1, 0, 0, 0, 1, 2, 3, 4, 5, 6, 7, 8];
    s.chip.island = false ∧ s.tally.romOk = true ∧ s.tally.burn = none ∧ p.length = 20 ∧ s.tally.audit.length < 64 ∧ s.tally.sealOpen = true ∧ paramsOf (p.take 12) = none) ∧
    (let s : State := { ws [] with tally := { Reset.tally with sealOpen := true, life := [(0, 2 ^ 64 - 1)] } }; let p : List Byte := [0, 0, 0x03, 0xE8, 0, 0, 0, 1, 1, 0, 0, 0, 1, 2, 3, 4, 5, 6, 7, 8]; let x : TallyParams := ⟨1000, 1, 1, false⟩;
    s.chip.island = false ∧ s.tally.romOk = true ∧ s.tally.burn = none ∧ p.length = 20 ∧ s.tally.audit.length < 64 ∧ s.tally.sealOpen = true ∧ paramsOf (p.take 12) = some x) ∧
    (let s : State := { ws [] with tally := { Reset.tally with lenRem := 5, areaRem := 6, life := [(0, 7)], burn := some ([0, 1, 1, 0, 1, 2, 3, 4, 5, 6, 7, 8] ++ [0, 0, 0x03, 0xE8, 0, 0, 0, 1, 1, 1, 0, 0] ++ [0, 0, 0, 7, 1, 2, 3, 4], true) } }; let r : List Byte := [0, 1, 1, 0, 1, 2, 3, 4, 5, 6, 7, 8] ++ [0, 0, 0x03, 0xE8, 0, 0, 0, 1, 1, 1, 0, 0] ++ [0, 0, 0, 7, 1, 2, 3, 4];
    s.chip.island = false ∧ s.tally.burn = some (r, true) ∧ beAt r 2 1 = 1 ∧ paramsOf ((r.drop 12).take 12) = some ⟨1000, 1, 1, true⟩) := by decide

/-- The hypotheses of TallyCountsAnswersAndBurns can be met. -/
theorem wit_TallyCountsAnswersAndBurns_4 :
    (let s : State := { ws [] with tally := { Reset.tally with burn := some ([0, 1, 2], false) } }; let r : List Byte := [0, 1, 2];
    s.chip.island = false ∧ s.tally.burn = some (r, false)) ∧
    (let s : State := { ws [] with tally := { Reset.tally with retLost := true, romOk := false, life := [(0, 3)], cnt := 5 } };
    s.chip.island = false) := by decide

/-- The hypotheses of CoresBeatAndMailboxesCarryMessages can be met. -/
theorem wit_CoresBeatAndMailboxesCarryMessages_1 :
    (let s : State := ws [(Reg.SVC_CORE_STATE, 0x40), (Reg.SVC_HB 10, 0xFFFFFFFF), (Reg.SVC_STALE, 0x400)]; let i : Fin 11 := 10;
    svcRuns i s = true ∧ s.rb Reg.SVC_STALE i = true) ∧
    (let s : State := { ws [(Reg.SVC_HB_PERIOD, 100)] with svc := { Reset.svc with hbAt := [(0, 5)] } }; let dt : Nat := 400005; let t := s.elapse dt; let i : Fin 11 := 0;
    s.released 9 = true ∧ s.rb Reg.SVC_STALE i = false ∧ tget 0 s.svc.hbAt i + 4 * s.rf Reg.SVC_HB_PERIOD 0 17 * 1000 ≤ t.now) ∧
    (let s : State := { ws [(Reg.pageCtrl 9, 1), (Reg.SVC_CORE_STATE, 0x95)] with svc := { Reset.svc with slot := some 1 } };
    Takes .svc 9 s ∧ Ready 9 Reg.SVC_CMD_STATUS s ∧ s.svc.slot = some 1) ∧
    (let s : State := ws [(Reg.pageCtrl 9, 1)];
    Takes .svc 9 s ∧ Ready 9 Reg.SVC_CMD_STATUS s ∧ s.svc.slot = none) := by decide

/-- The hypotheses of CoresBeatAndMailboxesCarryMessages can be met. -/
theorem wit_CoresBeatAndMailboxesCarryMessages_2 :
    (let s : State := ws [(Reg.pageCtrl 9, 1), (Reg.SVC_CORE_STATE, 0x55)]; let c : Fin 4 := 0;
    s.released 9 = true ∧ coreState c s = 1) ∧
    (let s : State := ws [(Reg.MBX_FULL, 0x80000000)]; let m : Fin 32 := 31;
    Takes .qspi 8 s ∧ sideOk .qspi (mbxExtSender m) = true ∧ mbxFull m s = true) ∧
    (let s : State := ws [(Reg.MBX_FULL, 0x80000000)]; let dt : Nat := 5; let t := s.elapse dt; let m : Fin 32 := 16;
    Takes .svc 8 s ∧ sideOk .svc (mbxExtSender m) = true ∧ mbxFull m s = false ∧ tget none s.svc.acked m ≠ some t.now) ∧
    (let s : State := { ws [] with svc := { Reset.svc with acked := [(16, some 5)] } }; let dt : Nat := 5; let t := s.elapse dt; let m : Fin 32 := 16;
    Takes .svc 8 s ∧ sideOk .svc (mbxExtSender m) = true ∧ mbxFull m s = false ∧ tget none s.svc.acked m = some t.now) := by decide

/-- The hypotheses of CoresBeatAndMailboxesCarryMessages can be met. -/
theorem wit_CoresBeatAndMailboxesCarryMessages_3 :
    (let s : State := { ws [(Reg.MBX_FULL, 0xFFFFFFFF), (Reg.MBX_COLL, 1)] with svc := { Reset.svc with rang := [(0, some (5, false, false))] } }; let dt : Nat := 5; let t := s.elapse dt; let d : Word := 0x88010C01;
    Takes .svc 8 s ∧ s.svc.replies = [] ∧ bit d 0 = true ∧ sideOk .svc (mbxExtReceiver 0) = true ∧ mbxFull 0 s = true ∧ rangNow 0 t = some (false, false)) ∧
    (let s : State := ws []; let m : Fin 32 := 15;
    Takes .svc 8 s ∧ sideOk .svc (mbxExtSender m) = false) ∧
    (let s : State := ws [(Reg.MBX_FULL, 0x08010800)]; let d : Word := 0x88010C01;
    Takes .qspi 8 s ∧ bit d 27 = true ∧ sideOk .qspi (mbxExtSender 27) = true ∧ mbxFull 27 s = true) ∧
    (let s : State := ws [(Reg.MBX_FULL, 0xFFFFFFFF)]; let d : Word := 0x88010C01;
    Takes .svc 8 s ∧ s.svc.replies = [] ∧ bit d 0 = true ∧ sideOk .svc (mbxExtReceiver 0) = true ∧ mbxFull 0 s = true) := by decide

/-- The hypotheses of ServicesAnswerAndTheWindowIsKept can be met. -/
theorem wit_ServicesAnswerAndTheWindowIsKept_1 :
    (let s : State := ws [(Reg.SVC_CORE_STATE, 0x55), (Reg.MBX_FULL, 0x400), (Reg.MBX_DATA 10 0, 0x0A01FF00), (Reg.SVC_HB 10, 0xFFFFFFFF), (Reg.SVC_VERSION, 0x01020304), (Reg.MBX_DATA 10 1, 0x04030201)]; let i : Fin 11 := 10;
    s.released 9 = true ∧ Asks i 1 0xFF [] s) ∧
    (let s : State := ws [(Reg.SVC_CORE_STATE, 0x55), (Reg.MBX_FULL, 0x200), (Reg.MBX_DATA 9 0, 0x09200001), (Reg.MBX_DATA 9 1, 0x1F000000)]; let h : Byte := 31;
    s.released 9 = true ∧ Asks 9 0x20 0 [h] s ∧ h.toNat < 32 ∧ s.svc.disc = none) ∧
    (let s : State := { ws [(Reg.SVC_CORE_STATE, 0x55), (Reg.MBX_FULL, 0x200), (Reg.MBX_DATA 9 0, 0x09200001), (Reg.MBX_DATA 9 1, 0x1F000000)] with svc := { Reset.svc with disc := some (3, 4) } }; let h : Byte := 31;
    s.released 9 = true ∧ Asks 9 0x20 0 [h] s ∧ h.toNat < 32 ∧ s.svc.disc ≠ none) := by decide

/-- The hypotheses of ServicesAnswerAndTheWindowIsKept can be met. -/
theorem wit_ServicesAnswerAndTheWindowIsKept_2 :
    (let s : State := { ws [(Reg.SVC_CORE_STATE, 0x55), (Reg.MBX_FULL, 0x400), (Reg.MBX_DATA 10 0, 0x0A100504), (Reg.MBX_DATA 10 1, 0x00000002)] with svc := { Reset.svc with logNext := 1026, log := (List.range 1024).map fun i => beBytes 32 (1025 - i) } }; let p : List Byte := [0, 0, 0, 2];
    s.released 9 = true ∧ Asks 10 0x10 5 p s ∧ p.length = 4 ∧ beAt p 0 4 < s.svc.logNext ∧ s.svc.logNext ≤ beAt p 0 4 + 1024) ∧
    (let s : State := { ws [(Reg.SVC_CORE_STATE, 0x55), (Reg.MBX_FULL, 0x400), (Reg.MBX_DATA 10 0, 0x0A100504), (Reg.MBX_DATA 10 1, 0x00000002)] with svc := { Reset.svc with logNext := 2 } }; let p : List Byte := [0, 0, 0, 2];
    s.released 9 = true ∧ Asks 10 0x10 5 p s ∧ p.length = 4 ∧ s.svc.logNext ≤ beAt p 0 4) ∧
    (let s : State := ws [(Reg.SVC_CORE_STATE, 0x55), (Reg.MBX_FULL, 0x400), (Reg.MBX_DATA 10 0, 0x0A110502), (Reg.MBX_DATA 10 1, 0xFFFF0000)]; let p : List Byte := [255, 255];
    s.released 9 = true ∧ Asks 10 0x11 5 p s ∧ 2 ≤ p.length ∧ p.length ≤ 28) := by decide

/-- The hypotheses of ServicesAnswerAndTheWindowIsKept can be met. -/
theorem wit_ServicesAnswerAndTheWindowIsKept_3 :
    (let s : State := { ws [(Reg.SVC_CORE_STATE, 0x55), (Reg.MBX_FULL, 0x400), (Reg.MBX_DATA 10 0, 0x0A400505), (Reg.MBX_DATA 10 1, 0x01008000), (Reg.MBX_DATA 10 2, 0x00000000)] with flash := [(0x00810000, 1), (0x0100FFFF, 2)] }; let p : List Byte := [1, 0, 0x80, 0, 0];
    s.released 9 = true ∧ Asks 10 0x40 5 p s ∧ p.length = 5 ∧ beAt p 0 1 ≤ 1 ∧ s.svc.slot ≠ some (beAt p 0 1) ∧ beAt p 1 4 ≤ 8388608) ∧
    (let s : State := { ws [(Reg.SVC_CORE_STATE, 0x55), (Reg.MBX_FULL, 0x400), (Reg.MBX_DATA 10 0, 0x0A410507), (Reg.MBX_DATA 10 1, 0x00000005), (Reg.MBX_DATA 10 2, 0x02AABB00)] with svc := { Reset.svc with stage := some ⟨1, 7, 5⟩ } }; let p : List Byte := [0, 0, 0, 5, 2, 0xAA, 0xBB]; let st : FwStage := ⟨1, 7, 5⟩;
    s.released 9 = true ∧ Asks 10 0x41 5 p s ∧ s.svc.stage = some st ∧ p.length = 5 + beAt p 4 1 ∧ 0 < beAt p 4 1 ∧ beAt p 4 1 ≤ 52 ∧ beAt p 0 4 = st.written ∧ st.written + beAt p 4 1 ≤ st.length) ∧
    (let s : State := { ws [(Reg.SVC_CORE_STATE, 0x55), (Reg.MBX_FULL, 0x400), (Reg.MBX_DATA 10 0, 0x0A420500)] with svc := { Reset.svc with stage := some ⟨1, 7, 5⟩ } }; let st : FwStage := ⟨1, 7, 5⟩;
    s.released 9 = true ∧ Asks 10 0x42 5 [] s ∧ s.svc.stage = some st) := by decide

/-- The hypotheses of ServicesAnswerAndTheWindowIsKept can be met. -/
theorem wit_ServicesAnswerAndTheWindowIsKept_4 :
    (let s : State := ws [(Reg.SVC_CORE_STATE, 0x55), (Reg.MBX_FULL, 0x400), (Reg.MBX_DATA 10 0, 0x0A410501)]; let p : List Byte := [0];
    s.released 9 = true ∧ Asks 10 0x41 5 p s ∧ s.svc.stage = none) ∧
    (let s : State := ws [(Reg.pageCtrl 0x58, 1), (Reg.LOOP_S_CFG 3, 1)]; let n : Fin 16 := 15; let o : BitVec 16 := 0x31E4;
    s.released 9 = true ∧ Takes .qspi 0x58 s ∧ o.toNat = 0x3004 + 0x20 * n.val ∧ s.shadowPending 0x58 = false) ∧
    (let s : State := ws [(Reg.LOOP_S_LIM 3, 1)]; let n : Fin 16 := 15; let o : BitVec 16 := 0x31E4;
    s.released 9 = true ∧ Takes .qspi 0x58 s ∧ o.toNat = 0x3004 + 0x20 * n.val ∧ s.shadowPending 0x58 = false) := by decide

/-- The hypotheses of ServicesAnswerAndTheWindowIsKept can be met. -/
theorem wit_ServicesAnswerAndTheWindowIsKept_5 :
    (let s : State := ws [];
    s.released 9 = true ∧ Takes .qspi 0x58 s) := by decide

/-- The hypotheses of ResetsHoldReleaseAndAreRecorded can be met. -/
theorem wit_ResetsHoldReleaseAndAreRecorded_1 :
    (let s : State := { ws [(Reg.PACE_CTRL, 0), (Reg.FIRE_CTRL, 3), (Reg.pageCtrl 0x17, 1)] with tally := { Reset.tally with life := [(0, 3)] }, fire := { Reset.fire with st := 2 }, chip := { Reset.chip with pend := [⟨0x17, 0x17, 0, false, none⟩] } };
    s.chip.por = false) ∧
    (let s : State := { ws [] with chip := { Reset.chip with por := true, rel := 0, resets := 2 ^ 32 - 1, rstLow := true }, tally := { Reset.tally with live := false } };
    s.chip.por = true ∧ s.chip.rstLow = true) ∧
    (let s : State := { ws [] with chip := { Reset.chip with rel := 0, resets := 7, rstLow := true } };
    s.chip.rstLow = true ∧ s.chip.por = false) ∧
    (let s : State := { ws [] with chip := { Reset.chip with rel := 0, resets := 7, rstLow := true, porAt := some 5 } }; let dt : Nat := 5; let t := s.elapse dt;
    s.chip.rstLow = true ∧ s.chip.por = false ∧ s.chip.porAt = some t.now) := by decide

/-- The hypotheses of ResetsHoldReleaseAndAreRecorded can be met. -/
theorem wit_ResetsHoldReleaseAndAreRecorded_2 :
    (let s : State := { ws [] with chip := { Reset.chip with rel := 0, since := 0 } }; let dt : Nat := 65520; let t := s.elapse dt;
    s.chip.por = false ∧ s.chip.rstLow = false ∧ s.chip.rel < 8 ∧ s.chip.loading = false ∧ s.chip.since + releaseBeats s.chip.rel * 4095 ≤ t.now) ∧
    (let s : State := { ws [] with chip := { Reset.chip with rel := 3, since := 0 } }; let dt : Nat := 3200; let t := s.elapse dt;
    s.chip.por = false ∧ s.chip.rstLow = false ∧ s.chip.rel < 8 ∧ s.chip.loading = false ∧ s.chip.since + releaseBeats s.chip.rel * 100 ≤ t.now) ∧
    (let s : State := { ws [] with chip := { Reset.chip with rel := 7, since := 0 } }; let dt : Nat := 800; let t := s.elapse dt;
    s.chip.por = false ∧ s.chip.rstLow = false ∧ s.chip.rel < 8 ∧ s.chip.loading = false ∧ s.chip.since + releaseBeats s.chip.rel * 100 ≤ t.now) ∧
    (let s : State := { ws [] with chip := { Reset.chip with rel := 1, loading := true } };
    s.chip.rel = 1 ∧ s.chip.loading = true) := by decide

/-- The hypotheses of ResetsHoldReleaseAndAreRecorded can be met. -/
theorem wit_ResetsHoldReleaseAndAreRecorded_3 :
    (let s : State := { ws [(Reg.pageCtrl 0x18, 1), (Reg.pageCtrl 0x19, 1)] with chip := { Reset.chip with pend := [⟨0x7E, 0x7E, 0, false, none⟩, ⟨0x18, 0x19, 2, false, none⟩] } };
    s.chip.run = none ∧ 2 ≤ s.chip.rel ∧ s.chip.pend ≠ []) ∧
    (let s : State := { ws [(Reg.pageCtrl 0x17, 3), (Reg.RST_QUIESCE_TIMEOUT 0x17, 1)] with fire := { Reset.fire with st := 2, ticks := [], anchored := true }, chip := { Reset.chip with run := some ⟨0x17, 0x17, 0, false, none⟩ } }; let dt : Nat := 1000; let t := s.elapse dt; let r : BlkReset := ⟨0x17, 0x17, 0, false, none⟩;
    s.chip.run = some r ∧ r.held = none ∧ r.page ≠ 0x01 ∧ s.released 1 = true ∧ (∃ p ∈ blkGroup r.page, quiesced p s = false) ∧ (∀ p ∈ blkGroup r.page, quiesced p s = true ∨ r.at_ + s.rf (Reg.RST_QUIESCE_TIMEOUT p) 0 16 * 1000 ≤ t.now)) ∧
    (let s : State := { ws [(Reg.RST_BUSY, 0x1701)] with chip := { Reset.chip with run := some ⟨0x30, 0x3C, 0, true, some 0⟩ } }; let dt : Nat := 16000; let t := s.elapse dt;
    (s.chip.run.map fun r => r.held) = some (some 0) ∧ 0 + 16 * 1000 ≤ t.now ∧ 2 ≤ s.chip.rel) ∧
    (let s : State := { ws [(Reg.RST_BUSY, 0x1701)] with chip := { Reset.chip with run := some ⟨1, 1, 0, false, some 0⟩ } }; let dt : Nat := 16000; let t := s.elapse dt;
    (s.chip.run.map fun r => r.held) = some (some 0) ∧ 0 + 16 * 1000 ≤ t.now ∧ 2 ≤ s.chip.rel) := by decide

/-- The hypotheses of ResetsHoldReleaseAndAreRecorded can be met. -/
theorem wit_ResetsHoldReleaseAndAreRecorded_4 :
    (let s : State := { ws [] with tally := { Reset.tally with burn := some ([1], true), life := [(0, 3)] } };
    s.tally.burn ≠ none) ∧
    (let s : State := { ws [] with tally := { Reset.tally with life := [(0, 3)] } };
    s.tally.burn = none) ∧
    (let s : State := { ws [] with chip := { Reset.chip with upSince := 0 } }; let dt : Nat := 281474976710656000; let t := s.elapse dt;
    2 ≤ s.chip.rel ∧ 2 ^ 48 * (s.chip.upWraps + 1) ≤ uptime t ∧ s.released 0 = true) := by decide

/-- The hypotheses of ResetNIsFilteredByItsLowTime can be met. -/
theorem wit_ResetNIsFilteredByItsLowTime :
    (let s : State := { ws [(Reg.PACE_CTRL, 0), (Reg.pageCtrl 0x17, 1)] with chip := { Reset.chip with pend := [⟨0x17, 0x17, 0, false, none⟩] } }; let ns : Nat := 1000;
    1000 ≤ ns) ∧
    (let s : State := ws []; let ns : Nat := 199;
    ns < 200) ∧
    (let s : State := ws []; let ns : Nat := 200;
    200 ≤ ns ∧ ns < 1000) := by decide

/-- The hypotheses of GpioAndDebugUartAct can be met. -/
theorem wit_GpioAndDebugUartAct_1 :
    (let s : State := ws [(Reg.pageCtrl 0x7E, 1), (Reg.GPIO_OUT, 0x00F0), (Reg.GPIO_DIR, 0xFFFF)];
    Takes .qspi 0x7E s) ∧
    (let s : State := ws [(Reg.pageCtrl 0x7E, 1), (Reg.GPIO_DIR, 0x7FFF), (Reg.GPIO_IN, 0x8000), (Reg.GPIO_FALL, 0x8000)]; let n : Fin 16 := 15;
    s.released 0x7E = true ∧ s.rb Reg.GPIO_DIR n = false ∧ s.rb Reg.GPIO_IN n ≠ false ∧ s.rb Reg.GPIO_FALL n = true) ∧
    (let s : State := ws [(Reg.pageCtrl 0x7E, 1), (Reg.GPIO_DIR, 0xFFFE), (Reg.GPIO_FALL, 0xFFFF)]; let n : Fin 16 := 0;
    s.released 0x7E = true ∧ s.rb Reg.GPIO_DIR n = false ∧ s.rb Reg.GPIO_IN n ≠ true ∧ s.rb Reg.GPIO_RISE n = false) ∧
    (let s : State := { ws [(Reg.pageCtrl 0x7F, 1), (Reg.DEBUG_UART_CTRL, 1)] with dbg := ⟨List.replicate 15 1, List.replicate 15 2⟩ };
    Takes .qspi 0x7F s ∧ s.rb Reg.DEBUG_UART_CTRL 0 = true ∧ s.dbg.tx.length < 16 ∧ s.enabled 0x7F = true ∧ s.dbg.rx.length < 16) := by decide

/-- The hypotheses of GpioAndDebugUartAct can be met. -/
theorem wit_GpioAndDebugUartAct_2 :
    (let s : State := { ws [(Reg.pageCtrl 0x7F, 1), (Reg.DEBUG_UART_CTRL, 1)] with dbg := ⟨List.replicate 16 1, List.replicate 16 2⟩ };
    Takes .qspi 0x7F s ∧ 16 ≤ s.dbg.tx.length ∧ s.rb Reg.DEBUG_UART_CTRL 0 = true ∧ s.enabled 0x7F = true ∧ 16 ≤ s.dbg.rx.length) ∧
    (let s : State := ws [(Reg.pageCtrl 0x7F, 1), (Reg.DEBUG_UART_CTRL, 0)];
    Takes .qspi 0x7F s ∧ s.rb Reg.DEBUG_UART_CTRL 0 = false) ∧
    (let s : State := { ws [] with jtag := { Reset.jtag with phase := .captureDr, op := .idcode } }; let l : List Bool := List.replicate 31 false;
    s.jtag.phase = .captureDr ∧ s.jtag.op = .idcode ∧ l.length < 32) ∧
    (let s : State := { ws [] with jtag := { Reset.jtag with op := .highz } };
    s.jtag.op = .highz) := by decide

/-- The hypotheses of ReadsThatLatchTakeOrClear can be met. -/
theorem wit_ReadsThatLatchTakeOrClear_1 :
    (let s : State := ws [(Reg.FAB_C0_LAT_MAX, 9)];
    Reads .qspi 4 s) ∧
    (let s : State := ws [(Reg.INFL_BAND_TIME_MAX, 9)];
    Reads .svc 0x11 s) ∧
    (let s : State := ws [(0x4003312C, 7), (0x40033130, 0xFFFFFFFF), (0x40033134, 9)];
    (0x40033130#32).toNat = pg 0x33 0x130 ∧ Reads .udp 0x33 s ∧ wideLow 0x33 0x130 = true) ∧
    (let s : State := State.reset;
    (0x40000048#32).toNat = pg 0 0x48 ∧ Reads .qspi 0 s ∧ wideLow 0 0x48 = true) := by decide

/-- The hypotheses of ReadsThatLatchTakeOrClear can be met. -/
theorem wit_ReadsThatLatchTakeOrClear_2 :
    (let s : State := { ws [(Reg.pageCtrl 0x1C, 1), (Reg.WEB_ENC_CFG 0, 1)] with web := { Reset.web with enc0 := { Reset.web.enc0 with cnt := 0xFFFFFFF0, valid := true, dir := 1, tCount := 1000 } } }; let dt : Nat := 5; let t := s.elapse dt;
    Reads .svc 0x1C s) ∧
    (let s : State := { ws [(Reg.pageCtrl 0x42, 1)] with time := { Reset.time with acc := 2 ^ 96 - 1, epoch := [1, 2, 3, 4] } }; let dt : Nat := 5; let t := s.elapse dt;
    Reads .qspi 0x42 s) ∧
    (let s : State := (ws [(Reg.pageCtrl 0x23, 1)]).setCam 3 { Reset.cam with stats := [9, 8, 7, 6, 5, 4] }; let dt : Nat := 5; let t := s.elapse dt; let p : Fin 4 := 3;
    Reads .chain (0x20 + p.val) s) ∧
    (let s : State := { ws [(Reg.LOOP_MON_SEL, 127)] with loop := { Reset.loop with slots := [(127, { Reset.slot with y := -1, u := -32768, i := 77, e := -5 })] } }; let dt : Nat := 5; let t := s.elapse dt;
    Reads .udp 0x58 s) := by decide

/-- The hypotheses of ReadsThatLatchTakeOrClear can be met. -/
theorem wit_ReadsThatLatchTakeOrClear_3 :
    (let s : State := { ws [] with tally := { Reset.tally with life := [(4, 2 ^ 64 - 1)], hist := List.replicate 16 ⟨9, true, [(0, 5), (4, 6)]⟩ } }; let dt : Nat := 5; let t := s.elapse dt;
    Reads .svc 0x70 s) ∧
    (let s : State := { ws [(Reg.LOOPCAP_ADDR, 16383)] with loop := { Reset.loop with cap := [(16383, 99)] } };
    Reads .svc 0x59 s) ∧
    (let s : State := { ws [] with dbg := ⟨[], [7, 8]⟩ };
    Reads .svc 0x7F s) ∧
    (let s : State := ws [];
    Reads .svc 0x7F s ∧ s.dbg.rx = []) := by decide

/-- The hypotheses of PressAndFiringCommandsTouchOnlyTheirOwn can be met. -/
theorem wit_PressAndFiringCommandsTouchOnlyTheirOwn :
    (let s : State := State.reset;
    Untraced s ∧ Takes .qspi 0x10 s ∧ Takes .qspi 0x17 s ∧ Takes .qspi 0x18 s ∧ Takes .qspi 3 s) := by decide

/-- The hypotheses of WebCameraAndTraverseCommandsTouchOnlyTheirOwn can be met. -/
theorem wit_WebCameraAndTraverseCommandsTouchOnlyTheirOwn :
    (let s : State := State.reset;
    Untraced s ∧ Takes .qspi 0x20 s ∧ Takes .qspi 0x23 s ∧ Takes .qspi 0x1C s ∧ Takes .qspi 0x28 s) := by decide

/-- The hypotheses of LaneChainAndTimeCommandsTouchOnlyTheirOwn can be met. -/
theorem wit_LaneChainAndTimeCommandsTouchOnlyTheirOwn :
    (let s : State := State.reset;
    Untraced s ∧ Takes .qspi 0x30 s ∧ Takes .qspi 0x3B s ∧ Takes .qspi 0x42 s) := by decide

/-- The hypotheses of MemoryDeflateAndLoopCommandsTouchOnlyTheirOwn can be met. -/
theorem wit_MemoryDeflateAndLoopCommandsTouchOnlyTheirOwn :
    (let s : State := State.reset;
    Untraced s ∧ Takes .qspi 0x49 s ∧ Takes .qspi 0x50 s ∧ Takes .qspi 0x58 s ∧ Takes .qspi 0x59 s) := by decide

/-- The hypotheses of MotionPairTallyAndServiceCommandsTouchOnlyTheirOwn can be met. -/
theorem wit_MotionPairTallyAndServiceCommandsTouchOnlyTheirOwn :
    (let s : State := State.reset;
    Untraced s ∧ Takes .qspi 0x60 s ∧ Takes .qspi 0x68 s ∧ Takes .qspi 8 s ∧ Takes .qspi 9 s) := by decide

/-- The hypotheses of WideReachingCommandsKeepWhatTheyDoNotName can be met. -/
theorem wit_WideReachingCommandsKeepWhatTheyDoNotName :
    (let s : State := State.reset;
    Untraced s ∧ Takes .qspi 0x17 s) := by decide

/-- The hypotheses of WhatFollowsACommandKeepsTheRest can be met. -/
theorem wit_WhatFollowsACommandKeepsTheRest :
    (let s : State := State.reset;
    Untraced s ∧ s.chip.run = none) := by decide

end Sys2Proof.Tests
end

section
/-! The interrupt pins. Whatever a command does, its effect ends in `settle`, and the last act of `settle` is `irqShow`: so IRQ_N is
judged anew on the very registers the step leaves behind (R37). -/
namespace Sys2Proof.Machine

/-- Once shown, the pins follow the state: `irqShow` writes neither the registers nor the release that the pins are judged by. -/
theorem irqFollows_irqShow (s : State) : IrqFollows (irqShow s) := rfl

/-- The last act of `settle` is to show the pins. -/
theorem irqFollows_settle (s : State) : IrqFollows (settle s) := irqFollows_irqShow _

/-- Each arm of `exec` is a `run`, so its outcome is a settled state. -/
theorem exec_eq_next_settle (c : Instr) (s : State) : ∃ u, exec c s = .next (settle u) := by
  cases c <;> exact ⟨_, rfl⟩

theorem irqFollows_of_exec {c : Instr} {s t : State} (h : exec c s = .next t) : IrqFollows t := by
  obtain ⟨u, hu⟩ := exec_eq_next_settle c s
  have ht : settle u = t := Host.Outcome.next.inj (hu ▸ h)
  exact ht ▸ irqFollows_settle u

theorem step_of_pending_nil {s : State} (h : s.pending = []) : step s = .next s := by
  simp only [step, h]

theorem step_of_pending_cons {s : State} {c : Instr} {rest : List Instr} (h : s.pending = c :: rest) :
    step s = exec c { s with pending := rest } := by
  simp only [step, h]

/-- Settles O2. An idle step keeps the pins as they were; a command leaves them as R37 gives them, whatever they were before. -/
theorem everyStepKeepsTheInterruptPins : Obligations.EveryStepKeepsTheInterruptPins := by
  intro s t hs hstep
  cases hq : s.pending with
  | nil =>
    have hidle : s = t := Host.Outcome.next.inj ((step_of_pending_nil hq).symm.trans hstep)
    exact hidle ▸ hs
  | cons c rest => exact irqFollows_of_exec ((step_of_pending_cons hq).symm.trans hstep)

end Sys2Proof.Machine
end

section
/-! The index of an encoder (R195, R196). What the index takes (the datum, its time stamp, the count and INDEX) is one state, `indexTaken`;
after it the encoder is reloaded, withheld with IDXSKIP, or left alone. A reload moves compare targets on, which touches no encoder. -/
namespace Sys2Proof.Machine

/-! ### Encoders read back -/

@[simp] theorem enc_setEnc_self (s : State) (e : Nat) (x : EncSt) : (s.setEnc e x).enc e = x := by
  by_cases h : e = 0 <;> simp [State.enc, State.setEnc, h]

theorem enc_of_web_eq {s t : State} (h : t.web = s.web) (e : Nat) : t.enc e = s.enc e := by
  simp only [State.enc, h]

@[simp] theorem elapse_enc (s : State) (dt e : Nat) : (s.elapse dt).enc e = s.enc e := rfl

theorem encStamp_setEnc (s : State) (e f : Nat) (x : EncSt) : encStamp e (s.setEnc f x) = encStamp e s := by
  simp [encStamp, State.timeNs64]

theorem onPage_released {p : Nat} {s : State} (h : s.released p = true) (f : State → State) : onPage p f s = f s := if_pos h

/-! ### Moving compare targets on (R204, R206) -/

/-- The registers that WEB's events and the count of compare events may change. -/
def webEventRegs : List Nat := Reg.errCount 0x1C 3 :: evtRegs 0x1C

/-- From `s` to `t` WEB has at most raised events, counted compare events and moved compare outputs: the encoders and every other
register stand, and no event bit is taken back. -/
structure KeepsEncoders (s t : State) : Prop where
  enc : ∀ e, t.enc e = s.enc e
  reg : ∀ a, a ∉ webEventRegs → t.reg a = s.reg a
  evt : ∀ p j, s.rb (Reg.evtStatus p) j = true → t.rb (Reg.evtStatus p) j = true

namespace KeepsEncoders

protected theorem refl (s : State) : KeepsEncoders s s := ⟨fun _ => rfl, fun _ _ => rfl, fun _ _ => id⟩

protected theorem trans {s t u : State} (h : KeepsEncoders s t) (g : KeepsEncoders t u) : KeepsEncoders s u :=
  ⟨fun e => (g.enc e).trans (h.enc e), fun a ha => (g.reg a ha).trans (h.reg a ha), fun p j hj => g.evt p j (h.evt p j hj)⟩

theorem setCmp (s : State) (l : List (Nat × CmpSt)) : KeepsEncoders s { s with web := { s.web with cmp := l } } :=
  ⟨fun _ => rfl, fun _ _ => rfl, fun _ _ => id⟩

theorem raise (s : State) {b : Nat} (hb : b < 32) : KeepsEncoders s (raise 0x1C b s) :=
  ⟨enc_of_web_eq (raise_web s 0x1C b), fun _ ha => raise_reg s 0x1C b fun h => ha (List.mem_cons_of_mem _ h),
    fun p j => raise_rb s 0x1C b p j hb⟩

theorem setErrCount (s : State) (w : Word) : KeepsEncoders s (s.setReg (Reg.errCount 0x1C 3) w) where
  enc _ := rfl
  reg _ ha := reg_setReg_ne s (fun h => ha (List.mem_cons.2 (.inl h))) w
  evt p j hj := by
    have hne : Reg.evtStatus p ≠ Reg.errCount 0x1C 3 := by simp only [Reg.evtStatus, Reg.errCount, pg]; omega
    rwa [rb_setReg_ne s hne]

theorem setIncs (s : State) (l : List (Nat × Nat)) : KeepsEncoders s { s with incs := l } :=
  ⟨fun _ => rfl, fun _ _ => rfl, fun _ _ => id⟩

theorem countN (n : Nat) (s : State) : KeepsEncoders s (countN 0x1C (Reg.errCount 0x1C 3) n s) := by
  unfold Machine.countN
  split
  · exact .refl s
  · extract_lets t v u
    have ht : KeepsEncoders s t := setIncs s _
    have hu : KeepsEncoders s u := ht.trans (setErrCount t _)
    split
    · exact ht
    · split
      · exact hu.trans (raise u (by decide))
      · exact hu

theorem cmpLatch (c i : Nat) (s : State) : KeepsEncoders s (cmpLatch c i s) := by
  simp only [Machine.cmpLatch]
  split
  · exact setCmp s _
  · exact .trans (setCmp s _) (raise _ (by decide))

theorem cmpAdvance (c : Nat) (s : State) : KeepsEncoders s (cmpAdvance c s) := by
  simp only [Machine.cmpAdvance]
  split
  · exact setCmp s _
  · split
    · exact cmpLatch c _ s
    · split
      · exact cmpLatch c _ s
      · exact .trans (setCmp s _) (raise _ (by decide))

/-- Targets skipped: the event and its count. -/
theorem skipTargets (n : Nat) (l : List (Nat × CmpSt)) (s : State) : KeepsEncoders s
    (Machine.countN 0x1C (Reg.errCount 0x1C 3) n (Machine.raise 0x1C 19 { s with web := { s.web with cmp := l } })) :=
  .trans (.trans (setCmp s l) (raise _ (by decide))) (countN n _)

theorem cmpSkipTo (c x f : Nat) (s : State) : KeepsEncoders s (cmpSkipTo c x f s) := by
  induction f generalizing s with
  | zero => exact .refl s
  | succ f ih =>
    rw [Machine.cmpSkipTo]
    extract_lets
    split
    · exact .refl s
    · split
      · exact skipTargets ..
      · exact .trans (.trans (skipTargets ..) (cmpAdvance c _)) (ih _)

theorem each {α : Type} {f : α → State → State} (h : ∀ a s, KeepsEncoders s (f a s)) (l : List α) (s : State) :
    KeepsEncoders s (each l f s) := by
  induction l generalizing s with
  | nil => exact .refl s
  | cons a l ih => exact .trans (h a s) (ih (f a s))

theorem cmpSkip (enc1 : Bool) (x : Nat) (s : State) : KeepsEncoders s (cmpSkip enc1 x s) :=
  each (fun c s => by
    split
    · exact cmpSkipTo c x 1024 s
    · exact .refl s) _ s

end KeepsEncoders

/-! ### What an index takes (R195) -/

/-- The encoder once its index line has taken a new level. -/
def indexSeen (e : Nat) (s : State) : EncSt := { s.enc e with iAt := some s.now }

/-- An index is taken: the datum, its time stamp, WEB_IDXCNT and INDEX. -/
def indexTaken (e : Nat) (s : State) : State :=
  raise 0x1C 13 (stat 0x1C (Reg.WEB_IDXCNT e) 1
    (((s.setEnc e (indexSeen e s)).setReg (Reg.WEB_DATUM e) (W (s.enc e).cnt)).setReg (Reg.WEB_DATUM_T e) (W (encStamp e s))))

/-- The encoder once its index has reloaded it: the load word is its count, and ARM_ONCE is spent. -/
def indexReloaded (e : Nat) (s : State) : EncSt :=
  { encJump ((indexTaken e s).reg (Reg.WEB_IDX_LOAD e)).toNat (indexTaken e s).timeNs64 (indexSeen e s) with
    armed := if s.rf (Reg.WEB_ENC_CFG e) 3 2 = 2 then false else (s.enc e).armed }

/-- The gate of an index, WEB_ENC_CFG bit 2, is off or finds A and B high. -/
abbrev IndexGate (e : Nat) (s : State) : Prop :=
  s.rb (Reg.WEB_ENC_CFG e) 2 = false ∨ ((s.enc e).a = true ∧ (s.enc e).b = true)

/-- IDX_MODE asks for a reload: it is 1, or ARM_ONCE with the encoder armed. -/
abbrev ReloadAsked (e : Nat) (s : State) : Prop :=
  s.rf (Reg.WEB_ENC_CFG e) 3 2 = 1 ∨ (s.rf (Reg.WEB_ENC_CFG e) 3 2 = 2 ∧ (s.enc e).armed = true)

/-- `u` shows an index of encoder `e` taken at `s`. -/
structure ShowsIndex (e : Nat) (s u : State) : Prop where
  datum : u.reg (Reg.WEB_DATUM e) = W (s.enc e).cnt
  stamp : u.reg (Reg.WEB_DATUM_T e) = W (encStamp e s)
  count : u.reg (Reg.WEB_IDXCNT e) = s.reg (Reg.WEB_IDXCNT e) + 1
  event : u.rb (Reg.evtStatus 0x1C) 13 = true

theorem ShowsIndex.setEnc {e : Nat} {s u : State} (h : ShowsIndex e s u) (f : Nat) (x : EncSt) : ShowsIndex e s (u.setEnc f x) := by
  obtain ⟨hd, ht, hc, he⟩ := h
  constructor <;> simpa

/-- The registers an index shows its datum in are none that an event or a skipped target changes. -/
theorem indexRegs_not_webEvent (e : Nat) :
    Reg.WEB_DATUM e ∉ webEventRegs ∧ Reg.WEB_DATUM_T e ∉ webEventRegs ∧ Reg.WEB_IDXCNT e ∉ webEventRegs := by
  simp only [webEventRegs, evtRegs, List.mem_cons, List.not_mem_nil, or_false, not_or, Reg.evtStatus, Reg.errCount, pg,
    Reg.DEBUG_TRACE_WPTR, Reg.DEBUG_TRACE_LOST, Reg.WEB_DATUM, Reg.WEB_DATUM_T, Reg.WEB_IDXCNT]
  omega

theorem ShowsIndex.keeps {e : Nat} {s u v : State} (h : ShowsIndex e s u) (k : KeepsEncoders u v) : ShowsIndex e s v := by
  obtain ⟨hd, ht, hc⟩ := indexRegs_not_webEvent e
  exact ⟨(k.reg _ hd).trans h.datum, (k.reg _ ht).trans h.stamp, (k.reg _ hc).trans h.count, k.evt 0x1C 13 h.event⟩

theorem indexTaken_enc (e : Nat) (s : State) : (indexTaken e s).enc e = indexSeen e s :=
  (enc_of_web_eq (by simp [indexTaken]) e).trans (enc_setEnc_self s e (indexSeen e s))

theorem indexTaken_fire (e : Nat) (s : State) : (indexTaken e s).fire = s.fire := by simp [indexTaken]

theorem indexTaken_released (e : Nat) (s : State) (p : Nat) : (indexTaken e s).released p = s.released p := by simp [indexTaken]

theorem indexTaken_showsIndex (e : Nat) {s : State} (hr : s.released 0x1C = true) : ShowsIndex e s (indexTaken e s) := by
  obtain ⟨hd, ht, hc⟩ := indexRegs_not_webEvent e
  have event {a : Nat} (h : a ∉ webEventRegs) : a ∉ evtRegs 0x1C := fun h' => h (List.mem_cons_of_mem _ h')
  have hdt : Reg.WEB_DATUM e ≠ Reg.WEB_DATUM_T e := by simp
  have hdc : Reg.WEB_DATUM e ≠ Reg.WEB_IDXCNT e := by simp
  have htc : Reg.WEB_DATUM_T e ≠ Reg.WEB_IDXCNT e := by simp
  refine ⟨?_, ?_, ?_, raise_rb_self _ 0x1C 13 (by decide) (by simpa using hr)⟩
  · rw [indexTaken, raise_reg _ _ _ (event hd), stat_reg_ne _ _ _ _ hdc (event hd), reg_setReg_ne _ hdt, reg_setReg_self]
  · rw [indexTaken, raise_reg _ _ _ (event ht), stat_reg_ne _ _ _ _ htc (event ht), reg_setReg_self]
  · rw [indexTaken, raise_reg _ _ _ (event hc), stat_reg_self _ _ _ _ (event hc), reg_setReg_ne _ htc.symm,
      reg_setReg_ne _ hdc.symm, State.setEnc_reg]
    exact (BitVec.ofNat_add ..).trans (congrArg (· + 1) (W_word _))

/-- A load word is none of the words an index writes. -/
theorem indexTaken_load (e : Fin 2) (s : State) : (indexTaken e s).reg (Reg.WEB_IDX_LOAD e) = s.reg (Reg.WEB_IDX_LOAD e) := by
  have h : Reg.WEB_IDX_LOAD e ∉ evtRegs 0x1C ∧ Reg.WEB_IDX_LOAD e ≠ Reg.WEB_IDXCNT e ∧
      Reg.WEB_IDX_LOAD e ≠ Reg.WEB_DATUM e ∧ Reg.WEB_IDX_LOAD e ≠ Reg.WEB_DATUM_T e := by
    revert e; decide
  obtain ⟨hv, hc, hd, ht⟩ := h
  rw [indexTaken, raise_reg _ _ _ hv, stat_reg_ne _ _ _ _ hc hv, reg_setReg_ne _ ht, reg_setReg_ne _ hd, State.setEnc_reg]

theorem indexReloaded_cnt (e : Fin 2) (s : State) : (indexReloaded e s).cnt = (s.reg (Reg.WEB_IDX_LOAD e)).toNat :=
  congrArg BitVec.toNat (indexTaken_load e s)

/-! ### The outcomes of an index (R195, R196) -/

theorem encIndex_unfiltered {e : Nat} {s : State} (h : filtered e 2 (s.enc e).iAt s = false) : encIndex e s = s := by
  simp [encIndex, h]

section
variable {e : Nat} {s : State} (hf : filtered e 2 (s.enc e).iAt s = true) (hg : IndexGate e s)
include hf hg

/-- A filtered index that its gate lets through is taken, and then acts on IDX_MODE. -/
theorem encIndex_taken : encIndex e s =
    if ¬ ReloadAsked e s then indexTaken e s
    else if e = 0 ∧ 2 ≤ (indexTaken e s).fire.st then raise 0x1C 14 (indexTaken e s)
    else
      let v := ((indexTaken e s).reg (Reg.WEB_IDX_LOAD e)).toNat
      let t := (indexTaken e s).setEnc e (indexReloaded e s)
      if e = 1 then cmpSkip true v t else if t.web.src = .enc then cmpSkip false v t else t := by
  have hgate : (bit (s.reg (Reg.WEB_ENC_CFG e)) 2 && !((s.enc e).a && (s.enc e).b)) = false := by
    rcases hg with h | ⟨ha, hb⟩
    · simp [show bit (s.reg (Reg.WEB_ENC_CFG e)) 2 = false from h]
    · simp [ha, hb]
  simp only [encIndex, hf, hgate, encStamp_setEnc]
  rfl

theorem encIndex_unasked (ha : ¬ ReloadAsked e s) : encIndex e s = indexTaken e s := by
  rw [encIndex_taken hf hg, if_pos ha]

/-- An index of ENC0 while FIRE is in RUN or INHIBIT reloads nothing (R196). -/
theorem encIndex_withheld (ha : ReloadAsked e s) (he : e = 0) (hst : 2 ≤ s.fire.st) :
    encIndex e s = raise 0x1C 14 (indexTaken e s) := by
  rw [encIndex_taken hf hg, if_neg (not_not_intro ha), if_pos ⟨he, (indexTaken_fire e s).symm ▸ hst⟩]

/-- Any other reload jumps the count to the load word; only compare targets move after it (R195, R206). -/
theorem encIndex_reloaded (ha : ReloadAsked e s) (hst : ¬ (e = 0 ∧ 2 ≤ s.fire.st)) :
    KeepsEncoders ((indexTaken e s).setEnc e (indexReloaded e s)) (encIndex e s) := by
  rw [encIndex_taken hf hg, if_neg (not_not_intro ha), if_neg (by rwa [indexTaken_fire])]
  extract_lets
  split
  · exact .cmpSkip ..
  · split
    · exact .cmpSkip ..
    · exact .refl _

/-- However IDX_MODE has it act, an index that is taken shows its datum. -/
theorem encIndex_showsIndex (hr : s.released 0x1C = true) : ShowsIndex e s (encIndex e s) := by
  have hshow := indexTaken_showsIndex e hr
  by_cases ha : ReloadAsked e s
  · by_cases hst : e = 0 ∧ 2 ≤ s.fire.st
    · rw [encIndex_withheld hf hg ha hst.1 hst.2]
      exact hshow.keeps (.raise _ (by decide))
    · exact (hshow.setEnc e (indexReloaded e s)).keeps (encIndex_reloaded hf hg ha hst)
  · rwa [encIndex_unasked hf hg ha]

end

/-- Settles O29. The witness is the index's own effect; each clause is one of its outcomes. -/
theorem anIndexReloadIsWithheldWhileFireRuns : Obligations.AnIndexReloadIsWithheldWhileFireRuns := by
  intro dt e s hs
  have hr : (s.elapse dt).released 0x1C = true := hs
  have hexec : exec (.index dt e) s = .next (settle (encIndex e (s.elapse dt))) :=
    congrArg (fun u => Host.Outcome.next (settle u)) (onPage_released hr (encIndex e))
  refine ⟨fun hf => hexec.trans (by rw [encIndex_unfiltered hf]), fun hf hg => ?_⟩
  obtain ⟨hd, ht, hc, he⟩ := encIndex_showsIndex (s := s.elapse dt) hf hg hr
  refine ⟨_, hexec, hd, ht, hc, he, fun hm => ?_, ?_⟩
  · have hna : ¬ ReloadAsked e (s.elapse dt) := by simp [ReloadAsked, hm]
    rw [encIndex_unasked (s := s.elapse dt) hf hg hna]
    exact indexTaken_enc e (s.elapse dt)
  · rintro _ rfl ha
    refine ⟨fun hor => ?_, fun h0 hst => ?_⟩
    · have hrun : ¬ (e.val = 0 ∧ 2 ≤ (s.elapse dt).fire.st) := by
        rintro ⟨h0, hst⟩
        rcases hor with rfl | hlt
        · exact absurd h0 (by decide)
        · exact absurd hst (Nat.not_le.2 hlt)
      rw [(encIndex_reloaded (s := s.elapse dt) hf hg ha hrun).enc, enc_setEnc_self, indexReloaded_cnt]
      rfl
    · rw [encIndex_withheld (s := s.elapse dt) hf hg ha (congrArg Fin.val h0) hst]
      exact ⟨(enc_of_web_eq (raise_web ..) e).trans (indexTaken_enc e (s.elapse dt)),
        raise_rb_self _ 0x1C 14 (by decide) ((indexTaken_released e _ 0x1C).trans hr)⟩

end Sys2Proof.Machine
end

section
/-! The chip reset (R402, R405). Its three passes run over every page but TALLY's: after the second every register of such a page
stands at its reset word, and the third touches no register. So a reset is whole, whichever of the free answers lets it happen. -/
namespace Sys2Proof.Machine

/-! ### Passes over a list -/

/-- What every item's step keeps, the pass keeps. -/
theorem each_keeps {α σ : Type} {f : α → σ → σ} {P : σ → Prop} (hkeep : ∀ a s, P s → P (f a s)) (l : List α) {s : σ} (hs : P s) :
    P (each l f s) :=
  List.foldlRecOn l _ hs fun s hs a _ => hkeep a s hs

/-- What one item's step brings about and every step keeps holds after the pass. -/
theorem each_reaches {α σ : Type} {f : α → σ → σ} {P : σ → Prop} (hkeep : ∀ a s, P s → P (f a s)) {a : α} (ha : ∀ s, P (f a s))
    {l : List α} (hl : a ∈ l) (s : σ) : P (each l f s) := by
  induction l generalizing s with
  | nil => exact absurd hl List.not_mem_nil
  | cons b t ih =>
    rcases List.mem_cons.1 hl with rfl | ht
    · exact each_keeps hkeep t (ha s)
    · exact ih ht (f b s)

/-- What of the state each step answers from the same part of it, the pass does too. -/
theorem each_hom {α σ τ : Type} {π : σ → τ} {f : α → σ → σ} {g : α → τ → τ} (h : ∀ a s, π (f a s) = g a (π s)) (l : List α) (s : σ) :
    π (each l f s) = each l g (π s) :=
  (List.foldl_hom π fun s a => (h a s).symm).symm

/-! ### Words returned to their default -/

theorem mget_mclear_mem {β : Type} (d : Nat → β) {lo hi a : Nat} (hlo : lo ≤ a) (hhi : a < hi) (l : List (Nat × β)) :
    mget d (mclear lo hi l) a = d a :=
  mget_filter_drop d (fun k => !(decide (lo ≤ k) && decide (k < hi))) (by simp only [hlo, hhi, decide_true, Bool.and_self, Bool.not_true]) l

theorem mget_mclear_default {β : Type} (d : Nat → β) (lo hi : Nat) {a : Nat} {l : List (Nat × β)} (h : mget d l a = d a) :
    mget d (mclear lo hi l) a = d a := by
  by_cases hr : lo ≤ a ∧ a < hi
  · exact mget_mclear_mem d hr.1 hr.2 l
  · have hout : (!(decide (lo ≤ a) && decide (a < hi))) = true := by rw [← Bool.decide_and, decide_eq_false hr, Bool.not_false]
    exact (mget_filter_keep d (fun k => !(decide (lo ≤ k) && decide (k < hi))) hout l).trans h

/-- Of the register words, clearing a page clears its address ranges one after the other. -/
theorem clearWords_words (p : Nat) (s : State) :
    (clearWords p s).words = each (pageRanges p) (fun r l => mclear r.1 r.2 l) s.words :=
  each_hom (π := State.words) (fun _ _ => rfl) (pageRanges p) s

/-- Clearing a page leaves a register that stands at its reset value there. -/
theorem clearWords_keeps_reset (p : Nat) {a : Nat} (s : State) (h : s.reg a = resetWord a) : (clearWords p s).reg a = resetWord a := by
  rw [State.reg, clearWords_words]
  exact each_keeps (P := fun l => mget resetWord l a = resetWord a) (fun r _ hl => mget_mclear_default resetWord r.1 r.2 hl) _ h

/-- Clearing a page returns each of its registers to its reset value. -/
theorem reg_clearWords (p : Nat) {o : Nat} (ho : o < 0x1000) (s : State) : (clearWords p s).reg (pg p o) = resetWord (pg p o) := by
  have hfirst : (pg p 0, pg p 0 + 0x1000) ∈ pageRanges p := List.mem_cons_self
  rw [State.reg, clearWords_words]
  refine each_reaches (P := fun l => mget resetWord l (pg p o) = resetWord (pg p o)) (fun r _ hl => ?_) (fun l => ?_) hfirst s.words
  · exact mget_mclear_default resetWord r.1 r.2 hl
  · exact mget_mclear_mem resetWord (by simp only [pg]; omega) (by simp only [pg]; omega) l

/-- What a block holds behind its registers returns to its reset state without a register word. -/
theorem blockClear_words (p : Nat) (s : State) : (blockClear p s).words = s.words := by
  unfold blockClear
  repeat' split
  all_goals rfl

/-! ### The reset as a whole -/

/-- Of the register words, the chip reset is its three passes. -/
theorem chipReset_words (s : State) :
    (chipReset s).words =
      (each (pages.filter (· != 0x70)) blockClear
        (each (pages.filter (· != 0x70)) clearWords (each (pages.filter (· != 0x70)) outputsOff s))).words := by
  unfold chipReset
  with_reducible rfl

/-- The chip reset returns every register of every page but TALLY's to its reset value. -/
theorem reg_chipReset {p o : Nat} (hp : p ∈ pages) (hp' : p ≠ 0x70) (ho : o < 0x1000) (s : State) :
    (chipReset s).reg (pg p o) = resetWord (pg p o) := by
  have hmem : p ∈ pages.filter (· != 0x70) := List.mem_filter.2 ⟨hp, bne_iff_ne.2 hp'⟩
  rw [State.reg, chipReset_words]
  generalize pages.filter (· != 0x70) = ps at hmem ⊢
  generalize each ps outputsOff s = t
  have hcleared : (each ps clearWords t).reg (pg p o) = resetWord (pg p o) :=
    each_reaches (P := fun u : State => u.reg (pg p o) = resetWord (pg p o)) (fun q u hu => clearWords_keeps_reset q u hu)
      (reg_clearWords p ho) hmem t
  exact each_keeps (P := fun u : State => mget resetWord u.words (pg p o) = resetWord (pg p o))
    (fun q u hu => by rwa [blockClear_words]) ps hcleared

/-- Over the chip reset, RESET_N's only marks the pin as low. -/
theorem rstAssert_words (s : State) : (rstAssert s).words = (chipReset s).words := by
  unfold rstAssert
  with_reducible rfl

theorem reg_rstAssert (s : State) (a : Nat) : (rstAssert s).reg a = (chipReset s).reg a := by
  rw [State.reg, rstAssert_words, State.reg]

/-- RESET_N's reset is whole: no domain stays released, no block reset is left waiting or running, every register is at reset. -/
theorem rstAssert_whole (s : State) :
    (rstAssert s).chip.rel = 0 ∧ (rstAssert s).chip.rstLow = true ∧ (rstAssert s).chip.pend = [] ∧ (rstAssert s).chip.run = none ∧
      ∀ p ∈ pages, p ≠ 0x70 → ∀ o < 0x1000, (rstAssert s).reg (pg p o) = resetWord (pg p o) :=
  ⟨rfl, rfl, rfl, rfl, fun p hp hp' o ho => (reg_rstAssert s (pg p o)).trans (reg_chipReset hp hp' ho s)⟩

/-! ### The filter of RESET_N (R402) -/

theorem rstLowFor_long {ns : Nat} (h : 1000 ≤ ns) (s : State) : rstLowFor ns s = rstAssert s := if_pos h

theorem rstLowFor_short {ns : Nat} (h : ns < 200) (s : State) : rstLowFor ns s = s := by
  rw [rstLowFor, if_neg (by omega), if_pos h]

/-- Between the two limits one free value is taken, and it decides between the whole reset and none. -/
theorem rstLowFor_between {ns : Nat} (hlo : 200 ≤ ns) (hhi : ns < 1000) (s : State) :
    rstLowFor ns s = if s.freeB.1 then rstAssert s.freeB.2 else s.freeB.2 := by
  rw [rstLowFor, if_neg (by omega), if_neg (by omega)]

/-- Settles O51, one clause per range of the filter. -/
theorem resetNIsFilteredByItsLowTime : Obligations.ResetNIsFilteredByItsLowTime := by
  intro dt ns s
  have hexec : exec (.resetNLow dt ns) s = .next (settle (rstLowFor ns (s.elapse dt))) := rfl
  refine ⟨⟨_, hexec⟩, fun hlong => ?_, fun hshort => ?_, fun hlo hhi => ⟨_, hexec, ?_⟩⟩
  · rw [rstLowFor_long hlong] at hexec
    exact ⟨_, hexec, rfl, rstAssert_whole _⟩
  · rwa [rstLowFor_short hshort] at hexec
  · rw [rstLowFor_between hlo hhi]
    split
    · exact .inl (rstAssert_whole _)
    · exact .inr rfl

end Sys2Proof.Machine
end
